-- ==== Sys2Proof/Word.lean ====
section
/-! DEFINITION. The byte and the 16-bit word that the lines carry (spec/11, R183).

Every quantity of the part that the manual counts with (pm, su, seconds, counts) is a `Nat`;
bytes appear only where a frame or a record is laid out. -/

namespace Sys2Proof

/-- One byte on a line. -/
abbrev Byte := BitVec 8

/-- The CRC register of R183. -/
abbrev Word16 := BitVec 16

end Sys2Proof
end

