-- ==== Sys2Proof/Config.lean ====
section
/-! DEFINITION. What one TW-240 fixes: periods in milliseconds, capacities and hold values.

The manual leaves no register or result value open, so this file holds no free value. Bit times stand in no
constant (assumption log 3). -/

namespace Sys2Proof.Config

/-- The filter of a discrete input, 10 ms (R187). -/
def filterTime : Nat := 10

/-- The step timer of the channel table, 100 ms (R8). -/
def stepPeriod : Nat := 100

/-- The refill timer of the admission unit, 100 ms (R29). -/
def refillPeriod : Nat := 100

/-- The poll answer window, 50 ms (R13). -/
def answerWindow : Nat := 50

/-- The answer period after a POLL-ALL, 500 ms (R180). -/
def answerPeriod : Nat := 500

/-- The start-confirm timer, 5 s (R15). -/
def startConfirmTime : Nat := 5000

/-- The starvation timer, 10 s (R39). -/
def starvationTime : Nat := 10000

/-- The luminance age timer, 60 s (R51). -/
def ageTime : Nat := 60000

/-- The hello timer, 60 s (R76). -/
def helloTime : Nat := 60000

/-- The image timer, 2 s (R76). -/
def imageTime : Nat := 2000

/-- The adoption timer, 2 s (R180). -/
def adoptionTime : Nat := 2000

/-- The pass timer's 1 s interval of row 5 of R143. -/
def shortPass : Nat := 1000

/-- Milliseconds in a second, for timeouts configured in seconds. -/
def second : Nat := 1000

/-- The unit of every reported waiting, remaining or reading time, 100 ms (R41, R51, R105, R153). -/
def timeUnit : Nat := 100

/-- The hold value of every two-byte count and reported time (R41, R59, R156). -/
def hold16 : Nat := 65535

/-- The hold value of the event counter and of the skipped-step count (R135, R169). -/
def hold8 : Nat := 255

/-- The most a channel's driven value, demand or target may be, in pm (R2). -/
def fullOutput : Nat := 1000

/-- The highest luminance used; a reading above it is clamped (R52). -/
def maxLuminance : Nat := 65000

/-- The match count is held here (R86). -/
def maxMatches : Nat := 15

/-- The number of failures that takes a slot to FAULT (R97). -/
def faultFailures : Nat := 7

/-- Places in the command queue (R157). -/
def commandQueueSize : Nat := 4

/-- A command is taken only while the outgoing list holds fewer frames than this (R158). -/
def takeLimit : Nat := 16

/-- A PLAN_MARK notice is placed only while the outgoing list holds fewer frames than this (R160). -/
def markLimit : Nat := 31

/-- Places in a computer port's send list (R71). -/
def sendListSize : Nat := 8

/-- The longest payload of a frame (R183). -/
def maxPayload : Nat := 250

/-- The longest gap between two bytes of a frame or record, 20 ms in microseconds (R62, R157, R186). -/
def gapLimit : Nat := 20000

/-- The part code that IDENTIFY reports (R171). -/
def partCode : Nat := 240

/-- The design revision that IDENTIFY reports (R171). -/
def designRevision : Nat := 3

end Sys2Proof.Config
end

