-- ==== Sys2Proof/Syntax.lean ====
section
/-! DEFINITION. The commands and events of the part: one constructor of `Instr` for each row of
spec/opcode_table.json, in the table's order.

A host command carries the tag and the payload bytes of its frame, laid out as R184 gives, so that a
payload of a wrong length and a code that names no value are inputs like any other (R158, R162).
An event of a computer line carries its slot, an event of the part's own timers its slot or channel. -/

namespace Sys2Proof

/-- A computer position (spec/00, section 6). -/
abbrev Slot := Fin 8

/-- An output channel (spec/00, section 6). -/
abbrev Chan := Fin 48

/-- The health a DEMAND report declares (R60). -/
inductive Health
  | good
  | degraded
  deriving DecidableEq, Repr

/-- Why a frame was discarded: its CRC failed, or its length, kind or payload cannot be taken (R62, R157). -/
inductive DiscardCause
  | check
  | format
  deriving DecidableEq, Repr

/-- The run state a STATE record reports (R186). -/
inductive ModuleRun
  | running
  | stopped
  | fault
  deriving DecidableEq, Repr

/-- The rows of spec/opcode_table.json. -/
inductive Instr
  -- Configuration commands
  /-- R103: payload slot, enabled, role, bore, report timeout 2, settle code, track timeout 2,
  required matches, handover style, break policy, pause policy. -/
  | setComputer (tag : Byte) (payload : List Byte)
  /-- R22: payload channel, kind, bore, owner, slew rate 2, tolerance, weight, start cost 2,
  fallback kind, fallback value 2, zone factor 2. -/
  | setChannel (tag : Byte) (payload : List Byte)
  /-- R26: payload both-feeds cap 2, single-feed cap 2, refill 2. -/
  | setBudget (tag : Byte) (payload : List Byte)
  /-- R119: payload limit of bore 1, limit of bore 2. -/
  | setWindow (tag : Byte) (payload : List Byte)
  /-- R50: payload N, N thresholds 2 each, N levels 2 each, hysteresis 2. -/
  | setDaylight (tag : Byte) (payload : List Byte)
  /-- R125: payload plan, pass count, pass period 2, start mode, on-fail, overrun, step count, then
  for each step kind, operand 2, timeout 2. -/
  | setPlan (tag : Byte) (payload : List Byte)
  /-- R167: payload 16 mask flags in 2 bytes. -/
  | setEventMask (tag : Byte) (payload : List Byte)
  /-- R170: payload source code. -/
  | setCounterSource (tag : Byte) (payload : List Byte)
  /-- R177: no payload. -/
  | storeConfig (tag : Byte) (payload : List Byte)
  /-- R179: no payload. -/
  | commission (tag : Byte) (payload : List Byte)
  -- Orders
  /-- R113: payload slot. -/
  | restart (tag : Byte) (payload : List Byte)
  /-- R117: payload slot. -/
  | cancelRestart (tag : Byte) (payload : List Byte)
  /-- R99: payload slot. -/
  | pause (tag : Byte) (payload : List Byte)
  /-- R101: payload slot. -/
  | resume (tag : Byte) (payload : List Byte)
  /-- R19: payload channel, value 2. -/
  | force (tag : Byte) (payload : List Byte)
  /-- R20: payload channel. -/
  | unforce (tag : Byte) (payload : List Byte)
  /-- R18: payload channel. -/
  | clearFault (tag : Byte) (payload : List Byte)
  /-- R137: payload plan. -/
  | planStart (tag : Byte) (payload : List Byte)
  /-- R150: payload stop mode. -/
  | planStop (tag : Byte) (payload : List Byte)
  /-- R52: payload reading 2. -/
  | luminance (tag : Byte) (payload : List Byte)
  /-- R30: payload feed state. -/
  | feed (tag : Byte) (payload : List Byte)
  /-- R163: no payload. -/
  | resetPart (tag : Byte) (payload : List Byte)
  -- Queries
  /-- R73, R105: payload slot. -/
  | getComputer (tag : Byte) (payload : List Byte)
  /-- R24: payload channel. -/
  | getChannel (tag : Byte) (payload : List Byte)
  /-- R41: no payload. -/
  | getBudget (tag : Byte) (payload : List Byte)
  /-- R121: no payload. -/
  | getWaitList (tag : Byte) (payload : List Byte)
  /-- R153: no payload. -/
  | getPlanStatus (tag : Byte) (payload : List Byte)
  /-- R57: no payload. -/
  | getDaylight (tag : Byte) (payload : List Byte)
  /-- R168: no payload. -/
  | readEvents (tag : Byte) (payload : List Byte)
  /-- R170: no payload. -/
  | readCounter (tag : Byte) (payload : List Byte)
  /-- R171: no payload. -/
  | identify (tag : Byte) (payload : List Byte)
  /-- R158: a taken command whose kind names no command. -/
  | unknownCommand (kind : Byte) (tag : Byte) (payload : List Byte)
  -- Supervisory line
  /-- R157: a frame whose CRC agrees is complete. -/
  | supervisoryFrameReceived (kind : Byte) (tag : Byte) (payload : List Byte)
  /-- R157: a failed CRC or a declared payload above 250 bytes. -/
  | supervisoryFrameDiscard (cause : DiscardCause)
  /-- R157: a gap of more than 20 ms inside a frame. -/
  | supervisoryGap
  /-- R160: the line becomes free and the next outgoing frame begins. -/
  | supervisoryFrameSent
  -- Resets
  /-- R163, R175: the last byte of the RESET-PART reply has been sent. -/
  | commandReset
  /-- R175: the supply rises. -/
  | powerReset
  /-- R175: the reset line is asserted. -/
  | lineResetAssert
  /-- R175, R176: the reset line is released. -/
  | lineResetRelease
  -- Computer lines
  /-- R60, R65: a valid DEMAND report; each pair is a channel number and a demand. -/
  | demand (slot : Slot) (seq : Nat) (health : Health) (pairs : List (Nat × Nat))
  /-- R60, R81: a valid HELLO. -/
  | hello (slot : Slot) (seq : Nat)
  /-- R60, R83: a valid IMAGE-OK. -/
  | imageOk (slot : Slot) (seq : Nat) (generation : Nat)
  /-- R60, R83: a valid IMAGE-REJECT. -/
  | imageReject (slot : Slot) (seq : Nat) (generation : Nat) (reason : Nat)
  /-- R62: a frame that fails its CRC, length, kind or payload check. -/
  | computerFrameDiscard (slot : Slot) (cause : DiscardCause)
  /-- R62: a gap of more than 20 ms inside a frame. -/
  | computerGap (slot : Slot)
  /-- R71: the line becomes free and the head order of the send list begins. -/
  | computerOrderSent (slot : Slot)
  -- Field line
  /-- R14, R186: a valid STATE record. -/
  | stateRecord (address : Nat) (value : Nat) (run : ModuleRun)
  /-- R186: a record with a bad CRC, kind or run state. -/
  | fieldRecordDiscard
  /-- R186: a gap of more than 20 ms inside a record. -/
  | fieldGap
  /-- R13: the field line becomes free. -/
  | fieldLineFree
  /-- R13: the 50 ms answer window expires. -/
  | answerWindow
  /-- R180, R188: the 500 ms answer period ends. -/
  | answerPeriod
  -- Timers of the part
  /-- R8, R9: the channel table's step timer expires. -/
  | stepTimer
  /-- R29: the refill timer expires. -/
  | refillTimer
  /-- R15: a channel's start-confirm timer expires. -/
  | startConfirmTimer (chan : Chan)
  /-- R40: the starvation timer of a channel's admission entry expires. -/
  | starvationTimer (chan : Chan)
  /-- R55: the luminance age timer expires. -/
  | ageTimer
  /-- R69: a port's report timer expires. -/
  | reportTimer (slot : Slot)
  /-- R80: a slot's settle timer expires. -/
  | settleTimer (slot : Slot)
  /-- R81: a slot's hello timer expires. -/
  | helloTimer (slot : Slot)
  /-- R84: a slot's image timer expires. -/
  | imageTimer (slot : Slot)
  /-- R89: a slot's track timer expires. -/
  | trackTimer (slot : Slot)
  /-- R127: the executor's step timer expires. -/
  | planStepTimer
  /-- R144: the executor's pass timer expires. -/
  | passTimer
  /-- R181: the adoption timer expires. -/
  | adoptionTimer
  /-- R178: a write of the configuration store completes, without error or with one. -/
  | storeWriteCompletion (ok : Bool)
  /-- R147: a rising edge on the plan trigger line. -/
  | planTriggerEdge
  deriving DecidableEq, Repr

end Sys2Proof
end

