-- ==== Sys2Proof/WellFormed.lean ====
section
/-! DEFINITION. When a command or event is one that a line can carry.

A byte operand is well formed by its type. What remains to check is the length of a payload (R183),
the kind of an unknown command (R158, R184), and the ranges of R60 and R186. The machine gives every
term a meaning, well formed or not. -/

namespace Sys2Proof

/-- A payload that a frame can carry (R183). -/
def payloadOk (payload : List Byte) : Bool := decide (payload.length ≤ Config.maxPayload)

/-- The 31 kinds of the command table (R184). -/
def commandKinds : List Byte :=
  [0x10, 0x11, 0x12, 0x13, 0x14, 0x15, 0x16, 0x17, 0x18, 0x19] ++
  [0x30, 0x31, 0x32, 0x33, 0x34, 0x35, 0x36, 0x37, 0x38, 0x39, 0x3A, 0x3B] ++
  [0x50, 0x51, 0x52, 0x53, 0x54, 0x55, 0x56, 0x57, 0x58]

/-- A number that fits one byte. -/
def byteOk (n : Nat) : Bool := decide (n ≤ 255)

/-- A number that fits two bytes. -/
def wordOk (n : Nat) : Bool := decide (n ≤ 65535)

/-- A pair of a DEMAND report as the line can carry it (R60). -/
def pairOk (p : Nat × Nat) : Bool := byteOk p.1 && wordOk p.2

/-- The check of one command or event. -/
def wellFormed : Instr → Bool
  | .setComputer _ p => payloadOk p
  | .setChannel _ p => payloadOk p
  | .setBudget _ p => payloadOk p
  | .setWindow _ p => payloadOk p
  | .setDaylight _ p => payloadOk p
  | .setPlan _ p => payloadOk p
  | .setEventMask _ p => payloadOk p
  | .setCounterSource _ p => payloadOk p
  | .storeConfig _ p => payloadOk p
  | .commission _ p => payloadOk p
  | .restart _ p => payloadOk p
  | .cancelRestart _ p => payloadOk p
  | .pause _ p => payloadOk p
  | .resume _ p => payloadOk p
  | .force _ p => payloadOk p
  | .unforce _ p => payloadOk p
  | .clearFault _ p => payloadOk p
  | .planStart _ p => payloadOk p
  | .planStop _ p => payloadOk p
  | .luminance _ p => payloadOk p
  | .feed _ p => payloadOk p
  | .resetPart _ p => payloadOk p
  | .getComputer _ p => payloadOk p
  | .getChannel _ p => payloadOk p
  | .getBudget _ p => payloadOk p
  | .getWaitList _ p => payloadOk p
  | .getPlanStatus _ p => payloadOk p
  | .getDaylight _ p => payloadOk p
  | .readEvents _ p => payloadOk p
  | .readCounter _ p => payloadOk p
  | .identify _ p => payloadOk p
  | .unknownCommand k _ p => payloadOk p && !commandKinds.contains k
  | .supervisoryFrameReceived _ _ p => payloadOk p
  | .supervisoryFrameDiscard _ => true
  | .supervisoryGap => true
  | .supervisoryFrameSent => true
  | .commandReset => true
  | .powerReset => true
  | .lineResetAssert => true
  | .lineResetRelease => true
  | .demand _ seq _ pairs =>
    byteOk seq && decide (1 ≤ pairs.length) && decide (pairs.length ≤ 16) && pairs.all pairOk
  | .hello _ seq => byteOk seq
  | .imageOk _ seq gen => byteOk seq && wordOk gen
  | .imageReject _ seq gen reason => byteOk seq && wordOk gen && byteOk reason
  | .computerFrameDiscard _ _ => true
  | .computerGap _ => true
  | .computerOrderSent _ => true
  | .stateRecord address value _ => byteOk address && wordOk value
  | .fieldRecordDiscard => true
  | .fieldGap => true
  | .fieldLineFree => true
  | .answerWindow => true
  | .answerPeriod => true
  | .stepTimer => true
  | .refillTimer => true
  | .startConfirmTimer _ => true
  | .starvationTimer _ => true
  | .ageTimer => true
  | .reportTimer _ => true
  | .settleTimer _ => true
  | .helloTimer _ => true
  | .imageTimer _ => true
  | .trackTimer _ => true
  | .planStepTimer => true
  | .passTimer => true
  | .adoptionTimer => true
  | .storeWriteCompletion _ => true
  | .planTriggerEdge => true

end Sys2Proof
end

