-- ==== Sys2Proof/Decode.lean ====
section
/-! DEFINITION. From bytes to commands and events, and the frame and record shells (spec/11).

`decodeTableWord` is the host's fixed name: no row of spec/opcode_table.json has bits, so no word
spells a command. What the part really receives is bytes on three kinds of line. `hear` drops the bytes
that come with a framing error (R187); `nextSupervisory`, `nextComputer` and `nextField` read the next
frame or record from what is heard, with the checks of R62, R157 and R186 in their order, and answer the
row that the frame is, with the bytes after it.
`commandOf` names the row by which a complete command frame is taken. -/

namespace Sys2Proof

/-- No row of the table gives bits, so no word spells a command. -/
def decodeTableWord (_nbits _w : Nat) : Option Instr := none

/-! ### Bytes and numbers -/

/-- The low byte of a number. -/
def byteOf (n : Nat) : Byte := BitVec.ofNat 8 n

/-- A two-byte number, most significant byte first (spec/00, section 6). -/
def word (hi lo : Byte) : Nat := hi.toNat * 256 + lo.toNat

/-- A number as two bytes, most significant byte first. -/
def wordBytes (n : Nat) : List Byte := [byteOf (n / 256), byteOf n]

/-- Read a run of two-byte numbers; none where a byte is left over. -/
def readWords : List Byte → Option (List Nat)
  | [] => some []
  | [_] => none
  | hi :: lo :: rest => (readWords rest).map (word hi lo :: ·)

/-! ### The CRC of R183 -/

/-- One data bit enters the CRC register. -/
def crcBit (reg : Word16) (bit : Bool) : Word16 :=
  if reg.msb != bit then (reg <<< 1) ^^^ 0x1021 else reg <<< 1

/-- One byte enters, its bits from the most significant down. -/
def crcByte (reg : Word16) (b : Byte) : Word16 :=
  [7, 6, 5, 4, 3, 2, 1, 0].foldl (fun r i => crcBit r (b.getLsbD i)) reg

/-- The CRC of some bytes: the register starts at FFFFh and is not inverted at the end. -/
def crc16 (bytes : List Byte) : Word16 := bytes.foldl crcByte 0xFFFF

/-- The CRC as the lines carry it, high byte then low byte. -/
def crcBytes (bytes : List Byte) : List Byte := wordBytes (crc16 bytes).toNat

/-! ### The shells -/

/-- A frame on the supervisory line or a computer line (R183). -/
def frameBytes (kind tag : Byte) (payload : List Byte) : List Byte :=
  let body := byteOf payload.length :: kind :: tag :: payload
  0xA5 :: (body ++ crcBytes body)

/-- A record on the field line (R186). -/
def recordBytes (address kind : Byte) (value : Nat) (run : Byte) : List Byte :=
  let body := address :: kind :: (wordBytes value ++ [run])
  0x5A :: (body ++ crcBytes body)

/-! ### What a serial input hears -/

/-- One character as a serial input receives it: the microseconds since the character before it, and its
byte, none where it came with a framing error (R187). -/
structure LineByte where
  gap : Nat
  byte : Option Byte
  deriving DecidableEq, Repr

/-- A byte that an input hears, with the microseconds since the last byte that it heard. -/
abbrev HeardByte := Nat × Byte

/-- Bytes with a framing error are ignored, and their time counts toward the gap of the next byte (R187);
`lost` is the time that such bytes have taken so far. -/
def hearFrom (lost : Nat) : List LineByte → List HeardByte
  | [] => []
  | c :: rest =>
    match c.byte with
    | some b => (lost + c.gap, b) :: hearFrom 0 rest
    | none => hearFrom (lost + c.gap) rest

/-- The bytes that an input hears. -/
def hear (line : List LineByte) : List HeardByte := hearFrom 0 line

/-- A byte that comes soon enough to belong to the frame or record of the byte before it (R62, R157, R186).
A gap is found as the byte after it comes (DESIGN CHOICE, assumption log 3). -/
def inTime (b : HeardByte) : Bool := decide (b.1 ≤ Config.gapLimit)

/-- What a frame line's bytes hold next (R62, R157): an incomplete frame, a frame cut by a gap, a length
above 250 found as soon as the length byte is taken, a frame whose CRC fails, or a frame that holds. -/
inductive FrameRead
  | incomplete
  | cut (rest : List HeardByte)
  | oversize (rest : List HeardByte)
  | badCheck (rest : List HeardByte)
  | frame (kind tag : Byte) (payload : List Byte) (rest : List HeardByte)
  deriving DecidableEq, Repr

/-- A frame whose bytes are not all there: cut where a later byte came after a gap. -/
def unfinished : List HeardByte → FrameRead
  | [] => .incomplete
  | late => .cut late

/-- Read a frame after its start byte: length, kind, tag, payload and CRC (R183). The bytes of `late` come
after a gap. -/
def readBody (bytes late : List HeardByte) : FrameRead :=
  match bytes with
  | (_, len) :: after =>
    if Config.maxPayload < len.toNat then .oversize (after ++ late)
    else
      match after with
      | (_, kind) :: (_, tag) :: more =>
        let payload := (more.take len.toNat).map (·.2)
        match more.drop len.toNat with
        | (_, hi) :: (_, lo) :: rest =>
          if [hi, lo] = crcBytes (len :: kind :: tag :: payload) then .frame kind tag payload (rest ++ late)
          else .badCheck (rest ++ late)
        | _ => unfinished late
      | _ => unfinished late
  | [] => unfinished late

/-- Read one frame: skip to the start byte A5h, then the bytes that follow without a gap. -/
def readFrame (bytes : List HeardByte) : FrameRead :=
  match bytes.dropWhile (·.2 != 0xA5) with
  | _ :: after => readBody (after.takeWhile inTime) (after.dropWhile inTime)
  | [] => .incomplete

/-- The next row that the supervisory line's bytes are (R157); none while no frame is whole. -/
def nextSupervisory (bytes : List HeardByte) : Option (Instr × List HeardByte) :=
  match readFrame bytes with
  | .incomplete => none
  | .cut rest => some (.supervisoryGap, rest)
  | .oversize rest => some (.supervisoryFrameDiscard .format, rest)
  | .badCheck rest => some (.supervisoryFrameDiscard .check, rest)
  | .frame kind tag payload rest => some (.supervisoryFrameReceived kind tag payload, rest)

/-- The pairs of a DEMAND payload, three bytes each (R185). -/
def readPairs : List Byte → Option (List (Nat × Nat))
  | [] => some []
  | ch :: hi :: lo :: rest => (readPairs rest).map ((ch.toNat, word hi lo) :: ·)
  | _ => none

/-- The health byte of a DEMAND (R185). -/
def readHealth (b : Byte) : Option Health :=
  if b = 0 then some .good else if b = 1 then some .degraded else none

/-- The row that a computer-line frame with a good CRC is (R62, R185). A kind, length, pair count or
health that cannot be taken is a format error. -/
def computerRow (slot : Slot) (kind seq : Byte) (payload : List Byte) : Instr :=
  let bad := Instr.computerFrameDiscard slot .format
  if kind = 0x01 then
    match payload with
    | health :: count :: rest =>
      match readHealth health, readPairs rest with
      | some h, some pairs =>
        if pairs.length = count.toNat ∧ 1 ≤ pairs.length ∧ pairs.length ≤ 16
        then .demand slot seq.toNat h pairs else bad
      | _, _ => bad
    | _ => bad
  else if kind = 0x02 then
    match payload with
    | [] => .hello slot seq.toNat
    | _ => bad
  else if kind = 0x03 then
    match payload with
    | [hi, lo] => .imageOk slot seq.toNat (word hi lo)
    | _ => bad
  else if kind = 0x04 then
    match payload with
    | [hi, lo, reason] => .imageReject slot seq.toNat (word hi lo) reason.toNat
    | _ => bad
  else bad

/-- The next row that a computer line's bytes are (R62); none while no frame is whole. -/
def nextComputer (slot : Slot) (bytes : List HeardByte) : Option (Instr × List HeardByte) :=
  match readFrame bytes with
  | .incomplete => none
  | .cut rest => some (.computerGap slot, rest)
  | .oversize rest => some (.computerFrameDiscard slot .format, rest)
  | .badCheck rest => some (.computerFrameDiscard slot .check, rest)
  | .frame kind seq payload rest => some (computerRow slot kind seq payload, rest)

/-- The run state byte of a STATE record (R186). -/
def readModuleRun (b : Byte) : Option ModuleRun :=
  if b = 1 then some .running
  else if b = 2 then some .stopped
  else if b = 3 then some .fault
  else none

/-- Read a record after its start byte (R186); the bytes of `late` come after a gap. -/
def readRecord (bytes late : List HeardByte) : Option (Instr × List HeardByte) :=
  match bytes with
  | (_, address) :: (_, kind) :: (_, vh) :: (_, vl) :: (_, run) :: (_, ch) :: (_, cl) :: rest =>
    if [ch, cl] = crcBytes [address, kind, vh, vl, run] ∧ kind = 0x04 then
      match readModuleRun run with
      | some r => some (.stateRecord address.toNat (word vh vl) r, rest ++ late)
      | none => some (.fieldRecordDiscard, rest ++ late)
    else some (.fieldRecordDiscard, rest ++ late)
  | _ =>
    match late with
    | [] => none
    | _ => some (.fieldGap, late)

/-- The next row that the field line's bytes are (R186); none while no record is whole. -/
def nextField (bytes : List HeardByte) : Option (Instr × List HeardByte) :=
  match bytes.dropWhile (·.2 != 0x5A) with
  | _ :: after => readRecord (after.takeWhile inTime) (after.dropWhile inTime)
  | [] => none

/-- The row by which the port takes a complete command frame (R158, R184). -/
def commandOf (kind tag : Byte) (payload : List Byte) : Instr :=
  match kind.toNat with
  | 0x10 => .setComputer tag payload
  | 0x11 => .setChannel tag payload
  | 0x12 => .setBudget tag payload
  | 0x13 => .setWindow tag payload
  | 0x14 => .setDaylight tag payload
  | 0x15 => .setPlan tag payload
  | 0x16 => .setEventMask tag payload
  | 0x17 => .setCounterSource tag payload
  | 0x18 => .storeConfig tag payload
  | 0x19 => .commission tag payload
  | 0x30 => .restart tag payload
  | 0x31 => .cancelRestart tag payload
  | 0x32 => .pause tag payload
  | 0x33 => .resume tag payload
  | 0x34 => .force tag payload
  | 0x35 => .unforce tag payload
  | 0x36 => .clearFault tag payload
  | 0x37 => .planStart tag payload
  | 0x38 => .planStop tag payload
  | 0x39 => .luminance tag payload
  | 0x3A => .feed tag payload
  | 0x3B => .resetPart tag payload
  | 0x50 => .getComputer tag payload
  | 0x51 => .getChannel tag payload
  | 0x52 => .getBudget tag payload
  | 0x53 => .getWaitList tag payload
  | 0x54 => .getPlanStatus tag payload
  | 0x55 => .getDaylight tag payload
  | 0x56 => .readEvents tag payload
  | 0x57 => .readCounter tag payload
  | 0x58 => .identify tag payload
  | _ => .unknownCommand kind tag payload

end Sys2Proof
end

