-- ==== Sys2Proof/Machine/Types.lean ====
section
/-! DEFINITION. The data types of the part's state, named as the manual names them.

A timer is `Option Nat`: none while it is stopped, else the value of the model's clock at which it
runs out. A field that the manual calls absent, unknown or none is `Option` too (spec/00, section 6). -/

namespace Sys2Proof.Machine

/-- A plan number (spec/00, section 6). -/
abbrev PlanNo := Fin 8

/-- R173. -/
inductive PartState
  | unconfigured
  | adopt
  | run
  deriving DecidableEq, Repr

/-- R175. -/
inductive ResetKind
  | power
  | line
  | command
  deriving DecidableEq, Repr

/-- The two bores of the tunnel. -/
inductive Bore
  | one
  | two
  deriving DecidableEq, Repr

/-- R1: what a channel's module drives. -/
inductive ChannelKind
  | fan
  | light
  deriving DecidableEq, Repr

/-- R75: what a computer owns. -/
inductive Role
  | vent
  | light
  deriving DecidableEq, Repr

/-- R1, R47. -/
inductive FallbackKind
  | hold
  | fixed
  | daylight
  deriving DecidableEq, Repr

/-- R4. -/
inductive ChannelMode
  | unadopted
  | forced
  | follow
  | meet
  | hold
  | fallback
  deriving DecidableEq, Repr

/-- R2. -/
inductive RunState
  | unknown
  | running
  | stopped
  | fault
  deriving DecidableEq, Repr

/-- R27. -/
inductive FeedState
  | both
  | single
  deriving DecidableEq, Repr

/-- R75. -/
inductive HandoverStyle
  | hold
  | meet
  deriving DecidableEq, Repr

/-- R75, R90. -/
inductive BreakPolicy
  | ignore
  | retrack
  | restart
  deriving DecidableEq, Repr

/-- R75, R101. -/
inductive PausePolicy
  | keep
  | clear
  deriving DecidableEq, Repr

/-- R76. -/
inductive ComputerState
  | vacant
  | settle
  | join
  | track
  | control
  | lost
  | paused
  | fault
  deriving DecidableEq, Repr

/-- The phase within JOIN (R76). -/
inductive JoinPhase
  | hello
  | image
  deriving DecidableEq, Repr

/-- How a slot last came into TRACK (R76, R85). -/
inductive TrackCause
  | ordered
  | rejoin
  | start
  | enabled
  | resumed
  | broke
  | returned
  deriving DecidableEq, Repr

/-- Why the plant is taken from a computer (R61). -/
inductive RevokeReason
  | order
  | broke
  | pause
  | rejoin
  deriving DecidableEq, Repr

/-- Who asked for a restart (R109). -/
inductive RestartSource
  | supervisor
  | plan
  | recovery
  deriving DecidableEq, Repr

/-- The outcomes the window unit hands the executor (R114). -/
inductive RestartOutcome
  | issued
  | attached
  | queued
  | refused
  deriving DecidableEq, Repr

/-- The seven kinds of plan step (R124). -/
inductive StepKind
  | restart
  | pause
  | resume
  | wait
  | waitTrigger
  | awaitCredit
  | mark
  deriving DecidableEq, Repr

/-- R123. -/
inductive StartMode
  | immediate
  | onTrigger
  deriving DecidableEq, Repr

/-- R123. -/
inductive OnFail
  | skip
  | abort
  deriving DecidableEq, Repr

/-- R123. -/
inductive Overrun
  | abort
  | stretch
  deriving DecidableEq, Repr

/-- R136. -/
inductive ExecutorState
  | idle
  | armed
  | running
  | passWait
  deriving DecidableEq, Repr

/-- R135. -/
inductive PendingStop
  | none
  | atPassEnd
  deriving DecidableEq, Repr

/-- R149. -/
inductive PlanResult
  | none
  | done
  | abortedFail
  | abortedStop
  | abortedOverrun
  deriving DecidableEq, Repr

/-- The 16 event kinds of R164, in index order. -/
inductive EventKind
  | computerControl
  | computerLost
  | attemptFailed
  | computerFault
  | broke
  | windowWait
  | planDone
  | planAborted
  | planOverrun
  | stepFailed
  | budgetStarved
  | driveFault
  | daylightStale
  | unadopted
  | storeDone
  | storeFailed
  deriving DecidableEq, Repr

/-- The counter sources of R169, in code order. -/
inductive CounterSource
  | none
  | reportsDiscarded
  | reportGaps
  | unknownEntries
  | prematureHello
  | staleImageReplies
  | partialGrants
  | triggerIgnored
  | framesDiscarded
  | mismatches
  deriving DecidableEq, Repr

/-- What the last item of an event names (R164). -/
inductive Item
  | slot (k : Slot)
  | channel (c : Chan)
  deriving DecidableEq, Repr

/-- The result codes of R159, in code order (R184). -/
inductive ResultCode
  | ok
  | queued
  | busy
  | refusedState
  | outOfRange
  | unknownCommand
  | badLength
  | windowBusy
  | notRunning
  | invalidPlan
  | already
  | unconfigured
  | adopting
  deriving DecidableEq, Repr

/-- The detail of a reply (R159, R184). -/
inductive Detail
  | absent
  | step (n : Nat)
  | channel (c : Chan)
  | budget
  deriving DecidableEq, Repr

/-! ### The working configuration (R176) -/

/-- R1. -/
structure ChannelConfig where
  kind : ChannelKind
  bore : Bore
  owner : Option Slot
  slewRate : Nat
  tolerance : Nat
  weight : Nat
  startCost : Nat
  fallbackKind : FallbackKind
  fallbackValue : Nat
  zoneFactor : Nat
  deriving DecidableEq, Repr

/-- R75. -/
structure ComputerConfig where
  enabled : Bool
  role : Role
  bore : Bore
  reportTimeout : Nat
  settleCode : Nat
  trackTimeout : Nat
  requiredMatches : Nat
  style : HandoverStyle
  breakPolicy : BreakPolicy
  pausePolicy : PausePolicy
  deriving DecidableEq, Repr

/-- R26. -/
structure BudgetConfig where
  bothCap : Nat
  singleCap : Nat
  refill : Nat
  deriving DecidableEq, Repr

/-- One stage of the daylight table: its threshold and its level (R49). -/
structure Stage where
  threshold : Nat
  level : Nat
  deriving DecidableEq, Repr

/-- R49; the stage count is the length of the list. -/
structure DaylightConfig where
  stages : List Stage
  hysteresis : Nat
  deriving DecidableEq, Repr

/-- R124. -/
structure PlanStep where
  kind : StepKind
  operand : Nat
  timeout : Nat
  deriving DecidableEq, Repr

/-- R123. -/
structure PlanRecord where
  steps : List PlanStep
  passCount : Nat
  passPeriod : Nat
  startMode : StartMode
  onFail : OnFail
  overrun : Overrun
  deriving DecidableEq, Repr

/-- The set of configured fields of every block (R176). -/
structure WorkingConfig where
  computers : Vector ComputerConfig 8
  channels : Vector ChannelConfig 48
  budget : BudgetConfig
  /-- window limit of bore 1 (R108) -/
  limit1 : Nat
  /-- window limit of bore 2 (R108) -/
  limit2 : Nat
  daylight : DaylightConfig
  plans : Vector PlanRecord 8
  /-- the mask flag of each event kind by index (R164) -/
  mask : Vector Bool 16
  counterSource : CounterSource
  deriving DecidableEq, Repr

/-! ### Run-time state of the blocks -/

/-- The run-time fields of a channel record (R2). -/
structure ChannelRun where
  /-- D, none while unknown -/
  driven : Option Nat
  adopted : Bool
  demand : Option Nat
  forced : Option Nat
  mode : ChannelMode
  /-- T, none while the channel is unadopted -/
  target : Option Nat
  matchCount : Nat
  driveFault : Bool
  /-- start-confirm pending, with the time its timer runs out (R15) -/
  startConfirm : Option Nat
  runState : RunState
  deriving DecidableEq, Repr

/-- A SET record waiting in the send list (R12). -/
structure SetRecord where
  channel : Chan
  value : Nat
  deriving DecidableEq, Repr

/-- The answer window of a POLL (R13). -/
structure AnswerWindow where
  channel : Chan
  deadline : Nat
  deriving DecidableEq, Repr

/-- The field link master (R13, R180, R188). -/
structure FieldMaster where
  sendList : List SetRecord
  window : Option AnswerWindow
  period : Option Nat
  /-- the rotation goes on with the lowest used channel at or above this number -/
  next : Nat
  /-- the bytes of the record whose sending most recently began -/
  line : List Byte
  deriving DecidableEq, Repr

/-- One entry of the admission queue (R31). -/
structure AdmissionEntry where
  channel : Chan
  wanted : Nat
  joined : Nat
  reported : Bool
  starvation : Option Nat
  deriving DecidableEq, Repr

/-- The admission unit (R27, R31). -/
structure Admission where
  credit : Nat
  feed : FeedState
  refillTimer : Option Nat
  /-- head first -/
  queue : List AdmissionEntry
  deriving DecidableEq, Repr

/-- The daylight stage table's run-time state (R51). -/
structure Daylight where
  stage : Nat
  luminance : Option Nat
  /-- the time the last luminance was taken, from which the reading age is counted -/
  readAt : Option Nat
  ageTimer : Option Nat
  stale : Bool
  deriving DecidableEq, Repr

/-- One channel's entry in an IMAGE (R72). -/
structure ImageEntry where
  channel : Chan
  driven : Option Nat
  mode : ChannelMode
  adopted : Bool
  driveFault : Bool
  deriving DecidableEq, Repr

/-- The six kinds of order to a computer (R61). -/
inductive Order
  | restart (settleCode : Nat)
  | image (generation : Nat) (entries : List ImageEntry)
  | grant (generation : Nat) (owned : Nat)
  | revoke (reason : RevokeReason)
  | pause
  | resume
  deriving DecidableEq, Repr

/-- A serial input of the part (R187). -/
inductive Input
  | supervisory
  | computer (slot : Slot)
  | field
  deriving DecidableEq, Repr

/-- A discrete input of the part (R187). -/
inductive Pin
  | planTrigger
  | resetLine
  deriving DecidableEq, Repr

/-- What comes to the part's inputs: a character at a serial input (assumption log 14), a level at a discrete
input, or milliseconds in which nothing comes (assumption log 15). -/
inductive Arrival
  | char (input : Input) (char : LineByte)
  | level (pin : Pin) (high : Bool)
  | quiet (milliseconds : Nat)
  deriving DecidableEq, Repr

/-- The plan trigger input (R187): its level, the time it has stood there since, and, while a rise is still to
be taken as an edge, the time at which it is. -/
structure TriggerInput where
  high : Bool
  since : Nat
  filter : Option Nat
  deriving DecidableEq, Repr

/-- The reset line's input (R187): its level and, while a rise is still to be taken as an assertion, the time
at which it is. -/
structure ResetInput where
  high : Bool
  filter : Option Nat
  deriving DecidableEq, Repr

/-- The discrete inputs. -/
structure Pins where
  trigger : TriggerInput
  reset : ResetInput
  deriving DecidableEq, Repr

/-- What an input has heard of a frame or record in progress: its bytes from the start byte on, none while
bytes are skipped (R62, R157, R186), and the time that bytes with framing errors have taken since the last
byte heard (R187). -/
structure Reception where
  heard : List HeardByte
  lost : Nat
  deriving DecidableEq, Repr

/-- The receptions at the part's inputs. -/
structure Inputs where
  supervisory : Reception
  computers : Vector Reception 8
  field : Reception
  deriving DecidableEq, Repr

/-- A port of the computer link unit (R59). -/
structure Port where
  expectation : Option Nat
  reportTimer : Option Nat
  reportLost : Bool
  checkErrors : Nat
  gapErrors : Nat
  formatErrors : Nat
  sendList : List Order
  sendDrops : Nat
  sendSequence : Nat
  lastReject : Option Nat
  /-- the bytes of the frame being sent to the computer -/
  line : List Byte
  deriving DecidableEq, Repr

/-- A computer context's run-time fields (R76). -/
structure Context where
  state : ComputerState
  phase : Option JoinPhase
  failures : Nat
  generation : Nat
  inProgress : Bool
  trackCause : Option TrackCause
  activeStyle : HandoverStyle
  lastHealth : Option Health
  settleTimer : Option Nat
  helloTimer : Option Nat
  imageTimer : Option Nat
  trackTimer : Option Nat
  deriving DecidableEq, Repr

/-- One entry of the restart wait list (R109). -/
structure WaitEntry where
  slot : Slot
  source : RestartSource
  plan : Option PlanNo
  /-- the recovery mark -/
  mark : Bool
  /-- the time the entry was made -/
  since : Nat
  deriving DecidableEq, Repr

/-- The restart window unit's run-time state (R108, R109). The flags stand in the contexts. -/
structure Window where
  count1 : Nat
  count2 : Nat
  /-- oldest first -/
  waitList : List WaitEntry
  deriving DecidableEq, Repr

/-- The watch record of the current step (R135). -/
structure Watch where
  outcome : Option RestartOutcome
  ordered : Bool
  resumed : Bool
  deriving DecidableEq, Repr

/-- The plan executor (R135). -/
structure Executor where
  state : ExecutorState
  plan : Option PlanNo
  passes : Nat
  step : Option Nat
  watch : Watch
  pendingStop : PendingStop
  stretched : Bool
  skipped : Nat
  lastMark : Option Nat
  lastResult : PlanResult
  passTimer : Option Nat
  stepTimer : Option Nat
  deriving DecidableEq, Repr

/-- One kind of the event set (R164). -/
structure Latch where
  latched : Bool
  item : Option Item
  deriving DecidableEq, Repr

/-- A complete command frame waiting in the command queue (R156). -/
structure CommandFrame where
  kind : Byte
  tag : Byte
  payload : List Byte
  deriving DecidableEq, Repr

/-- A frame of the outgoing list (R160): a reply, the EVENT notice or a PLAN_MARK notice. -/
inductive OutFrame
  /-- the kind and tag are those of the command (R159) -/
  | reply (kind tag : Byte) (code : ResultCode) (detail : Detail) (data : List Byte)
  /-- the latched unmasked kinds in index order, each with its last item (R166) -/
  | eventNotice (kinds : List (EventKind × Option Item))
  /-- R133 -/
  | planMark (plan : PlanNo) (pass : Nat) (step : Nat) (code : Nat)
  deriving DecidableEq, Repr

/-- What stands between a taken RESET-PART and its COMMAND reset (R163). -/
inductive ResetWait
  | none
  | replyWaiting
  | replySending
  deriving DecidableEq, Repr

/-- The supervisory port (R156, R163). -/
structure Supervisory where
  queue : List CommandFrame
  outgoing : List OutFrame
  checkErrors : Nat
  gapErrors : Nat
  formatErrors : Nat
  overflows : Nat
  noticesLost : Nat
  resetWait : ResetWait
  /-- the bytes of the frame being sent to the host -/
  line : List Byte
  deriving DecidableEq, Repr

/-- What the store holds and a snapshot carries (R176, R177). -/
structure StoredImage where
  config : WorkingConfig
  commissioned : Bool
  deriving DecidableEq, Repr

/-- The configuration store (spec/10, section 10.3). -/
structure Store where
  valid : Bool
  image : StoredImage
  /-- write-in-flight, with the snapshot being written -/
  writing : Option StoredImage
  deriving DecidableEq, Repr

end Sys2Proof.Machine
end

