-- ==== Sys2Proof/Machine/Defaults.lean ====
section
/-! DEFINITION. Factory defaults of the configured fields and the values after every reset of the
run-time fields, block by block. -/

namespace Sys2Proof.Machine

/-! ### Factory defaults (R176) -/

/-- R1. -/
def factoryChannel : ChannelConfig :=
  { kind := .fan, bore := .one, owner := none, slewRate := 100, tolerance := 10, weight := 1
    startCost := 0, fallbackKind := .hold, fallbackValue := 0, zoneFactor := 1000 }

/-- R75. -/
def factoryComputer : ComputerConfig :=
  { enabled := false, role := .vent, bore := .one, reportTimeout := 1000, settleCode := 2
    trackTimeout := 0, requiredMatches := 3, style := .hold, breakPolicy := .retrack
    pausePolicy := .keep }

/-- R26. -/
def factoryBudget : BudgetConfig := { bothCap := 0, singleCap := 0, refill := 0 }

/-- R49. -/
def factoryDaylight : DaylightConfig := { stages := [{ threshold := 0, level := 0 }], hysteresis := 0 }

/-- R123. -/
def factoryPlan : PlanRecord :=
  { steps := [], passCount := 1, passPeriod := 0, startMode := .immediate, onFail := .abort
    overrun := .abort }

/-- R176; the window limits are those of R108, the mask and the counter source those of R172. -/
def factoryConfig : WorkingConfig :=
  { computers := Vector.replicate 8 factoryComputer
    channels := Vector.replicate 48 factoryChannel
    budget := factoryBudget
    limit1 := 1
    limit2 := 1
    daylight := factoryDaylight
    plans := Vector.replicate 8 factoryPlan
    mask := Vector.replicate 16 false
    counterSource := .none }

/-! ### Values after every reset -/

/-- R25. -/
def resetChannel : ChannelRun :=
  { driven := none, adopted := false, demand := none, forced := none, mode := .unadopted
    target := none, matchCount := 0, driveFault := false, startConfirm := none
    runState := .unknown }

/-- R13, R25. -/
def resetField : FieldMaster :=
  { sendList := [], window := none, period := none, next := 0, line := [] }

/-- R45: credit stands at the both-feeds cap. -/
def resetAdmission (budget : BudgetConfig) : Admission :=
  { credit := budget.bothCap, feed := .both, refillTimer := none, queue := [] }

/-- R58. -/
def resetDaylight : Daylight :=
  { stage := 0, luminance := none, readAt := none, ageTimer := none, stale := false }

/-- R74. -/
def resetPort : Port :=
  { expectation := none, reportTimer := none, reportLost := false, checkErrors := 0, gapErrors := 0
    formatErrors := 0, sendList := [], sendDrops := 0, sendSequence := 0, lastReject := none
    line := [] }

/-- An input skips bytes up to the next start byte (R62). -/
def skipping : Reception := { heard := [], lost := 0 }

/-- A reset drops what is in progress at every input, uncounted (R63, R172; for the field line DEDUCED,
assumption log 14). -/
def resetInputs : Inputs :=
  { supervisory := skipping, computers := Vector.replicate 8 skipping, field := skipping }

/-- The discrete inputs when the model begins: low, and low since then (DESIGN CHOICE, assumption log 15). -/
def lowPins : Pins :=
  { trigger := { high := false, since := 0, filter := none }, reset := { high := false, filter := none } }

/-- R107: VACANT if the slot is disabled, LOST if it is enabled. -/
def resetContext (cfg : ComputerConfig) : Context :=
  { state := if cfg.enabled then .lost else .vacant, phase := none, failures := 0, generation := 0
    inProgress := false, trackCause := none, activeStyle := cfg.style, lastHealth := none
    settleTimer := none, helloTimer := none, imageTimer := none, trackTimer := none }

/-- R122. -/
def resetWindow : Window := { count1 := 0, count2 := 0, waitList := [] }

/-- The cleared watch record (R135). -/
def clearWatch : Watch := { outcome := none, ordered := false, resumed := false }

/-- R155. -/
def resetExecutor : Executor :=
  { state := .idle, plan := none, passes := 0, step := none, watch := clearWatch
    pendingStop := .none, stretched := false, skipped := 0, lastMark := none, lastResult := .none
    passTimer := none, stepTimer := none }

/-- The event set after a reset or a READ-EVENTS (R168, R172). -/
def clearEvents : Vector Latch 16 := Vector.replicate 16 { latched := false, item := none }

/-- R172. -/
def resetSupervisory : Supervisory :=
  { queue := [], outgoing := [], checkErrors := 0, gapErrors := 0, formatErrors := 0, overflows := 0
    noticesLost := 0, resetWait := .none, line := [] }

/-- A store that has never been written (R176). Its image is never read while the marker is invalid.
DESIGN CHOICE (assumption log 5): the image then stands as the factory defaults. -/
def neverWritten : Store :=
  { valid := false, image := { config := factoryConfig, commissioned := false }, writing := none }

end Sys2Proof.Machine
end

