-- ==== Sys2Proof/Machine/State.lean ====
section
/-! DEFINITION. The state of the part as plain data, the ways a step may stop, and the state after
reset. -/

namespace Sys2Proof.Machine

/-- The part: every piece of state the manual gives it, the model's clock and the queue of commands
and events that wait. -/
structure State where
  /-- the commands and events that wait, first in first out -/
  pending : List Instr
  /-- DESIGN CHOICE (assumption logs 14 and 15): the characters and levels that come to the inputs, first in
  first out -/
  arriving : List Arrival
  /-- DESIGN CHOICE (assumption log 2): milliseconds since the model began -/
  now : Nat
  /-- R173 -/
  partState : PartState
  /-- R174 -/
  commissioned : Bool
  /-- R172 -/
  lastReset : ResetKind
  /-- the reset line is asserted and holds the part (R175) -/
  held : Bool
  /-- the working configuration (R176) -/
  cfg : WorkingConfig
  /-- spec/10, section 10.3 -/
  store : Store
  /-- the run-time fields of the channel records (R2) -/
  channels : Vector ChannelRun 48
  /-- the channel table's step timer (R8) -/
  stepTimer : Option Nat
  /-- the adoption timer (R180) -/
  adoptionTimer : Option Nat
  field : FieldMaster
  admission : Admission
  daylight : Daylight
  ports : Vector Port 8
  contexts : Vector Context 8
  window : Window
  executor : Executor
  /-- the event set (R164) -/
  events : Vector Latch 16
  /-- the event counter (R169) -/
  counter : Nat
  supervisory : Supervisory
  /-- the frames and records in progress at the inputs (R62, R63, R157, R186) -/
  inputs : Inputs
  /-- the discrete inputs with their 10 ms filters (R187) -/
  pins : Pins
  deriving DecidableEq, Repr

/-- Reasons to stop with a fault. The manual gives the part none: wrong input is refused in a reply,
discarded and counted, clamped or ignored (R62, R157, R158, R162), so no step raises a fault. -/
inductive Fault
  deriving DecidableEq, Repr

/-- Reasons to refuse a command. -/
inductive Refusal
  /-- Raised by `exec` for a row that has no meaning yet. Safe: nothing is claimed of the row. -/
  | notModelled (mnemonic : String)
  deriving DecidableEq, Repr

/-- The machine right after reset: a POWER reset of a part whose store has never been written, so the
marker is invalid, the factory defaults are taken, the commissioned flag is clear and the part is in
UNCONFIGURED (R176). -/
def State.reset : State :=
  { pending := []
    arriving := []
    now := 0
    partState := .unconfigured
    commissioned := false
    lastReset := .power
    held := false
    cfg := factoryConfig
    store := neverWritten
    channels := Vector.replicate 48 resetChannel
    stepTimer := none
    adoptionTimer := none
    field := resetField
    admission := resetAdmission factoryBudget
    daylight := resetDaylight
    ports := Vector.replicate 8 resetPort
    contexts := Vector.replicate 8 (resetContext factoryComputer)
    window := resetWindow
    executor := resetExecutor
    events := clearEvents
    counter := 0
    supervisory := resetSupervisory
    inputs := resetInputs
    pins := lowPins }

end Sys2Proof.Machine
end

