-- ==== Sys2Proof/Machine/Operands.lean ====
section
/-! DEFINITION. Every field form of the payloads: the codes of the named values, the ranges, the
configuration payloads read and laid out, and the byte forms of reply data (R184, R162). -/

namespace Sys2Proof.Machine

/-! ### Indexes -/

/-- A slot byte; a slot above 7 is none (R162). -/
def readSlot (b : Byte) : Option Slot := if h : b.toNat < 8 then some ⟨b.toNat, h⟩ else none

/-- A channel byte; a channel above 47 is none (R162). -/
def readChan (b : Byte) : Option Chan := if h : b.toNat < 48 then some ⟨b.toNat, h⟩ else none

/-- A plan byte; a plan above 7 is none (R162). -/
def readPlanNo (b : Byte) : Option PlanNo := if h : b.toNat < 8 then some ⟨b.toNat, h⟩ else none

/-- A slot number held as a step operand (R124). -/
def slotOf (n : Nat) : Option Slot := if h : n < 8 then some ⟨n, h⟩ else none

/-- A channel number carried in a report or a record. -/
def chanOf (n : Nat) : Option Chan := if h : n < 48 then some ⟨n, h⟩ else none

/-! ### Named values and their codes (R184) -/

/-- A flag is 0 or 1. -/
def flagCode (f : Bool) : Nat := if f then 1 else 0

def readFlag (b : Byte) : Option Bool :=
  match b.toNat with
  | 0 => some false
  | 1 => some true
  | _ => none

def channelKindCode : ChannelKind → Nat
  | .fan => 0
  | .light => 1

def readChannelKind (b : Byte) : Option ChannelKind :=
  match b.toNat with
  | 0 => some .fan
  | 1 => some .light
  | _ => none

def roleCode : Role → Nat
  | .vent => 0
  | .light => 1

def readRole (b : Byte) : Option Role :=
  match b.toNat with
  | 0 => some .vent
  | 1 => some .light
  | _ => none

/-- Bores are 1 and 2 (spec/00, section 6). -/
def boreCode : Bore → Nat
  | .one => 1
  | .two => 2

def readBore (b : Byte) : Option Bore :=
  match b.toNat with
  | 1 => some .one
  | 2 => some .two
  | _ => none

def fallbackKindCode : FallbackKind → Nat
  | .hold => 0
  | .fixed => 1
  | .daylight => 2

def readFallbackKind (b : Byte) : Option FallbackKind :=
  match b.toNat with
  | 0 => some .hold
  | 1 => some .fixed
  | 2 => some .daylight
  | _ => none

def styleCode : HandoverStyle → Nat
  | .hold => 0
  | .meet => 1

def readStyle (b : Byte) : Option HandoverStyle :=
  match b.toNat with
  | 0 => some .hold
  | 1 => some .meet
  | _ => none

def breakPolicyCode : BreakPolicy → Nat
  | .ignore => 0
  | .retrack => 1
  | .restart => 2

def readBreakPolicy (b : Byte) : Option BreakPolicy :=
  match b.toNat with
  | 0 => some .ignore
  | 1 => some .retrack
  | 2 => some .restart
  | _ => none

def pausePolicyCode : PausePolicy → Nat
  | .keep => 0
  | .clear => 1

def readPausePolicy (b : Byte) : Option PausePolicy :=
  match b.toNat with
  | 0 => some .keep
  | 1 => some .clear
  | _ => none

def feedCode : FeedState → Nat
  | .both => 0
  | .single => 1

def readFeed (b : Byte) : Option FeedState :=
  match b.toNat with
  | 0 => some .both
  | 1 => some .single
  | _ => none

def readStartMode (b : Byte) : Option StartMode :=
  match b.toNat with
  | 0 => some .immediate
  | 1 => some .onTrigger
  | _ => none

def readOnFail (b : Byte) : Option OnFail :=
  match b.toNat with
  | 0 => some .skip
  | 1 => some .abort
  | _ => none

def readOverrun (b : Byte) : Option Overrun :=
  match b.toNat with
  | 0 => some .abort
  | 1 => some .stretch
  | _ => none

/-- The stop mode of PLAN-STOP: true for AT_PASS_END, false for NOW. -/
def readStopMode (b : Byte) : Option Bool :=
  match b.toNat with
  | 0 => some false
  | 1 => some true
  | _ => none

def stepKindCode : StepKind → Nat
  | .restart => 0
  | .pause => 1
  | .resume => 2
  | .wait => 3
  | .waitTrigger => 4
  | .awaitCredit => 5
  | .mark => 6

def readStepKind (b : Byte) : Option StepKind :=
  match b.toNat with
  | 0 => some .restart
  | 1 => some .pause
  | 2 => some .resume
  | 3 => some .wait
  | 4 => some .waitTrigger
  | 5 => some .awaitCredit
  | 6 => some .mark
  | _ => none

def computerStateCode : ComputerState → Nat
  | .vacant => 0
  | .settle => 1
  | .join => 2
  | .track => 3
  | .control => 4
  | .lost => 5
  | .paused => 6
  | .fault => 7

def phaseCode : JoinPhase → Nat
  | .hello => 0
  | .image => 1

def channelModeCode : ChannelMode → Nat
  | .unadopted => 0
  | .forced => 1
  | .follow => 2
  | .meet => 3
  | .hold => 4
  | .fallback => 5

def runStateCode : RunState → Nat
  | .unknown => 0
  | .running => 1
  | .stopped => 2
  | .fault => 3

def trackCauseCode : TrackCause → Nat
  | .ordered => 0
  | .rejoin => 1
  | .start => 2
  | .enabled => 3
  | .resumed => 4
  | .broke => 5
  | .returned => 6

def healthCode : Health → Nat
  | .good => 0
  | .degraded => 1

def revokeCode : RevokeReason → Nat
  | .order => 0
  | .broke => 1
  | .pause => 2
  | .rejoin => 3

def restartSourceCode : RestartSource → Nat
  | .supervisor => 0
  | .plan => 1
  | .recovery => 2

def restartOutcomeCode : RestartOutcome → Nat
  | .issued => 0
  | .attached => 1
  | .queued => 2
  | .refused => 3

def executorStateCode : ExecutorState → Nat
  | .idle => 0
  | .armed => 1
  | .running => 2
  | .passWait => 3

def pendingStopCode : PendingStop → Nat
  | .none => 0
  | .atPassEnd => 1

def planResultCode : PlanResult → Nat
  | .none => 0
  | .done => 1
  | .abortedFail => 2
  | .abortedStop => 3
  | .abortedOverrun => 4

def partStateCode : PartState → Nat
  | .unconfigured => 0
  | .adopt => 1
  | .run => 2

def resetKindCode : ResetKind → Nat
  | .power => 0
  | .line => 1
  | .command => 2

def resultCode : ResultCode → Nat
  | .ok => 0
  | .queued => 1
  | .busy => 2
  | .refusedState => 3
  | .outOfRange => 4
  | .unknownCommand => 5
  | .badLength => 6
  | .windowBusy => 7
  | .notRunning => 8
  | .invalidPlan => 9
  | .already => 10
  | .unconfigured => 11
  | .adopting => 12

/-- The source codes of R169. -/
def counterSourceCode : CounterSource → Nat
  | .none => 0
  | .reportsDiscarded => 1
  | .reportGaps => 2
  | .unknownEntries => 3
  | .prematureHello => 4
  | .staleImageReplies => 5
  | .partialGrants => 6
  | .triggerIgnored => 7
  | .framesDiscarded => 8
  | .mismatches => 9

/-- A source code; a code above 9 names no source (R170). -/
def readCounterSource (b : Byte) : Option CounterSource :=
  match b.toNat with
  | 0 => some .none
  | 1 => some .reportsDiscarded
  | 2 => some .reportGaps
  | 3 => some .unknownEntries
  | 4 => some .prematureHello
  | 5 => some .staleImageReplies
  | 6 => some .partialGrants
  | 7 => some .triggerIgnored
  | 8 => some .framesDiscarded
  | 9 => some .mismatches
  | _ => none

/-! ### Byte forms of numbers (R184) -/

/-- A one-byte number. -/
def b1 (n : Nat) : List Byte := [byteOf n]

/-- A two-byte number. -/
def b2 (n : Nat) : List Byte := wordBytes n

/-- A one-byte number that may be absent; absent is all ones. -/
def opt1 : Option Nat → List Byte
  | some n => b1 n
  | none => [0xFF]

/-- A two-byte number that may be absent; absent is all ones. -/
def opt2 : Option Nat → List Byte
  | some n => b2 n
  | none => [0xFF, 0xFF]

/-- A flag. -/
def bflag (f : Bool) : List Byte := b1 (flagCode f)

/-- The number an event's last item is sent as. -/
def itemNumber : Item → Nat
  | .slot k => k.val
  | .channel c => c.val

/-- The time since a moment, in units of 100 ms, held at 65535 (R41, R51, R121). -/
def elapsed (now since : Nat) : Nat := min Config.hold16 ((now - since) / Config.timeUnit)

/-- A timer's remaining time in units of 100 ms; absent while it is stopped (R105, R153). -/
def remaining (now : Nat) (timer : Option Nat) : Option Nat :=
  timer.map fun deadline => (deadline - now) / Config.timeUnit

/-! ### The configuration payloads -/

/-- The ranges of a computer configuration (R75, R103). -/
def computerRanges (c : ComputerConfig) : Bool :=
  decide (200 ≤ c.reportTimeout) && decide (c.reportTimeout ≤ 5000) &&
  decide (c.reportTimeout % 100 = 0) && decide (c.settleCode ≤ 7) &&
  (decide (c.trackTimeout = 0) || (decide (10 ≤ c.trackTimeout) && decide (c.trackTimeout ≤ 600))) &&
  decide (1 ≤ c.requiredMatches) && decide (c.requiredMatches ≤ 15)

/-- A SET-COMPUTER payload's fields after the slot, none where one is out of range (R103). -/
def readComputer (fields : List Byte) : Option ComputerConfig :=
  match fields with
  | [en, ro, bo, rh, rl, sc, th, tl, rm, hs, bp, pp] =>
    match readFlag en, readRole ro, readBore bo, readStyle hs, readBreakPolicy bp, readPausePolicy pp with
    | some enabled, some role, some bore, some style, some breakPolicy, some pausePolicy =>
      let c : ComputerConfig :=
        { enabled, role, bore, reportTimeout := word rh rl, settleCode := sc.toNat
          trackTimeout := word th tl, requiredMatches := rm.toNat, style, breakPolicy, pausePolicy }
      if computerRanges c then some c else none
    | _, _, _, _, _, _ => none
  | _ => none

/-- A computer configuration as the payload lays it out after the slot (R184). -/
def computerFields (c : ComputerConfig) : List Byte :=
  bflag c.enabled ++ b1 (roleCode c.role) ++ b1 (boreCode c.bore) ++ b2 c.reportTimeout ++
  b1 c.settleCode ++ b2 c.trackTimeout ++ b1 c.requiredMatches ++ b1 (styleCode c.style) ++
  b1 (breakPolicyCode c.breakPolicy) ++ b1 (pausePolicyCode c.pausePolicy)

/-- The SET-COMPUTER payload of a slot and a configuration (R184). -/
def computerPayload (k : Slot) (c : ComputerConfig) : List Byte := b1 k.val ++ computerFields c

/-- The ranges of a channel configuration, and DAYLIGHT only with LIGHT (R1, R22). -/
def channelRanges (c : ChannelConfig) : Bool :=
  decide (1 ≤ c.slewRate) && decide (c.slewRate ≤ 1000) && decide (c.tolerance ≤ 100) &&
  decide (c.weight ≤ 255) && decide (c.startCost ≤ 30000) && decide (c.fallbackValue ≤ 1000) &&
  decide (c.zoneFactor ≤ 1000) && !(c.fallbackKind == .daylight && c.kind == .fan)

/-- An owner byte: a slot, or none as FFh; the outer none where it is neither (R184). -/
def readOwner (b : Byte) : Option (Option Slot) :=
  if b = 0xFF then some none else (readSlot b).map some

/-- A SET-CHANNEL payload's fields after the channel, none where one is out of range (R22). -/
def readChannel (fields : List Byte) : Option ChannelConfig :=
  match fields with
  | [ki, bo, ow, sh, sl, tol, we, ch, cl, fk, vh, vl, zh, zl] =>
    match readChannelKind ki, readBore bo, readOwner ow, readFallbackKind fk with
    | some kind, some bore, some owner, some fallbackKind =>
      let c : ChannelConfig :=
        { kind, bore, owner, slewRate := word sh sl, tolerance := tol.toNat, weight := we.toNat
          startCost := word ch cl, fallbackKind, fallbackValue := word vh vl
          zoneFactor := word zh zl }
      if channelRanges c then some c else none
    | _, _, _, _ => none
  | _ => none

/-- A channel configuration as the payload lays it out after the channel (R184). -/
def channelFields (c : ChannelConfig) : List Byte :=
  b1 (channelKindCode c.kind) ++ b1 (boreCode c.bore) ++ opt1 (c.owner.map (·.val)) ++
  b2 c.slewRate ++ b1 c.tolerance ++ b1 c.weight ++ b2 c.startCost ++
  b1 (fallbackKindCode c.fallbackKind) ++ b2 c.fallbackValue ++ b2 c.zoneFactor

/-- The SET-CHANNEL payload of a channel and a configuration (R184). -/
def channelPayload (c : Chan) (cfg : ChannelConfig) : List Byte := b1 c.val ++ channelFields cfg

/-- The ranges of the budget, and the single-feed cap not above the both-feeds cap (R26). -/
def budgetRanges (b : BudgetConfig) : Bool :=
  decide (b.bothCap ≤ 60000) && decide (b.singleCap ≤ 60000) && decide (b.refill ≤ 6000) &&
  decide (b.singleCap ≤ b.bothCap)

/-- Each number above the one before (R49). -/
def rising : List Nat → Bool
  | a :: b :: rest => decide (a < b) && rising (b :: rest)
  | _ => true

/-- The ranges of the daylight table (R49, R50). -/
def daylightRanges (d : DaylightConfig) : Bool :=
  decide (1 ≤ d.stages.length) && decide (d.stages.length ≤ 8) &&
  ((d.stages.head?.map (·.threshold)) == some 0) &&
  d.stages.all (fun s => decide (s.threshold ≤ Config.maxLuminance)) &&
  rising (d.stages.map (·.threshold)) &&
  d.stages.all (fun s => decide (s.level ≤ Config.fullOutput)) && decide (d.hysteresis ≤ 10000)

/-- The numbers of a SET-DAYLIGHT payload after N: N thresholds, N levels, the hysteresis (R184). -/
def readDaylight (n : Nat) (numbers : List Nat) : Option DaylightConfig :=
  let stages := List.zipWith (fun t l => { threshold := t, level := l : Stage })
    (numbers.take n) ((numbers.drop n).take n)
  let d : DaylightConfig := { stages, hysteresis := (numbers.drop (2 * n)).headD 0 }
  if daylightRanges d then some d else none

/-- The daylight table as the payload lays it out (R184). -/
def daylightPayload (d : DaylightConfig) : List Byte :=
  b1 d.stages.length ++ (d.stages.map (b2 ·.threshold)).flatten ++
  (d.stages.map (b2 ·.level)).flatten ++ b2 d.hysteresis

/-- The operand check of one step by its kind (R124); the clamp of WAIT and the zero of WAIT-TRIGGER are
those of the stored record (R125). -/
def checkOperand (kind : StepKind) (operand : Nat) : Option Nat :=
  match kind with
  | .restart | .pause | .resume => if operand ≤ 7 then some operand else none
  | .wait => if operand = 0 then none else some (min operand 3600)
  | .waitTrigger => some 0
  | .awaitCredit => if operand ≤ 60000 then some operand else none
  | .mark => if operand ≤ 255 then some operand else none

/-- One step record of five bytes; none where its kind, operand or timeout is out of range (R125). -/
def readStep (kind oh ol th tl : Byte) : Option PlanStep :=
  match readStepKind kind with
  | some k =>
    match checkOperand k (word oh ol) with
    | some operand =>
      if word th tl ≤ 3600 then some { kind := k, operand, timeout := word th tl } else none
    | none => none
  | none => none

/-- The steps of a SET-PLAN payload from step `i` upward, or the number of the first step that fails its
check (R125). -/
def readSteps (i : Nat) : List Byte → Except Nat (List PlanStep)
  | kind :: oh :: ol :: th :: tl :: rest =>
    match readStep kind oh ol th tl with
    | none => .error i
    | some step =>
      match readSteps (i + 1) rest with
      | .ok steps => .ok (step :: steps)
      | .error j => .error j
  | _ => .ok []

/-- A SET-PLAN payload's settings: pass count, pass period, start mode, on-fail, overrun and the number
of steps, with no steps yet; none where one is out of range (R125). -/
def readSettings (count ph pl mode onFail overrun steps : Byte) : Option PlanRecord :=
  match readStartMode mode, readOnFail onFail, readOverrun overrun with
  | some startMode, some onFail, some overrun =>
    if steps.toNat ≤ 24 ∧ count.toNat ≤ 15 ∧ word ph pl ≤ 3600 then
      some { steps := [], passCount := count.toNat, passPeriod := word ph pl, startMode, onFail, overrun }
    else none
  | _, _, _ => none

/-- The mask of a SET-EVENT-MASK payload: bit i for index i, bit 0 least significant; the flags of
COMPUTER_FAULT, DRIVE_FAULT and STORE_FAILED are taken as clear (R167, R184). -/
def readMask (hi lo : Byte) : Vector Bool 16 :=
  Vector.ofFn fun i => (word hi lo).testBit i.val && !(i.val == 3 || i.val == 11 || i.val == 15)

end Sys2Proof.Machine
end

