-- ==== Sys2Proof/Machine/Frames.lean ====
section
/-! DEFINITION. The bytes of what the part sends: replies and notices to the host, orders to the
computers, records to the modules (R184 to R186). -/

namespace Sys2Proof.Machine

/-! ### Event kinds (R164) -/

/-- The index of an event kind. -/
def eventIndex : EventKind → Fin 16
  | .computerControl => 0
  | .computerLost => 1
  | .attemptFailed => 2
  | .computerFault => 3
  | .broke => 4
  | .windowWait => 5
  | .planDone => 6
  | .planAborted => 7
  | .planOverrun => 8
  | .stepFailed => 9
  | .budgetStarved => 10
  | .driveFault => 11
  | .daylightStale => 12
  | .unadopted => 13
  | .storeDone => 14
  | .storeFailed => 15

/-- The kinds in index order. -/
def eventKinds : List EventKind :=
  [.computerControl, .computerLost, .attemptFailed, .computerFault, .broke, .windowWait, .planDone,
   .planAborted, .planOverrun, .stepFailed, .budgetStarved, .driveFault, .daylightStale, .unadopted,
   .storeDone, .storeFailed]

/-- The kinds whose mask flag is always clear (R164). -/
def maskable : EventKind → Bool
  | .computerFault => false
  | .driveFault => false
  | .storeFailed => false
  | _ => true

/-- A set of kinds as two bytes, bit i for index i (R184). -/
def kindBits (kinds : List EventKind) : List Byte :=
  b2 ((kinds.map fun k => 2 ^ (eventIndex k).val).sum)

/-! ### Frames to the host -/

/-- The two detail bytes of a reply (R184). -/
def detailBytes : Detail → List Byte
  | .absent => [0, 0]
  | .step n => 1 :: b1 n
  | .channel c => 2 :: b1 c.val
  | .budget => [3, 0]

/-- The bytes of a frame to the host. A reply's kind is its command's kind with the top bit set; both
notices carry the tag 0 (R184). -/
def outBytes : OutFrame → List Byte
  | .reply kind tag code detail data =>
    frameBytes (kind ||| 0x80) tag (b1 (resultCode code) ++ detailBytes detail ++ data)
  | .eventNotice kinds =>
    frameBytes 0xF0 0 (kindBits (kinds.map (·.1)) ++
      (kinds.map fun k => opt1 (k.2.map itemNumber)).flatten)
  | .planMark plan pass step code =>
    frameBytes 0xF1 0 (b1 plan.val ++ b2 pass ++ b1 step ++ b1 code)

/-! ### Orders to a computer (R185) -/

/-- One entry of an IMAGE. -/
def imageEntryBytes (e : ImageEntry) : List Byte :=
  b1 e.channel.val ++ opt2 e.driven ++ b1 (channelModeCode e.mode) ++
  b1 (flagCode e.adopted + 2 * flagCode e.driveFault)

/-- The kind byte of an order. -/
def orderKind : Order → Byte
  | .restart _ => 0x41
  | .image _ _ => 0x42
  | .grant _ _ => 0x43
  | .revoke _ => 0x44
  | .pause => 0x45
  | .resume => 0x46

/-- The payload of an order. -/
def orderPayload : Order → List Byte
  | .restart code => b1 code
  | .image gen entries => b2 gen ++ b1 entries.length ++ (entries.map imageEntryBytes).flatten
  | .grant gen owned => b2 gen ++ b1 owned
  | .revoke reason => b1 (revokeCode reason)
  | .pause => []
  | .resume => []

/-- The bytes of an order, carrying the send sequence in its sequence byte (R71). -/
def orderBytes (sequence : Nat) (o : Order) : List Byte :=
  frameBytes (orderKind o) (byteOf sequence) (orderPayload o)

/-! ### Records to the modules (R186) -/

/-- A SET record. -/
def setBytes (r : SetRecord) : List Byte := recordBytes (byteOf r.channel.val) 0x01 r.value 0

/-- A POLL of one module. -/
def pollBytes (c : Chan) : List Byte := recordBytes (byteOf c.val) 0x02 0 0

/-- A POLL-ALL. -/
def pollAllBytes : List Byte := recordBytes 0xFF 0x03 0 0

end Sys2Proof.Machine
end

