-- ==== Sys2Proof/Machine/Ops.lean ====
section
/-! DEFINITION. The named operations over records, timers and lists that every block's rules are
written with. -/

namespace Sys2Proof.Machine

/-! ### Events -/

/-- An event reaches the part. While the reset line holds the part, every event but a reset finds it
held and changes nothing (R175; assumption log 4). -/
def whenLive (f : State → State) (s : State) : Host.Outcome State Fault Refusal :=
  .next (if s.held then s else f s)

/-- A timer's expiry: it happens only while the timer runs, and the clock then stands at or past the time
at which the timer runs out (assumption log 2). -/
def expire (timer : Option Nat) (f : State → State) (s : State) : State :=
  match timer with
  | none => s
  | some deadline => f { s with now := max s.now deadline }

/-- A count of the ports, held at 65535 (R59, R156). -/
def bump16 (n : Nat) : Nat := min Config.hold16 (n + 1)

/-! ### Records -/

/-- Every channel, ascending. -/
def allChannels : List Chan := List.finRange 48

/-- Every slot, ascending. -/
def allSlots : List Slot := List.finRange 8

/-- Change one channel's run-time record. -/
def updChannel (c : Chan) (f : ChannelRun → ChannelRun) (s : State) : State :=
  { s with channels := s.channels.set c (f s.channels[c]) }

/-- Change every channel's run-time record, each knowing its number. -/
def mapChannels (f : Chan → ChannelRun → ChannelRun) (s : State) : State :=
  { s with channels := Vector.ofFn fun c => f c s.channels[c] }

/-- Change one slot's context. -/
def updContext (k : Slot) (f : Context → Context) (s : State) : State :=
  { s with contexts := s.contexts.set k (f s.contexts[k]) }

/-- Change one slot's port. -/
def updPort (k : Slot) (f : Port → Port) (s : State) : State :=
  { s with ports := s.ports.set k (f s.ports[k]) }

/-! ### Channels by configuration -/

/-- A channel is used when its owner is a slot, or its fallback kind is FIXED or DAYLIGHT (R3). -/
def usedConfig (cfg : ChannelConfig) : Bool := cfg.owner.isSome || cfg.fallbackKind != .hold

/-- The used condition of a channel (R3). -/
def isUsed (s : State) (c : Chan) : Bool := usedConfig s.cfg.channels[c]

/-- A channel's owner is this slot (R75). -/
def owns (s : State) (k : Slot) (c : Chan) : Bool := s.cfg.channels[c].owner == some k

/-- The channels a slot owns, ascending. -/
def ownedBy (s : State) (k : Slot) : List Chan := allChannels.filter (owns s k)

/-- The step size, derived from the slew rate (R1). -/
def stepSize (cfg : ChannelConfig) : Nat := max 1 (cfg.slewRate / 10)

/-- The plan, its record, the current step's number and its record, while the executor is RUNNING. -/
def runningStep (s : State) : Option (PlanNo × PlanRecord × Nat × PlanStep) :=
  match s.executor.state, s.executor.plan, s.executor.step with
  | .running, some p, some i =>
    match s.cfg.plans[p].steps[i]? with
    | some st => some (p, s.cfg.plans[p], i, st)
    | none => none
  | _, _, _ => none

/-! ### Bores and windows (R108) -/

/-- A slot's configured bore. -/
def boreOf (s : State) (k : Slot) : Bore := s.cfg.computers[k].bore

/-- A bore's window limit. -/
def limitOf (s : State) : Bore → Nat
  | .one => s.cfg.limit1
  | .two => s.cfg.limit2

/-- A bore's in-progress count. -/
def countOf (s : State) : Bore → Nat
  | .one => s.window.count1
  | .two => s.window.count2

/-- Change a bore's in-progress count. -/
def updCount (b : Bore) (f : Nat → Nat) (s : State) : State :=
  match b with
  | .one => { s with window := { s.window with count1 := f s.window.count1 } }
  | .two => { s with window := { s.window with count2 := f s.window.count2 } }

/-- Replace the restart wait list. -/
def setWaitList (l : List WaitEntry) (s : State) : State :=
  { s with window := { s.window with waitList := l } }

/-- The slot has an entry on the wait list. -/
def isWaiting (s : State) (k : Slot) : Bool := s.window.waitList.any (·.slot == k)

/-- An entry of the bore waits. -/
def boreWaits (s : State) (b : Bore) : Bool := s.window.waitList.any fun e => boreOf s e.slot == b

/-! ### Send lists -/

/-- A SET record for a channel's new D reaches the field link master: it replaces a waiting one in its
place or joins at the back (R12). -/
def queueSet (c : Chan) (value : Nat) (s : State) : State :=
  let l := s.field.sendList
  let r : SetRecord := { channel := c, value }
  let l' := if l.any (·.channel == c) then l.map fun e => if e.channel == c then r else e else l ++ [r]
  { s with field := { s.field with sendList := l' } }

/-- Whether an order is an IMAGE. -/
def isImage : Order → Bool
  | .image _ _ => true
  | _ => false

/-- An order is issued to a slot's port (R71): an IMAGE replaces a waiting IMAGE in its place; otherwise
the order joins at the back, or is lost and counted where 8 frames wait. -/
def sendOrder (k : Slot) (o : Order) (s : State) : State :=
  updPort k (fun p =>
    if isImage o && p.sendList.any isImage then
      { p with sendList := p.sendList.map fun e => if isImage e then o else e }
    else if p.sendList.length < Config.sendListSize then { p with sendList := p.sendList ++ [o] }
    else { p with sendDrops := bump16 p.sendDrops }) s

end Sys2Proof.Machine
end

