-- ==== Sys2Proof/Machine/Flags.lean ====
section
/-! DEFINITION. The event unit's flags and counter, and the outgoing list that its notices share with the
replies (spec/09, sections 9.1, 9.3 and 9.4). -/

namespace Sys2Proof.Machine

/-- Whether an outgoing frame is the EVENT notice. -/
def isNotice : OutFrame → Bool
  | .eventNotice _ => true
  | _ => false

/-- Place a frame at the back of the outgoing list. -/
def placeOut (f : OutFrame) (s : State) : State :=
  { s with supervisory := { s.supervisory with outgoing := s.supervisory.outgoing ++ [f] } }

/-- The latched unmasked set with its last items, in index order (R166). -/
def latchedUnmasked (s : State) : List (EventKind × Option Item) :=
  (eventKinds.filter fun k => s.events[eventIndex k].latched && !s.cfg.mask[eventIndex k]).map
    fun k => (k, s.events[eventIndex k].item)

/-- The event unit calls for a notice (R166): a waiting EVENT notice is brought up to date in its place,
else a new one is placed at the back. -/
def callNotice (s : State) : State :=
  let n := OutFrame.eventNotice (latchedUnmasked s)
  if s.supervisory.outgoing.any isNotice then
    { s with supervisory := { s.supervisory with
        outgoing := s.supervisory.outgoing.map fun f => if isNotice f then n else f } }
  else placeOut n s

/-- A block's report of an event (R165): the kind is latched with the report's item, and a kind that goes
from clear to latched while unmasked calls for a notice. -/
def latch (k : EventKind) (item : Option Item) (s : State) : State :=
  let s' := { s with events := s.events.set (eventIndex k) { latched := true, item } }
  if s.events[eventIndex k].latched || s.cfg.mask[eventIndex k] then s' else callNotice s'

/-- A block's count under a source (R169), held at 255. -/
def count (source : CounterSource) (s : State) : State :=
  if s.cfg.counterSource = source ∧ source ≠ .none then
    { s with counter := min Config.hold8 (s.counter + 1) }
  else s

/-- A PLAN_MARK notice is placed while the list holds fewer than 31 frames; otherwise it is counted under
notices lost (R160). -/
def placeMark (plan : PlanNo) (pass step code : Nat) (s : State) : State :=
  if s.supervisory.outgoing.length < Config.markLimit then placeOut (.planMark plan pass step code) s
  else { s with supervisory := { s.supervisory with noticesLost := bump16 s.supervisory.noticesLost } }

end Sys2Proof.Machine
end

