-- ==== Sys2Proof/Machine/Admission.lean ====
section
/-! DEFINITION. The admission unit: its queue, the serving of the queue, and the grant as the channel
table applies it (spec/02; R11). -/

namespace Sys2Proof.Machine

/-- The current cap (R27). -/
def currentCap (s : State) : Nat :=
  match s.admission.feed with
  | .both => s.cfg.budget.bothCap
  | .single => s.cfg.budget.singleCap

/-- A channel's entry in the admission queue, if it has one (R31). -/
def entryOf (s : State) (c : Chan) : Option AdmissionEntry :=
  s.admission.queue.find? (·.channel == c)

/-- Replace the admission queue. -/
def setQueue (q : List AdmissionEntry) (s : State) : State :=
  { s with admission := { s.admission with queue := q } }

/-- A withdrawal removes the channel's entry with its starvation timer (R10, R34). -/
def withdraw (c : Chan) (s : State) : State :=
  setQueue (s.admission.queue.filter (·.channel != c)) s

/-- A standing entry's wanted rise is overwritten; its place, joined time and starvation state are kept
(R32, R33). -/
def overwriteWanted (c : Chan) (w : Nat) (s : State) : State :=
  setQueue (s.admission.queue.map fun e => if e.channel == c then { e with wanted := w } else e) s

/-- A rise request (R32): it overwrites a standing entry, or joins at the back with its starvation timer
started. It serves nothing by itself. -/
def putRequest (c : Chan) (w : Nat) (s : State) : State :=
  if (entryOf s c).isSome then overwriteWanted c w s
  else
    setQueue (s.admission.queue ++
      [{ channel := c, wanted := w, joined := s.now, reported := false
         starvation := some (s.now + Config.starvationTime) }]) s

/-- The start charge S of the head entry (R36). -/
def startCharge (s : State) (c : Chan) : Nat :=
  if s.channels[c].driven.getD 0 = 0 then s.cfg.channels[c].startCost else 0

/-- The affordability test of R36. -/
def affordable (s : State) (c : Chan) : Bool :=
  decide (startCharge s c + max s.cfg.channels[c].weight 1 ≤ s.admission.credit)

/-- The grant g of R37; a weight of 0 makes the affordable rise unlimited. -/
def grantSize (s : State) (c : Chan) (w : Nat) : Nat :=
  if s.cfg.channels[c].weight = 0 then w
  else min w ((s.admission.credit - startCharge s c) / s.cfg.channels[c].weight)

/-- A grant of g to a channel: the charge, then the rise with its SET record, and the start-confirm timer
where the rise begins at 0 (R11, R37 steps 1 and 2). -/
def applyGrant (c : Chan) (g : Nat) (s : State) : State :=
  let d := s.channels[c].driven.getD 0
  let charge := startCharge s c + s.cfg.channels[c].weight * g
  let s := { s with admission := { s.admission with credit := s.admission.credit - charge } }
  let s := updChannel c (fun ch =>
    { ch with
      driven := some (d + g)
      startConfirm := if d = 0 then some (s.now + Config.startConfirmTime) else ch.startConfirm }) s
  queueSet c (d + g) s

/-- Serve a queue strictly from its head (R35 to R38): a blocked head or a partial grant ends the serving
with that entry at the head, a full grant goes on with the next entry. -/
def serveQueue : List AdmissionEntry → State → State
  | [], s => setQueue [] s
  | e :: rest, s =>
    if affordable s e.channel then
      let g := grantSize s e.channel e.wanted
      let s' := applyGrant e.channel g s
      if g = e.wanted then serveQueue rest s'
      else
        count .partialGrants (setQueue
          ({ e with
              wanted := e.wanted - g
              reported := false
              starvation := some (s.now + Config.starvationTime) } :: rest) s')
    else setQueue (e :: rest) s

/-- One serving (R35). -/
def serve (s : State) : State := serveQueue s.admission.queue s

/-- Credit is clamped to the current cap (R28, R30). -/
def clampCredit (s : State) : State :=
  { s with admission := { s.admission with credit := min s.admission.credit (currentCap s) } }

/-- The refill of R29, step 1. -/
def refillCredit (s : State) : State :=
  { s with admission := { s.admission with
      credit := min (currentCap s) (s.admission.credit + s.cfg.budget.refill) } }

end Sys2Proof.Machine
end

