-- ==== Sys2Proof/Machine/ChannelTable.lean ====
section
/-! DEFINITION. The channel table: mode and target, the step expiry, drive faults, adoption of a channel
and the used condition (spec/01, spec/03). -/

namespace Sys2Proof.Machine

/-! ### Mode and target -/

/-- The mode that the owner's context gives (R4, rows 3 to 6). -/
def ownerMode (x : Context) : ChannelMode :=
  match x.state with
  | .control => .follow
  | .track =>
    match x.activeStyle with
    | .meet => .meet
    | .hold => .hold
  | .settle => .hold
  | .join => .hold
  | .lost => .fallback
  | .paused => .fallback
  | .fault => .fallback
  | .vacant => .fallback

/-- The mode of a channel (R4). -/
def modeOf (s : State) (c : Chan) : ChannelMode :=
  if s.channels[c].adopted then
    if s.channels[c].forced.isSome then .forced
    else
      match s.cfg.channels[c].owner with
      | none => .fallback
      | some k => ownerMode s.contexts[k]
  else .unadopted

/-- The frozen mode-and-kind a channel stands in, if any (R5): mode HOLD, or mode FALLBACK with kind
HOLD. -/
def frozenIn (mode : ChannelMode) (kind : FallbackKind) : Option ChannelMode :=
  match mode, kind with
  | .hold, _ => some .hold
  | .fallback, .hold => some .fallback
  | _, _ => none

/-- The level of the current stage (R51). -/
def stageLevel (s : State) : Nat := ((s.cfg.daylight.stages[s.daylight.stage]?).map (·.level)).getD 0

/-- A frozen target: it stays where it was if the channel was frozen in the same mode-and-kind, and is D
where the channel enters it (R5). -/
def frozenTarget (was : Option ChannelMode) (mode : ChannelMode) (ch : ChannelRun) : Option Nat :=
  if was = some mode then ch.target else some (ch.driven.getD 0)

/-- The target of a channel in a mode (R4, R47), where `was` is the frozen mode-and-kind it stood in. -/
def targetOf (s : State) (c : Chan) (mode : ChannelMode) (was : Option ChannelMode) : Option Nat :=
  let ch := s.channels[c]
  let cfg := s.cfg.channels[c]
  match mode with
  | .unadopted => none
  | .forced => ch.forced
  | .follow => some (ch.demand.getD (ch.driven.getD 0))
  | .meet => some (ch.demand.getD (ch.driven.getD 0))
  | .hold => frozenTarget was .hold ch
  | .fallback =>
    match cfg.fallbackKind with
    | .hold => frozenTarget was .fallback ch
    | .fixed => some cfg.fallbackValue
    | .daylight => some (stageLevel s * cfg.zoneFactor / 1000)

/-- After a derivation the new T is compared with D and the admission entry withdrawn, lowered or left
(R6); a lowering starts a serving (R33). -/
def followTarget (c : Chan) (s : State) : State :=
  match s.channels[c].target with
  | none => withdraw c s
  | some t =>
    let d := s.channels[c].driven.getD 0
    if t ≤ d then withdraw c s
    else
      match entryOf s c with
      | some e => if t - d < e.wanted then serve (overwriteWanted c (t - d) s) else s
      | none => s

/-- Derive a channel's mode and target (R4 to R6), where `was` is the frozen mode-and-kind the channel
stood in before the change that calls for the derivation. -/
def deriveFrom (was : Option ChannelMode) (c : Chan) (s : State) : State :=
  let mode := modeOf s c
  let target := targetOf s c mode was
  followTarget c (updChannel c (fun ch => { ch with mode, target }) s)

/-- The frozen mode-and-kind a channel now stands in. -/
def frozenNow (s : State) (c : Chan) : Option ChannelMode :=
  frozenIn s.channels[c].mode s.cfg.channels[c].fallbackKind

/-- Derive a channel whose fallback kind has not just changed. -/
def derive (c : Chan) (s : State) : State := deriveFrom (frozenNow s c) c s

/-- Derive some channels, in the order given. -/
def deriveEach (cs : List Chan) (s : State) : State := cs.foldl (fun s c => derive c s) s

/-- Derive every channel a slot owns, ascending (R78 step 5). -/
def deriveOwned (k : Slot) (s : State) : State := deriveEach (ownedBy s k) s

/-- The adopted LIGHT channels in FALLBACK with kind DAYLIGHT are derived again, ascending (R54). -/
def deriveDaylight (s : State) : State :=
  deriveEach (allChannels.filter fun c =>
    s.channels[c].adopted && s.cfg.channels[c].kind == .light && s.channels[c].mode == .fallback &&
    s.cfg.channels[c].fallbackKind == .daylight) s

/-! ### Counted channels (R21) -/

/-- A channel with this run-time record is counted for its owner, if it has one. -/
def countedRecord (owned : Bool) (ch : ChannelRun) : Bool :=
  owned && ch.adopted && !ch.driveFault && ch.forced.isNone

/-- The channel is counted for its owner. -/
def isCounted (s : State) (c : Chan) : Bool :=
  countedRecord s.cfg.channels[c].owner.isSome s.channels[c]

/-- The counted channels of a slot, ascending. -/
def countedOf (s : State) (k : Slot) : List Chan := (ownedBy s k).filter (isCounted s)

/-- Change a channel's record; a channel that becomes counted by the change starts with match count 0
(R21). -/
def updRecount (c : Chan) (f : ChannelRun → ChannelRun) (s : State) : State :=
  let owned := s.cfg.channels[c].owner.isSome
  updChannel c (fun ch =>
    let ch' := f ch
    if !countedRecord owned ch && countedRecord owned ch' then { ch' with matchCount := 0 } else ch') s

/-! ### Drive faults -/

/-- Setting the drive fault (R16); a case that arises while it is set leaves everything as it is. -/
def setDriveFault (c : Chan) (s : State) : State :=
  if s.channels[c].driveFault then s
  else
    latch .driveFault (some (.channel c)) (withdraw c
      (updChannel c (fun ch => { ch with driveFault := true, startConfirm := none }) s))

/-- Clearing the drive fault, which ends the channel's excusal (R18, R21). -/
def clearDriveFault (c : Chan) (s : State) : State :=
  updRecount c (fun ch => { ch with driveFault := false }) s

/-- Adopt an unadopted channel at a value: no charge, no SET record (R12, R180). -/
def adoptAt (c : Chan) (value : Nat) (s : State) : State :=
  updRecount c (fun ch => { ch with driven := some value, adopted := true }) s

/-- The judgement of a STATE record on an adopted channel (R15 to R18). -/
def judgeRecord (c : Chan) (run : ModuleRun) (s : State) : State :=
  match run with
  | .running => clearDriveFault c (updChannel c (fun ch => { ch with startConfirm := none }) s)
  | .stopped =>
    if 0 < s.channels[c].driven.getD 0 ∧ s.channels[c].startConfirm = none then setDriveFault c s
    else s
  | .fault => setDriveFault c s

/-- A run state as a STATE record reports it. -/
def reportedRun : ModuleRun → RunState
  | .running => .running
  | .stopped => .stopped
  | .fault => .fault

/-- A STATE record taken for a used channel (R14): the run state is set, an unadopted channel is adopted
at the value clamped to 1000 and derived, and the record is judged against the adopted D. -/
def takeState (c : Chan) (value : Nat) (run : ModuleRun) (s : State) : State :=
  let s := updChannel c (fun ch => { ch with runState := reportedRun run }) s
  let s := if s.channels[c].adopted then s else derive c (adoptAt c (min value Config.fullOutput) s)
  judgeRecord c run s

/-! ### The used condition -/

/-- A channel goes from used to unused (R3). -/
def makeUnused (c : Chan) (s : State) : State :=
  let s := withdraw c s
  let s := { s with field := { s.field with
      sendList := s.field.sendList.filter (·.channel != c) } }
  updChannel c (fun _ => resetChannel) s

/-! ### The step expiry -/

/-- A fall of one step size toward the target (R8). -/
def fall (c : Chan) (s : State) : State :=
  let ch := s.channels[c]
  match ch.adopted, ch.driven, ch.target with
  | true, some d, some t =>
    if t < d then
      let d' := max t (d - stepSize s.cfg.channels[c])
      queueSet c d' (updChannel c (fun ch =>
        { ch with driven := some d', startConfirm := if d' = 0 then none else ch.startConfirm }) s)
    else s
  | _, _, _ => s

/-- The wanted rise a channel requests at a step expiry, if it requests one (R9). -/
def riseWanted (s : State) (c : Chan) : Option Nat :=
  let ch := s.channels[c]
  match ch.adopted && !ch.driveFault, ch.driven, ch.target with
  | true, some d, some t => if d < t then some (min (t - d) (stepSize s.cfg.channels[c])) else none
  | _, _, _ => none

/-- All the falls of one step expiry (R8). They are taken, and their SET records queued, in ascending channel
order (DESIGN CHOICE, assumption log 13; R9 orders the requests only). -/
def fallAll (s : State) : State := allChannels.foldl (fun s c => fall c s) s

/-- All the requests of one step expiry, ascending, then one serving after the last of them (R9, R35). -/
def requestAll (s : State) : State :=
  let risers := allChannels.filter fun c => (riseWanted s c).isSome
  let s' := risers.foldl (fun t c => putRequest c ((riseWanted s c).getD 0) t) s
  if risers.isEmpty then s' else serve s'

/-! ### The daylight stage (R53) -/

/-- The highest stage whose threshold is at most a luminance; stage 0 where none is. -/
def highestStage (stages : List Stage) (luminance : Nat) : Nat :=
  (stages.zipIdx.filter fun p => p.1.threshold ≤ luminance).foldl (fun k p => max k p.2) 0

/-- The stage selected from a reading and the present stage (R53). -/
def selectStage (d : DaylightConfig) (luminance stage : Nat) : Nat :=
  let u := highestStage d.stages luminance
  if stage < u then u
  else if u < stage then min stage (highestStage d.stages (luminance + d.hysteresis))
  else stage

end Sys2Proof.Machine
end

