-- ==== Sys2Proof/Machine/Handover.lean ====
section
/-! DEFINITION. The handover controller's changes of state: entries to SETTLE, JOIN, TRACK, LOST, PAUSED
and VACANT, restart orders as the controller takes them, images, pause and resume (spec/05; the port's
side of R66, R68 and R72). What also reaches the window unit or the executor stands in Outcomes.lean. -/

namespace Sys2Proof.Machine

/-- The settle time of a settle code in seconds (R77). -/
def settleSeconds (code : Nat) : Nat :=
  match code with
  | 0 => 2
  | 1 => 5
  | 2 => 10
  | 3 => 20
  | 4 => 30
  | 5 => 60
  | 6 => 120
  | _ => 240

/-- States in which a port's report timer runs (R68). -/
def reporting : ComputerState → Bool
  | .track => true
  | .control => true
  | _ => false

/-- A port's report timer starts for the timeout configured now (R68). -/
def startReport (k : Slot) (s : State) : State :=
  updPort k (fun p =>
    { p with reportTimer := some (s.now + s.cfg.computers[k].reportTimeout) }) s

/-- A port's report timer stops. -/
def stopReport (k : Slot) (s : State) : State := updPort k (fun p => { p with reportTimer := none }) s

/-- The demands of every owned channel become absent (R7). -/
def clearDemands (k : Slot) (s : State) : State :=
  mapChannels (fun c ch => if owns s k c then { ch with demand := none } else ch) s

/-- The match counts of every owned channel become 0 (R85). -/
def clearMatches (k : Slot) (s : State) : State :=
  mapChannels (fun c ch => if owns s k c then { ch with matchCount := 0 } else ch) s

/-- A port's sequence expectation becomes absent (R66). -/
def clearExpectation (k : Slot) (s : State) : State :=
  updPort k (fun p => { p with expectation := none }) s

/-- Steps 1 and 2 of R78 on the context: the context timers stop, the new state and phase are set, the
track cause is kept in TRACK and CONTROL and becomes absent elsewhere (R76). -/
def contextEnters (new : ComputerState) (phase : Option JoinPhase) (x : Context) : Context :=
  { x with
    state := new
    phase
    trackCause := if reporting new then x.trackCause else none
    settleTimer := none
    helloTimer := none
    imageTimer := none
    trackTimer := none }

/-- Step 3 of R78: what an entry to SETTLE, JOIN or VACANT makes absent. -/
def forget (k : Slot) (new : ComputerState) (s : State) : State :=
  match new with
  | .settle => clearExpectation k (clearDemands k s)
  | .join => clearExpectation k (clearDemands k s)
  | .vacant => clearExpectation k s
  | _ => s

/-- Step 4 of R78: the port starts or stops its report timer (R68). -/
def linkEnters (k : Slot) (old new : ComputerState) (s : State) : State :=
  if reporting new then (if reporting old then s else startReport k s) else stopReport k s

/-- Steps 1 to 4 of R78, the new state's own fields and timers being set by `f`. Step 5 is `deriveOwned`. -/
def changeState (k : Slot) (new : ComputerState) (phase : Option JoinPhase) (f : Context → Context)
    (s : State) : State :=
  let old := s.contexts[k].state
  linkEnters k old new (forget k new (updContext k (fun x => f (contextEnters new phase x)) s))

/-- The slot enters SETTLE, its settle timer started from the settle code configured now (R77, R79). -/
def enterSettle (k : Slot) (s : State) : State :=
  let deadline := s.now + settleSeconds s.cfg.computers[k].settleCode * Config.second
  deriveOwned k (changeState k .settle none (fun x => { x with settleTimer := some deadline }) s)

/-- The slot enters TRACK with a cause (R85). -/
def enterTrack (k : Slot) (cause : TrackCause) (zeroMatches : Bool) (s : State) : State :=
  let cfg := s.cfg.computers[k]
  let timer := if cfg.trackTimeout = 0 then none else some (s.now + cfg.trackTimeout * Config.second)
  let s := changeState k .track none (fun x =>
    { x with trackCause := some cause, activeStyle := cfg.style, trackTimer := timer }) s
  deriveOwned k (if zeroMatches then clearMatches k s else s)

/-- The slot enters LOST (R94). -/
def enterLost (k : Slot) (s : State) : State := deriveOwned k (changeState k .lost none id s)

/-- A RESTART order carries the slot's configured settle code (R61). -/
def sendRestart (k : Slot) (s : State) : State :=
  sendOrder k (.restart s.cfg.computers[k].settleCode) s

/-- The entries of an IMAGE, fixed at its issue: every owned channel, ascending (R72). -/
def imageEntries (s : State) (k : Slot) : List ImageEntry :=
  (ownedBy s k).map fun c =>
    let ch := s.channels[c]
    { channel := c, driven := ch.driven, mode := ch.mode, adopted := ch.adopted
      driveFault := ch.driveFault }

/-- The image generation rises by 1, wrapping to 0 after 65535, and an IMAGE carrying it is issued
(R82). -/
def issueImage (k : Slot) (s : State) : State :=
  let gen := (s.contexts[k].generation + 1) % 65536
  sendOrder k (.image gen (imageEntries s k)) (updContext k (fun x => { x with generation := gen }) s)

/-- The image timer starts for a full 2 s. -/
def startImageTimer (k : Slot) (s : State) : State :=
  updContext k (fun x => { x with imageTimer := some (s.now + Config.imageTime) }) s

/-- The slot enters JOIN phase IMAGE from a running state with a new image (R95 steps 2 to 4, R96). -/
def enterImage (k : Slot) (s : State) : State :=
  startImageTimer k (issueImage k (deriveOwned k (changeState k .join (some .image) id s)))

/-- A HELLO in CONTROL, in TRACK with restart-in-progress clear, or in LOST (R95). -/
def selfRestart (k : Slot) (s : State) : State :=
  enterImage k (if s.contexts[k].state = .control then sendOrder k (.revoke .rejoin) s else s)

/-- A HELLO in TRACK with restart-in-progress set (R96). -/
def rejoin (k : Slot) (s : State) : State := enterImage k s

/-- The controller takes a restart order (R79). No order finds the slot in SETTLE or VACANT; if one did,
the controller would leave it as it is. -/
def orderTaken (k : Slot) (s : State) : State :=
  match s.contexts[k].state with
  | .control => enterSettle k (sendRestart k (sendOrder k (.revoke .order) s))
  | .fault => enterSettle k (sendRestart k (updContext k (fun x => { x with failures := 0 }) s))
  | .track => enterSettle k (sendRestart k s)
  | .lost => enterSettle k (sendRestart k s)
  | .paused => enterSettle k (sendRestart k s)
  | .join => enterSettle k (sendRestart k s)
  | .settle => s
  | .vacant => s

/-- The states in which a pause request is accepted (R99). -/
def pausable (x : Context) : Bool :=
  x.state == .control || (x.state == .track && !x.inProgress)

/-- An accepted pause request (R99). -/
def pauseSlot (k : Slot) (s : State) : State :=
  let s := if s.contexts[k].state = .control then sendOrder k (.revoke .pause) s else s
  deriveOwned k (changeState k .paused none id (sendOrder k .pause s))

/-- An accepted resume request: the match counts follow the pause policy configured now (R101). -/
def resumeSlot (k : Slot) (s : State) : State :=
  enterTrack k .resumed (s.cfg.computers[k].pausePolicy == .clear) (sendOrder k .resume s)

end Sys2Proof.Machine
end

