-- ==== Sys2Proof/Machine/Window.lean ====
section
/-! DEFINITION. The restart window unit: requests, orders, serving and the removal of entries (spec/06),
and the executor's note of an issued order (R111 step 4, R142). -/

namespace Sys2Proof.Machine

/-- Who makes a restart request, the plan with its number (R110). -/
inductive Requester
  | supervisor
  | plan (p : PlanNo)
  | recovery
  deriving DecidableEq, Repr

/-- The rows of R110. -/
inductive RequestRow
  | inProgress
  | waiting
  | vacant
  | issue
  | append
  deriving DecidableEq, Repr

/-- The first row of R110 whose condition holds. -/
def requestRow (s : State) (k : Slot) : RequestRow :=
  let b := boreOf s k
  if s.contexts[k].inProgress then .inProgress
  else if isWaiting s k then .waiting
  else if s.contexts[k].state = .vacant then .vacant
  else if countOf s b < limitOf s b ∧ boreWaits s b = false then .issue
  else .append

/-- The source an entry is made with. -/
def requestSource : Requester → RestartSource
  | .supervisor => .supervisor
  | .plan _ => .plan
  | .recovery => .recovery

/-- The plan an entry is made with. -/
def requestPlan : Requester → Option PlanNo
  | .plan p => some p
  | _ => none

/-- A request joins a waiting entry (R112): the source is raised by rank and the entry keeps its place. -/
def joinEntry (r : Requester) (e : WaitEntry) : WaitEntry :=
  match e.source, r with
  | .recovery, .supervisor => { e with source := .supervisor, plan := none, mark := true }
  | .recovery, .plan p => { e with source := .plan, plan := some p, mark := true }
  | .recovery, .recovery => e
  | .plan, .supervisor => { e with source := .supervisor, plan := none }
  | .plan, .plan p => { e with plan := some p }
  | .plan, .recovery => { e with mark := true }
  | .supervisor, .supervisor => e
  | .supervisor, .plan _ => e
  | .supervisor, .recovery => { e with mark := true }

/-- The executor is told that an order has been issued for a slot: a RESTART step naming it that waits for
an order becomes ordered (R111 step 4, R128, R142). -/
def noteIssued (k : Slot) (s : State) : State :=
  match runningStep s with
  | some (_, _, _, st) =>
    if st.kind = .restart ∧ slotOf st.operand = some k ∧ s.executor.watch.outcome = some .queued then
      { s with executor := { s.executor with watch := { s.executor.watch with ordered := true } } }
    else s
  | none => s

/-- An order is issued for a slot in any state other than VACANT and SETTLE whose flag is clear (R111). -/
def canIssue (x : Context) : Bool := !x.inProgress && x.state != .vacant && x.state != .settle

/-- The window unit issues a restart order (R111). -/
def issueOrder (k : Slot) (s : State) : State :=
  if canIssue s.contexts[k] then
    let s := setWaitList (s.window.waitList.filter (·.slot != k)) s
    let s := updCount (boreOf s k) (· + 1) (updContext k (fun x => { x with inProgress := true }) s)
    noteIssued k (orderTaken k s)
  else s

/-- Serve some entries of a bore, oldest first, while its in-progress count is below its limit (R116). -/
def serveEntries (b : Bore) (entries : List WaitEntry) (s : State) : State :=
  entries.foldl (fun s e =>
    if boreOf s e.slot = b ∧ countOf s b < limitOf s b then issueOrder e.slot s else s) s

/-- Serve a bore's queue; entries of the other bore are passed over and keep their places (R116). -/
def serveBore (b : Bore) (s : State) : State := serveEntries b s.window.waitList s

/-- A new entry at the back of the list (R110). -/
def newEntry (r : Requester) (k : Slot) (s : State) : WaitEntry :=
  { slot := k, source := requestSource r, plan := requestPlan r, mark := false, since := s.now }

/-- What a restart request does in the window unit (R110). -/
def takeRequest (r : Requester) (k : Slot) (s : State) : State :=
  match requestRow s k with
  | .inProgress => s
  | .waiting =>
    setWaitList (s.window.waitList.map fun e => if e.slot == k then joinEntry r e else e) s
  | .vacant => s
  | .issue => issueOrder k s
  | .append =>
    latch .windowWait (some (.slot k)) (setWaitList (s.window.waitList ++ [newEntry r k s]) s)

/-- The outcome of a PLAN request (R110, R114). -/
def planOutcome : RequestRow → RestartOutcome
  | .inProgress => .attached
  | .waiting => .queued
  | .vacant => .refused
  | .issue => .issued
  | .append => .queued

/-- The slot enters CONTROL or FAULT: a RECOVERY entry is removed, another stays with its mark cleared
(R118). -/
def dropRecovery (k : Slot) (s : State) : State :=
  setWaitList ((s.window.waitList.filter fun e => !(e.slot == k && e.source == .recovery)).map
    fun e => if e.slot == k then { e with mark := false } else e) s

/-- The slot becomes VACANT: its entry is removed, whatever its source (R118). A cancelled entry too
(R117). -/
def dropEntry (k : Slot) (s : State) : State :=
  setWaitList (s.window.waitList.filter (·.slot != k)) s

/-- A plan has ended: each PLAN entry naming it goes back to RECOVERY if marked and is removed if not
(R118). -/
def dropPlan (p : PlanNo) (s : State) : State :=
  let named := fun (e : WaitEntry) => e.source == .plan && e.plan == some p
  setWaitList ((s.window.waitList.filter fun e => !(named e && !e.mark)).map fun e =>
    if named e then { e with source := .recovery, plan := none, mark := false } else e) s

/-- The slot has entered CONTROL or FAULT (R116): entries first, then, if the flag is set, it is cleared,
the bore's count falls and its queue is served. -/
def releaseWindow (k : Slot) (s : State) : State :=
  let s := dropRecovery k s
  if s.contexts[k].inProgress then
    let b := boreOf s k
    serveBore b (updCount b (· - 1) (updContext k (fun x => { x with inProgress := false }) s))
  else s

end Sys2Proof.Machine
end

