-- ==== Sys2Proof/Machine/Executor.lean ====
section
/-! DEFINITION. The plan executor: steps, passes, ends of plans and the reports it takes (spec/07,
spec/08).

A chain of steps whose outcomes are decided at their start is taken whole within one event (R139). Row 5
of R143 lets at most one more pass start within the event, so the chain is written as two passes over the
step list: `passEnd` for a pass that began in an earlier event, `freshPassEnd` for one that began in
this event. -/

namespace Sys2Proof.Machine

/-- Change the executor's state. -/
def updExecutor (f : Executor → Executor) (s : State) : State := { s with executor := f s.executor }

/-- A timeout's deadline; 0 starts no timer (R127). -/
def timeoutDeadline (s : State) (seconds : Nat) : Option Nat :=
  if seconds = 0 then none else some (s.now + seconds * Config.second)

/-- The outcome of a step, if it is decided at its start (R139). -/
inductive StepStart
  | waits
  | completed
  | failed
  deriving DecidableEq, Repr

/-- The step waits, its timeout running if it has one (R127). -/
def awaitStep (st : PlanStep) (s : State) : State × StepStart :=
  (updExecutor (fun x => { x with stepTimer := timeoutDeadline s st.timeout }) s, .waits)

/-- The pass number of the pass under way (R135). -/
def passNumber (x : Executor) : Nat := bump16 x.passes

/-- Start a RESTART step (R128). -/
def startRestart (p : PlanNo) (k : Slot) (st : PlanStep) (s : State) : State × StepStart :=
  let outcome := planOutcome (requestRow s k)
  let ordered := outcome == .issued || outcome == .attached
  let s := takeRequest (.plan p) k s
  let s := updExecutor (fun x => { x with watch := { outcome := some outcome, ordered, resumed := false } }) s
  if outcome = .refused then (s, .failed) else awaitStep st s

/-- Start a PAUSE step (R129). -/
def startPause (k : Slot) (s : State) : State × StepStart :=
  if pausable s.contexts[k] then (pauseSlot k s, .completed) else (s, .failed)

/-- Start a RESUME step (R130). -/
def startResume (k : Slot) (st : PlanStep) (s : State) : State × StepStart :=
  if s.contexts[k].state = .paused then
    awaitStep st (updExecutor (fun x => { x with watch := { x.watch with resumed := true } })
      (resumeSlot k s))
  else (s, .failed)

/-- Start a MARK step (R133). -/
def startMark (p : PlanNo) (i code : Nat) (s : State) : State × StepStart :=
  (placeMark p (passNumber s.executor) i code
    (updExecutor (fun x => { x with lastMark := some code }) s), .completed)

/-- The start action of a step's kind (R128 to R133). A stored slot operand is 0 to 7 (R124). -/
def startAction (p : PlanNo) (i : Nat) (st : PlanStep) (s : State) : State × StepStart :=
  match st.kind with
  | .restart =>
    match slotOf st.operand with
    | some k => startRestart p k st s
    | none => (s, .failed)
  | .pause =>
    match slotOf st.operand with
    | some k => startPause k s
    | none => (s, .failed)
  | .resume =>
    match slotOf st.operand with
    | some k => startResume k st s
    | none => (s, .failed)
  | .wait =>
    (updExecutor (fun x => { x with stepTimer := some (s.now + st.operand * Config.second) }) s, .waits)
  | .waitTrigger => awaitStep st s
  | .awaitCredit => if st.operand ≤ s.admission.credit then (s, .completed) else awaitStep st s
  | .mark => startMark p i st.operand s

/-- Start a step (R139): the step index becomes its number and the watch record is cleared. -/
def startStep (p : PlanNo) (i : Nat) (st : PlanStep) (s : State) : State × StepStart :=
  startAction p i st (updExecutor (fun x =>
    { x with state := .running, step := some i, watch := clearWatch, stepTimer := none }) s)

/-- What STEP_FAILED names: the step's slot for a RESTART, PAUSE or RESUME step (R141). -/
def stepItem (st : PlanStep) : Option Item :=
  match st.kind with
  | .restart | .pause | .resume => (slotOf st.operand).map .slot
  | _ => none

/-- A step's failure: the timer stops, the skipped-step count rises, STEP_FAILED is latched (R141). -/
def noteFailure (st : PlanStep) (s : State) : State :=
  latch .stepFailed (stepItem st) (updExecutor (fun x =>
    { x with stepTimer := none, skipped := min Config.hold8 (x.skipped + 1) }) s)

/-- The event that a plan's result latches (R148 step 5). -/
def resultEvent : PlanResult → EventKind
  | .done => .planDone
  | _ => .planAborted

/-- A plan ends (R148). -/
def endPlan (p : PlanNo) (result : PlanResult) (s : State) : State :=
  let s := updExecutor (fun x =>
    { x with
      stepTimer := none
      watch := clearWatch
      step := none
      passTimer := none
      pendingStop := .none
      stretched := false }) s
  let s := dropPlan p s
  latch (resultEvent result) none
    (updExecutor (fun x => { x with lastResult := result, state := .idle }) s)

/-- Run steps in sequence (R139 to R141) until one waits or the plan ends; `onEnd` is what the end of the
pass brings. -/
def runSteps (p : PlanNo) (onFail : OnFail) (onEnd : State → State) :
    List (PlanStep × Nat) → State → State
  | [], s => onEnd s
  | (st, i) :: rest, s =>
    match startStep p i st s with
    | (s', .waits) => s'
    | (s', .completed) => runSteps p onFail onEnd rest s'
    | (s', .failed) =>
      match onFail with
      | .skip => runSteps p onFail onEnd rest (noteFailure st s')
      | .abort => endPlan p .abortedFail (noteFailure st s')

/-- The pass is counted and the step index becomes absent (R143). -/
def countPass (s : State) : State :=
  updExecutor (fun x => { x with passes := bump16 x.passes, step := none }) s

/-- Rows 1 and 2 of R143, after the pass is counted: the plan ends DONE. -/
def planFinished (r : PlanRecord) (s : State) : Bool :=
  s.executor.pendingStop == .atPassEnd ||
  (decide (0 < r.passCount) && decide (s.executor.passes = r.passCount))

/-- The executor waits between passes. -/
def enterPassWait (s : State) : State := updExecutor (fun x => { x with state := .passWait }) s

/-- The end of a pass that began within this event (R143, rows 1, 2, 3, 5 and 7). Every start of a pass
clears the stretched flag, so row 4 cannot hold, and row 5 comes before row 6. -/
def freshPassEnd (p : PlanNo) (r : PlanRecord) (s : State) : State :=
  let s := countPass s
  if planFinished r s then endPlan p .done s
  else
    match r.startMode with
    | .onTrigger => enterPassWait s
    | .immediate =>
      if r.passPeriod = 0 then
        updExecutor (fun x => { x with passTimer := some (s.now + Config.shortPass) }) (enterPassWait s)
      else enterPassWait s

/-- A pass starts within this event, at step 0 (R143). -/
def startPass (p : PlanNo) (r : PlanRecord) (s : State) : State :=
  runSteps p r.onFail (freshPassEnd p r) r.steps.zipIdx
    (updExecutor (fun x => { x with state := .running, stretched := false }) s)

/-- The end of a pass that began in an earlier event (R143, rows 1, 2, 3, 4, 6 and 7). -/
def passEnd (p : PlanNo) (r : PlanRecord) (s : State) : State :=
  let s := countPass s
  if planFinished r s then endPlan p .done s
  else
    match r.startMode with
    | .onTrigger => enterPassWait s
    | .immediate =>
      if s.executor.stretched then
        startPass p r (updExecutor (fun x => { x with passTimer := timeoutDeadline s r.passPeriod }) s)
      else if r.passPeriod = 0 then startPass p r s
      else enterPassWait s

/-- The steps after step `i`. -/
def stepsAfter (r : PlanRecord) (i : Nat) : List (PlanStep × Nat) := r.steps.zipIdx.drop (i + 1)

/-- The current step, started in an earlier event, completes (R140). -/
def completeStep (p : PlanNo) (r : PlanRecord) (i : Nat) (s : State) : State :=
  runSteps p r.onFail (passEnd p r) (stepsAfter r i) (updExecutor (fun x => { x with stepTimer := none }) s)

/-- The current step, started in an earlier event, fails (R141). -/
def failStep (p : PlanNo) (r : PlanRecord) (i : Nat) (st : PlanStep) (s : State) : State :=
  match r.onFail with
  | .skip => runSteps p r.onFail (passEnd p r) (stepsAfter r i) (noteFailure st s)
  | .abort => endPlan p .abortedFail (noteFailure st s)

/-! ### Reports to the executor (R142) -/

/-- A slot has entered CONTROL, with its track cause. -/
def noteControl (k : Slot) (cause : Option TrackCause) (s : State) : State :=
  match runningStep s with
  | some (p, r, i, st) =>
    if slotOf st.operand = some k ∧
        ((st.kind = .restart ∧ s.executor.watch.ordered = true ∧ cause = some .ordered) ∨
         (st.kind = .resume ∧ s.executor.watch.resumed = true)) then
      completeStep p r i s
    else s
  | none => s

/-- A slot has entered FAULT. -/
def noteFault (k : Slot) (s : State) : State :=
  match runningStep s with
  | some (p, r, i, st) =>
    if st.kind = .restart ∧ slotOf st.operand = some k then failStep p r i st s else s
  | none => s

/-- Credit after a refill expiry and its serving (R29 step 3, R132). -/
def noteCredit (s : State) : State :=
  match runningStep s with
  | some (p, r, i, st) =>
    if st.kind = .awaitCredit ∧ st.operand ≤ s.admission.credit then completeStep p r i s else s
  | none => s

/-- The executor's step timer has expired (R127, R131). -/
def stepExpired (s : State) : State :=
  let s := updExecutor (fun x => { x with stepTimer := none }) s
  match runningStep s with
  | some (p, r, i, st) => if st.kind = .wait then completeStep p r i s else failStep p r i st s
  | none => s

/-- The pass timer has expired (R144, R145). -/
def passExpired (s : State) : State :=
  let s := updExecutor (fun x => { x with passTimer := none }) s
  match s.executor.plan with
  | none => s
  | some p =>
    let r := s.cfg.plans[p]
    match s.executor.state with
    | .passWait =>
      startPass p r (updExecutor (fun x => { x with passTimer := timeoutDeadline s r.passPeriod }) s)
    | .running =>
      let s := latch .planOverrun none s
      match r.overrun with
      | .abort => endPlan p .abortedOverrun s
      | .stretch => updExecutor (fun x => { x with stretched := true }) s
    | .idle => s
    | .armed => s

/-- A rising edge on the plan trigger line (R146, R147). -/
def takeEdge (s : State) : State :=
  match s.executor.state, s.executor.plan with
  | .armed, some p => startPass p s.cfg.plans[p] s
  | .running, some p =>
    let r := s.cfg.plans[p]
    match runningStep s with
    | some (_, _, i, st) =>
      if st.kind = .waitTrigger then completeStep p r i s
      else
        match r.startMode, r.overrun with
        | .onTrigger, .abort => endPlan p .abortedOverrun (latch .planOverrun none s)
        | .onTrigger, .stretch => count .triggerIgnored (latch .planOverrun none s)
        | .immediate, _ => count .triggerIgnored s
    | none => count .triggerIgnored s
  | .passWait, some p =>
    match s.cfg.plans[p].startMode with
    | .onTrigger => startPass p s.cfg.plans[p] s
    | .immediate => count .triggerIgnored s
  | _, _ => count .triggerIgnored s

/-- An accepted PLAN-START (R138): armed, or step 0 of pass 1 within the command. -/
def startPlan (p : PlanNo) (s : State) : State :=
  let r := s.cfg.plans[p]
  let s := updExecutor (fun x =>
    { x with
      plan := some p
      passes := 0
      skipped := 0
      step := none
      lastMark := none
      lastResult := .none
      pendingStop := .none
      stretched := false }) s
  match r.startMode with
  | .onTrigger => updExecutor (fun x => { x with state := .armed }) s
  | .immediate =>
    startPass p r (updExecutor (fun x => { x with passTimer := timeoutDeadline s r.passPeriod }) s)

end Sys2Proof.Machine
end

