-- ==== Sys2Proof/Machine/Outcomes.lean ====
section
/-! DEFINITION. Where a computer's state change reaches the window unit, the event unit and the executor:
entry to CONTROL, failed attempts, FAULT, recovery requests, and the taking of a DEMAND report (R65, R86
to R98, R115). -/

namespace Sys2Proof.Machine

/-- A slot enters CONTROL, in the order of R88 (assumption log 8). -/
def enterControl (k : Slot) (s : State) : State :=
  let s := changeState k .control none id s
  let s := sendOrder k (.grant s.contexts[k].generation (ownedBy s k).length) s
  let s := updContext k (fun x => { x with failures := 0 }) s
  let s := releaseWindow k s
  let s := latch .computerControl (some (.slot k)) s
  let s := deriveOwned k s
  noteControl k s.contexts[k].trackCause s

/-- The handover controller makes a RECOVERY request (R115). -/
def requestRecovery (k : Slot) (s : State) : State := takeRequest .recovery k s

/-- The seventh failure takes the slot to FAULT (R98); the owned channels are derived at the change of
state, ahead of the window unit (R78; DEDUCED, assumption log 8). -/
def enterFault (k : Slot) (s : State) : State :=
  let s := deriveOwned k (changeState k .fault none id s)
  let s := releaseWindow k s
  noteFault k (latch .computerFault (some (.slot k)) s)

/-- An attempt fails (R97). -/
def failAttempt (k : Slot) (s : State) : State :=
  let n := s.contexts[k].failures + 1
  let s := updContext k (fun x => { x with failures := min Config.faultFailures n }) s
  let s := latch .attemptFailed (some (.slot k)) s
  if Config.faultFailures ≤ n then enterFault k s
  else if s.contexts[k].inProgress then enterSettle k (sendRestart k s)
  else requestRecovery k (enterLost k s)

/-! ### The match judgement -/

/-- A channel matches when its demand is present and within its tolerance of D (R86). -/
def matching (cfg : ChannelConfig) (ch : ChannelRun) : Bool :=
  match ch.demand with
  | none => false
  | some m =>
    let d := ch.driven.getD 0
    decide (m - d ≤ cfg.tolerance) && decide (d - m ≤ cfg.tolerance)

/-- The judgement of one counted channel (R86). -/
def judgeChannel (c : Chan) (s : State) : State :=
  if matching s.cfg.channels[c] s.channels[c] then
    updChannel c (fun ch => { ch with matchCount := min Config.maxMatches (ch.matchCount + 1) }) s
  else count .mismatches (updChannel c (fun ch => { ch with matchCount := 0 }) s)

/-- The match judgement takes each counted channel, ascending (R86). -/
def judge (k : Slot) (s : State) : State := (countedOf s k).foldl (fun s c => judgeChannel c s) s

/-- The handover test (R87). -/
def handoverTest (s : State) (k : Slot) : Bool :=
  (countedOf s k).all fun c => decide (s.cfg.computers[k].requiredMatches ≤ s.channels[c].matchCount)

/-! ### A DEMAND report -/

/-- The sequence expectation after a DEMAND (R66). -/
def expectAfter (k : Slot) (seq : Nat) (s : State) : State :=
  updPort k (fun p => { p with expectation := some ((seq + 1) % 256) }) s

/-- An accepted report is a gap when the expectation is present and is not its number (R66). -/
def isGap (s : State) (k : Slot) (seq : Nat) : Bool :=
  match s.ports[k].expectation with
  | none => false
  | some e => e != seq

/-- The owned channel that a pair names, if it names one (R67). -/
def pairChannel (s : State) (k : Slot) (p : Nat × Nat) : Option Chan :=
  match chanOf p.1 with
  | some c => if owns s k c then some c else none
  | none => none

/-- One pair of an accepted report (R67). -/
def takePair (k : Slot) (p : Nat × Nat) (s : State) : State :=
  match pairChannel s k p with
  | some c => updChannel c (fun ch => { ch with demand := some (min p.2 Config.fullOutput) }) s
  | none => count .unknownEntries s

/-- The pairs of an accepted report, in their order (R67). -/
def takePairs (k : Slot) (pairs : List (Nat × Nat)) (s : State) : State :=
  pairs.foldl (fun s p => takePair k p s) s

/-- The channels that a report's pairs name, ascending (R65 step 5). -/
def namedChannels (s : State) (k : Slot) (pairs : List (Nat × Nat)) : List Chan :=
  allChannels.filter fun c => (pairs.map (pairChannel s k)).contains (some c)

/-- A break in CONTROL (R90 to R92); the request lies within step 4 of R65 (DEDUCED, assumption log 12). -/
def takeBreak (k : Slot) (s : State) : State :=
  let s := latch .broke (some (.slot k)) s
  match s.cfg.computers[k].breakPolicy with
  | .ignore => s
  | .retrack => enterTrack k .broke true (sendOrder k (.revoke .broke) s)
  | .restart => requestRecovery k (enterTrack k .broke true (sendOrder k (.revoke .broke) s))

/-- What the handover controller does with an accepted report (R65 step 4): in TRACK the judgement and
the test, in CONTROL the health. -/
def controllerTakes (k : Slot) (health : Health) (s : State) : State :=
  let state := s.contexts[k].state
  let s := updContext k (fun x => { x with lastHealth := some health }) s
  if state = .track then
    let s := judge k s
    if handoverTest s k then enterControl k s else s
  else if state = .control then
    match health with
    | .good => s
    | .degraded => takeBreak k s
  else s

/-- An accepted report, in the order of R65. -/
def acceptReport (k : Slot) (seq : Nat) (health : Health) (pairs : List (Nat × Nat)) (s : State) : State :=
  let s := expectAfter k seq (if isGap s k seq then count .reportGaps s else s)
  let named := namedChannels s k pairs
  let s := startReport k (takePairs k pairs s)
  deriveEach named (controllerTakes k health s)

/-- A DEMAND in LOST (R94): TRACK with cause RETURN, then the report as in TRACK. Under break policy
RESTART a RECOVERY request follows where the slot is still in that TRACK: a report that brought CONTROL
has left it, even where a plan has meanwhile paused and resumed the slot (DEDUCED, assumption log 12). -/
def reportInLost (k : Slot) (seq : Nat) (health : Health) (pairs : List (Nat × Nat)) (s : State) : State :=
  let s := acceptReport k seq health pairs (enterTrack k .returned true s)
  if s.cfg.computers[k].breakPolicy = .restart ∧ s.contexts[k].state = .track ∧
      s.contexts[k].trackCause = some .returned then requestRecovery k s
  else s

end Sys2Proof.Machine
end

