-- ==== Sys2Proof/Machine/Startup.lean ====
section
/-! DEFINITION. Resets, the load of the configuration, entry to ADOPT and entry to RUN (spec/10). -/

namespace Sys2Proof.Machine

/-- A used channel is still unadopted. -/
def unadoptedLeft (s : State) : Bool := allChannels.any fun c => isUsed s c && !s.channels[c].adopted

/-- A channel is used. -/
def anyUsed (s : State) : Bool := allChannels.any (isUsed s)

/-- A port's expectation is absent on entry to RUN (R66), and an enabled slot enters TRACK from LOST with
cause START (R182 step 3). -/
def startSlot (k : Slot) (s : State) : State :=
  let s := clearExpectation k s
  if s.cfg.computers[k].enabled ∧ s.contexts[k].state = .lost then enterTrack k .start true s else s

/-- Entry to RUN (R182): the timers, the ports, the enabled slots ascending, the poll rotation. The ports stand
in the skipping state (R63). -/
def enterRun (s : State) : State :=
  let s := { s with
    partState := .run
    adoptionTimer := none
    stepTimer := some (s.now + Config.stepPeriod)
    inputs := { s.inputs with computers := Vector.replicate 8 skipping }
    admission := { s.admission with refillTimer := some (s.now + Config.refillPeriod) } }
  let s := allSlots.foldl (fun s k => startSlot k s) s
  { s with field := { s.field with next := 0 } }

/-- Entry to ADOPT (R180): with a used channel, the adoption timer, the POLL-ALL and the answer period;
with none, adoption ends at once. -/
def enterAdopt (s : State) : State :=
  let s := { s with partState := .adopt }
  if anyUsed s then
    { s with
      adoptionTimer := some (s.now + Config.adoptionTime)
      field := { s.field with period := some (s.now + Config.answerPeriod), line := pollAllBytes } }
  else enterRun s

/-- Every block takes the values after every reset that its chapter gives, with a working configuration and a
commissioned flag (R25, R45, R58, R74, R107, R122, R155, R172, R175), and a frame in progress is dropped
uncounted (R63, R172). A write in flight is abandoned (R178), its image staying the earlier one under an
invalid marker (DESIGN CHOICE, assumption log 5). -/
def blocksReset (cfg : WorkingConfig) (commissioned : Bool) (s : State) : State :=
  { s with
    partState := .unconfigured
    commissioned
    cfg
    store := { s.store with writing := none }
    channels := Vector.replicate 48 resetChannel
    stepTimer := none
    adoptionTimer := none
    field := resetField
    admission := resetAdmission cfg.budget
    daylight := resetDaylight
    ports := Vector.replicate 8 resetPort
    contexts := Vector.ofFn fun k => resetContext cfg.computers[k]
    window := resetWindow
    executor := resetExecutor
    events := clearEvents
    counter := 0
    supervisory := resetSupervisory
    inputs := resetInputs }

/-- The configuration and the commissioned flag that a reset of a kind takes (R176). -/
def resetImage (kind : ResetKind) (s : State) : StoredImage :=
  match kind with
  | .command => { config := s.cfg, commissioned := s.commissioned }
  | _ => if s.store.valid then s.store.image else { config := factoryConfig, commissioned := false }

/-- The part starts after a reset of a kind (R176). -/
def startUp (kind : ResetKind) (s : State) : State :=
  let image := resetImage kind s
  let s := { blocksReset image.config image.commissioned s with lastReset := kind, held := false }
  if image.commissioned then enterAdopt s else s

/-- A reset takes effect and the part is held: every block takes its values after reset, and the part
starts at the release of the reset line (R175; assumption log 4). -/
def holdInReset (kind : ResetKind) (s : State) : State :=
  { blocksReset s.cfg s.commissioned s with lastReset := kind, held := true }

end Sys2Proof.Machine
end

