-- ==== Sys2Proof/Machine/Port.lean ====
section
/-! DEFINITION. The supervisory port: receiving a command frame, taking a command, its answer and the
refusals by part state (R157 to R162). -/

namespace Sys2Proof.Machine

/-! ### Receiving -/

/-- A complete frame joins the command queue, or is discarded and counted where 4 frames wait (R157). -/
def receiveFrame (f : CommandFrame) (s : State) : State :=
  if s.supervisory.queue.length < Config.commandQueueSize then
    { s with supervisory := { s.supervisory with queue := s.supervisory.queue ++ [f] } }
  else
    count .framesDiscarded
      { s with supervisory := { s.supervisory with overflows := bump16 s.supervisory.overflows } }

/-- A frame is discarded for its CRC or its length (R157). -/
def discardFrame (cause : DiscardCause) (s : State) : State :=
  count .framesDiscarded
    (match cause with
    | .check =>
      { s with supervisory := { s.supervisory with checkErrors := bump16 s.supervisory.checkErrors } }
    | .format =>
      { s with supervisory := { s.supervisory with formatErrors := bump16 s.supervisory.formatErrors } })

/-! ### Answers -/

/-- A command's reply and its effect on the part (R159). The reply is placed before the effect. -/
structure Answer where
  code : ResultCode
  detail : Detail
  data : List Byte
  effect : State → State

/-- A refusal changes nothing beyond the port's own reply (R158). -/
def refuse (code : ResultCode) : Answer := { code, detail := .absent, data := [], effect := id }

/-- A refusal that names a step or an item (R159). -/
def refuseAt (code : ResultCode) (detail : Detail) : Answer := { code, detail, data := [], effect := id }

/-- A reply OK with an effect. -/
def accept (effect : State → State) : Answer := { code := .ok, detail := .absent, data := [], effect }

/-- A reply QUEUED with an effect (R113). -/
def acceptQueued (effect : State → State) : Answer :=
  { code := .queued, detail := .absent, data := [], effect }

/-- A query's reply with its data; the effect is what a query clears, if anything. -/
def answerData (data : List Byte) (effect : State → State) : Answer :=
  { code := .ok, detail := .absent, data, effect }

/-- An order is taken in RUN (R161). -/
def asOrder (s : State) (a : Answer) : Answer :=
  match s.partState with
  | .unconfigured => refuse .unconfigured
  | .adopt => refuse .adopting
  | .run => a

/-- A configuration command is taken in UNCONFIGURED and RUN (R161). -/
def asConfiguration (s : State) (a : Answer) : Answer :=
  match s.partState with
  | .adopt => refuse .adopting
  | .unconfigured => a
  | .run => a

/-- A command whose one payload byte is a slot (R162). -/
def withSlot (payload : List Byte) (a : Slot → Answer) : Answer :=
  match payload with
  | [b] =>
    match readSlot b with
    | some k => a k
    | none => refuse .outOfRange
  | _ => refuse .badLength

/-- A command whose one payload byte is a channel (R162). -/
def withChannel (payload : List Byte) (a : Chan → Answer) : Answer :=
  match payload with
  | [b] =>
    match readChan b with
    | some c => a c
    | none => refuse .outOfRange
  | _ => refuse .badLength

/-- A command without a payload. -/
def withoutPayload (payload : List Byte) (a : Answer) : Answer :=
  match payload with
  | [] => a
  | _ => refuse .badLength

/-! ### Taking -/

/-- The port can take a command: no reset is awaited and the outgoing list holds fewer than 16 frames
(R158, R163). -/
def portFree (s : State) : Bool :=
  s.supervisory.resetWait == .none && decide (s.supervisory.outgoing.length < Config.takeLimit)

/-- The command queue as the taking of a frame leaves it: the waiting head leaves; a command that arrives
at an empty queue never stood in it (R158). -/
def leaveQueue (s : State) : State :=
  { s with supervisory := { s.supervisory with queue := s.supervisory.queue.tail } }

/-- The command is taken: its reply is placed at the back of the outgoing list, then its effect comes
about (R158, R159). -/
def answerCommand (f : CommandFrame) (answer : State → Answer) (s : State) : State :=
  let s := leaveQueue s
  let a := answer s
  a.effect (placeOut (.reply f.kind f.tag a.code a.detail a.data) s)

/-- The row of a command (assumption log 1): the command comes to the port. It is taken at once where the
port can take it and no other command stands before it (R158); else its frame joins the queue or is
discarded there (R157). A command that waits at the head is the one that is taken. -/
def takeCommand (f : CommandFrame) (answer : State → Answer) (s : State) :
    Host.Outcome State Fault Refusal :=
  whenLive (fun s =>
    if portFree s ∧ (s.supervisory.queue = [] ∨ s.supervisory.queue.head? = some f) then
      answerCommand f answer s
    else receiveFrame f s) s

end Sys2Proof.Machine
end

