-- ==== Sys2Proof/Machine/ConfigCommands.lean ====
section
/-! DEFINITION. The configuration commands (R161): one meaning each. -/

namespace Sys2Proof.Machine

/-! ### SET-COMPUTER -/

/-- The states in which role, bore and enabled may not change (R103). -/
def engaged : ComputerState → Bool
  | .settle => true
  | .join => true
  | .track => true
  | .control => true
  | _ => false

/-- A channel of this kind belongs to a computer of this role (R22, R179). -/
def roleMatches : Role → ChannelKind → Bool
  | .vent, .fan => true
  | .light, .light => true
  | _, _ => false

/-- The RUN checks of R103, after the ranges. -/
def computerAllowed (k : Slot) (new : ComputerConfig) (s : State) : Bool :=
  let old := s.cfg.computers[k]
  let placed := new.role != old.role || new.bore != old.bore
  !((placed || new.enabled != old.enabled) && engaged s.contexts[k].state) &&
  (!placed || (ownedBy s k).all fun c =>
    roleMatches new.role s.cfg.channels[c].kind && s.cfg.channels[c].bore == new.bore)

/-- Replace a slot's configuration. -/
def setComputerConfig (k : Slot) (c : ComputerConfig) (s : State) : State :=
  { s with cfg := { s.cfg with computers := s.cfg.computers.set k c } }

/-- A slot becomes VACANT (R102). -/
def vacate (k : Slot) (s : State) : State :=
  deriveOwned k (dropEntry k (changeState k .vacant none (fun x => { x with failures := 0 }) s))

/-- What a changed enabled field does at once (R102). -/
def enabledChanges (k : Slot) (new : Bool) (s : State) : State :=
  match s.partState with
  | .run => if new then enterTrack k .enabled true s else vacate k s
  | _ => if new then changeState k .lost none id s else vacate k s

/-- The effect of an accepted SET-COMPUTER (R102, R104, R120). -/
def applyComputer (k : Slot) (new : ComputerConfig) (s : State) : State :=
  let old := s.cfg.computers[k]
  let s := setComputerConfig k new s
  let s := if new.enabled = old.enabled then s else enabledChanges k new.enabled s
  if new.bore ≠ old.bore ∧ isWaiting s k then serveBore new.bore s else s

/-- SET-COMPUTER after its length check (R103). -/
def answerSetComputer (slot : Byte) (fields : List Byte) (s : State) : Answer :=
  match readSlot slot with
  | none => refuse .outOfRange
  | some k =>
    asConfiguration s
      (match readComputer fields with
      | none => refuse .outOfRange
      | some new =>
        if s.partState = .run ∧ computerAllowed k new s = false then refuse .refusedState
        else accept (applyComputer k new))

/-- The answer to SET-COMPUTER (R103). -/
def setComputerAnswer (payload : List Byte) (s : State) : Answer :=
  if payload.length = 13 then answerSetComputer (payload.headD 0) payload.tail s
  else refuse .badLength

/-- SET-COMPUTER comes to the port (R103). -/
def execSetComputer (tag : Byte) (payload : List Byte) (s : State) : Host.Outcome State Fault Refusal :=
  takeCommand { kind := 0x10, tag, payload } (setComputerAnswer payload) s

/-! ### SET-CHANNEL -/

/-- A slot's state lets a channel leave or join it (R22). -/
def ownerMayChange (s : State) : Option Slot → Bool
  | none => true
  | some k => !engaged s.contexts[k].state

/-- The RUN checks of R22, after the ranges. -/
def channelAllowed (c : Chan) (new : ChannelConfig) (s : State) : Bool :=
  let old := s.cfg.channels[c]
  (new.owner == old.owner || (ownerMayChange s old.owner && ownerMayChange s new.owner)) &&
  (match new.owner with
  | none => true
  | some k => roleMatches s.cfg.computers[k].role new.kind && s.cfg.computers[k].bore == new.bore)

/-- Replace a channel's configured record. -/
def setChannelConfig (c : Chan) (new : ChannelConfig) (s : State) : State :=
  { s with cfg := { s.cfg with channels := s.cfg.channels.set c new } }

/-- Case 2 of R23: a change of owner makes the demand absent and the match count 0, and the channel is
derived; `was` is the frozen mode-and-kind it stood in before the command. -/
def ownerChanged (c : Chan) (was : Option ChannelMode) (s : State) : State :=
  deriveFrom was c (updChannel c (fun ch => { ch with demand := none, matchCount := 0 }) s)

/-- The effect of an accepted SET-CHANNEL in RUN (R23), its cases in their order, the whole new record
standing from the first of them on (DEDUCED, assumption log 10). -/
def applyChannelRun (c : Chan) (new : ChannelConfig) (s : State) : State :=
  let old := s.cfg.channels[c]
  let was := frozenNow s c
  let s := setChannelConfig c new s
  if usedConfig new then
    let ownerNew := new.owner != old.owner
    let s := if ownerNew then ownerChanged c was s else s
    let s := if new.slewRate != old.slewRate then withdraw c s else s
    if new.fallbackKind != old.fallbackKind || new.fallbackValue != old.fallbackValue ||
        new.zoneFactor != old.zoneFactor then
      deriveFrom (if ownerNew then frozenNow s c else was) c s
    else s
  else if usedConfig old then makeUnused c s
  else s

/-- The effect of an accepted SET-CHANNEL (R23): in UNCONFIGURED only the configured record changes. -/
def applyChannel (c : Chan) (new : ChannelConfig) (s : State) : State :=
  if s.partState = .run then applyChannelRun c new s else setChannelConfig c new s

/-- SET-CHANNEL after its length check (R22). -/
def answerSetChannel (chan : Byte) (fields : List Byte) (s : State) : Answer :=
  match readChan chan with
  | none => refuse .outOfRange
  | some c =>
    asConfiguration s
      (match readChannel fields with
      | none => refuse .outOfRange
      | some new =>
        if s.partState = .run ∧ channelAllowed c new s = false then refuse .refusedState
        else accept (applyChannel c new))

/-- The answer to SET-CHANNEL (R22). -/
def setChannelAnswer (payload : List Byte) (s : State) : Answer :=
  if payload.length = 15 then answerSetChannel (payload.headD 0) payload.tail s
  else refuse .badLength

/-- SET-CHANNEL comes to the port (R22). -/
def execSetChannel (tag : Byte) (payload : List Byte) (s : State) : Host.Outcome State Fault Refusal :=
  takeCommand { kind := 0x11, tag, payload } (setChannelAnswer payload) s

/-! ### SET-BUDGET -/

/-- The effect of an accepted SET-BUDGET (R28): in UNCONFIGURED credit becomes the both-feeds cap, in RUN
it is clamped to the new current cap. -/
def applyBudget (b : BudgetConfig) (s : State) : State :=
  let s := { s with cfg := { s.cfg with budget := b } }
  match s.partState with
  | .run => clampCredit s
  | _ => { s with admission := { s.admission with credit := b.bothCap } }

/-- The answer to SET-BUDGET (R26). -/
def setBudgetAnswer (payload : List Byte) (s : State) : Answer :=
  match payload with
  | [bh, bl, sh, sl, rh, rl] =>
    let b : BudgetConfig := { bothCap := word bh bl, singleCap := word sh sl, refill := word rh rl }
    asConfiguration s (if budgetRanges b then accept (applyBudget b) else refuse .outOfRange)
  | _ => refuse .badLength

/-- SET-BUDGET comes to the port (R26). -/
def execSetBudget (tag : Byte) (payload : List Byte) (s : State) : Host.Outcome State Fault Refusal :=
  takeCommand { kind := 0x12, tag, payload } (setBudgetAnswer payload) s

/-! ### SET-WINDOW -/

/-- The effect of an accepted SET-WINDOW (R119): both limits, then bore 1 and bore 2 served where their
limit rose. -/
def applyWindow (l1 l2 : Nat) (s : State) : State :=
  let old1 := s.cfg.limit1
  let old2 := s.cfg.limit2
  let s := { s with cfg := { s.cfg with limit1 := l1, limit2 := l2 } }
  let s := if old1 < l1 then serveBore .one s else s
  if old2 < l2 then serveBore .two s else s

/-- The answer to SET-WINDOW (R119). -/
def setWindowAnswer (payload : List Byte) (s : State) : Answer :=
  match payload with
  | [a, b] =>
    let l1 := a.toNat
    let l2 := b.toNat
    asConfiguration s
      (if 1 ≤ l1 ∧ l1 ≤ 4 ∧ 1 ≤ l2 ∧ l2 ≤ 4 then
        if s.partState = .run ∧ (l1 < s.window.count1 ∨ l2 < s.window.count2) then refuse .windowBusy
        else accept (applyWindow l1 l2)
      else refuse .outOfRange)
  | _ => refuse .badLength

/-- SET-WINDOW comes to the port (R119). -/
def execSetWindow (tag : Byte) (payload : List Byte) (s : State) : Host.Outcome State Fault Refusal :=
  takeCommand { kind := 0x13, tag, payload } (setWindowAnswer payload) s

/-! ### SET-DAYLIGHT -/

/-- The stage set afresh after a replacement in RUN (R56). -/
def stageAfresh (d : DaylightConfig) (x : Daylight) : Nat :=
  match x.luminance with
  | none => 0
  | some l => selectStage d l (min x.stage (d.stages.length - 1))

/-- The effect of an accepted SET-DAYLIGHT (R50, R56). -/
def applyDaylight (d : DaylightConfig) (s : State) : State :=
  let s := { s with cfg := { s.cfg with daylight := d } }
  match s.partState with
  | .run => deriveDaylight { s with daylight := { s.daylight with stage := stageAfresh d s.daylight } }
  | _ => s

/-- The answer to SET-DAYLIGHT (R50): the payload carries N, then 2N + 1 numbers. -/
def setDaylightAnswer (payload : List Byte) (s : State) : Answer :=
  match payload with
  | n :: rest =>
    if payload.length = 3 + 4 * n.toNat then
      asConfiguration s
        (match (readWords rest).bind (readDaylight n.toNat) with
        | some d => accept (applyDaylight d)
        | none => refuse .outOfRange)
    else refuse .badLength
  | [] => refuse .badLength

/-- SET-DAYLIGHT comes to the port (R50). -/
def execSetDaylight (tag : Byte) (payload : List Byte) (s : State) : Host.Outcome State Fault Refusal :=
  takeCommand { kind := 0x14, tag, payload } (setDaylightAnswer payload) s

/-! ### SET-PLAN -/

/-- The named plan is the executing plan (R126). -/
def isExecuting (p : PlanNo) (s : State) : Bool :=
  s.executor.state != .idle && s.executor.plan == some p

/-- The effect of an accepted SET-PLAN (R125). -/
def applyPlan (p : PlanNo) (r : PlanRecord) (s : State) : State :=
  { s with cfg := { s.cfg with plans := s.cfg.plans.set p r } }

/-- SET-PLAN after its length check (R125). -/
def answerSetPlan (plan : Byte) (settings : Option PlanRecord) (steps : List Byte) (s : State) : Answer :=
  match readPlanNo plan with
  | none => refuse .outOfRange
  | some p =>
    asConfiguration s
      (if isExecuting p s then refuse .busy
      else
        match settings with
        | none => refuse .outOfRange
        | some r =>
          match readSteps 0 steps with
          | .error i => refuseAt .outOfRange (.step i)
          | .ok l => accept (applyPlan p { r with steps := l }))

/-- The answer to SET-PLAN (R125): 8 bytes and 5 for each step. -/
def setPlanAnswer (payload : List Byte) (s : State) : Answer :=
  match payload with
  | plan :: count :: ph :: pl :: mode :: onFail :: overrun :: n :: steps =>
    if payload.length = 8 + 5 * n.toNat then
      answerSetPlan plan (readSettings count ph pl mode onFail overrun n) steps s
    else refuse .badLength
  | _ => refuse .badLength

/-- SET-PLAN comes to the port (R125). -/
def execSetPlan (tag : Byte) (payload : List Byte) (s : State) : Host.Outcome State Fault Refusal :=
  takeCommand { kind := 0x15, tag, payload } (setPlanAnswer payload) s

/-! ### SET-EVENT-MASK and SET-COUNTER-SOURCE -/

/-- The answer to SET-EVENT-MASK (R167): the mask is replaced as a whole and nothing is called for. -/
def setEventMaskAnswer (payload : List Byte) (s : State) : Answer :=
  match payload with
  | [hi, lo] =>
    asConfiguration s (accept fun s => { s with cfg := { s.cfg with mask := readMask hi lo } })
  | _ => refuse .badLength

/-- SET-EVENT-MASK comes to the port (R167). -/
def execSetEventMask (tag : Byte) (payload : List Byte) (s : State) : Host.Outcome State Fault Refusal :=
  takeCommand { kind := 0x16, tag, payload } (setEventMaskAnswer payload) s

/-- The answer to SET-COUNTER-SOURCE (R170): the source is set and the counter becomes 0. ADOPTING comes
ahead of OUT_OF_RANGE (DEDUCED, assumption log 7). -/
def setCounterSourceAnswer (payload : List Byte) (s : State) : Answer :=
  match payload with
  | [b] =>
    asConfiguration s
      (match readCounterSource b with
      | some source =>
        accept fun s => { s with cfg := { s.cfg with counterSource := source }, counter := 0 }
      | none => refuse .outOfRange)
  | _ => refuse .badLength

/-- SET-COUNTER-SOURCE comes to the port (R170). -/
def execSetCounterSource (tag : Byte) (payload : List Byte) (s : State) : Host.Outcome State Fault Refusal :=
  takeCommand { kind := 0x17, tag, payload } (setCounterSourceAnswer payload) s

/-! ### STORE-CONFIG and COMMISSION -/

/-- The effect of an accepted STORE-CONFIG (R177). What the store's one image holds while it is written over
is not stated: it keeps the earlier image, which the invalid marker hides (DESIGN CHOICE, assumption log
5). -/
def beginWrite (s : State) : State :=
  { s with store := { s.store with
      valid := false
      writing := some { config := s.cfg, commissioned := s.commissioned } } }

/-- The answer to STORE-CONFIG (R177). -/
def storeConfigAnswer (payload : List Byte) (s : State) : Answer :=
  withoutPayload payload
    (asConfiguration s (if s.store.writing.isSome then refuse .busy else accept beginWrite))

/-- STORE-CONFIG comes to the port (R177). -/
def execStoreConfig (tag : Byte) (payload : List Byte) (s : State) : Host.Outcome State Fault Refusal :=
  takeCommand { kind := 0x18, tag, payload } (storeConfigAnswer payload) s

/-- Checks 1 and 2 of R179 for one channel: an owner slot's role and bore agree with it. -/
def channelConsistent (s : State) (c : Chan) : Bool :=
  match s.cfg.channels[c].owner with
  | none => true
  | some k =>
    roleMatches s.cfg.computers[k].role s.cfg.channels[c].kind &&
    s.cfg.computers[k].bore == s.cfg.channels[c].bore

/-- The first channel that fails check 1 or 2 of R179. -/
def firstInconsistent (s : State) : Option Chan := allChannels.find? fun c => !channelConsistent s c

/-- The effect of an accepted COMMISSION (R179). -/
def applyCommission (s : State) : State := enterAdopt { s with commissioned := true }

/-- The answer to COMMISSION (R179). -/
def commissionAnswer (payload : List Byte) (s : State) : Answer :=
  withoutPayload payload
    (match s.partState with
    | .adopt => refuse .adopting
    | .run => refuse .refusedState
    | .unconfigured =>
      match firstInconsistent s with
      | some c => refuseAt .refusedState (.channel c)
      | none =>
        if s.cfg.budget.bothCap < s.cfg.budget.singleCap then refuseAt .refusedState .budget
        else accept applyCommission)

/-- COMMISSION comes to the port (R179). -/
def execCommission (tag : Byte) (payload : List Byte) (s : State) : Host.Outcome State Fault Refusal :=
  takeCommand { kind := 0x19, tag, payload } (commissionAnswer payload) s

end Sys2Proof.Machine
end

