-- ==== Sys2Proof/Machine/Orders.lean ====
section
/-! DEFINITION. The orders of the host (R161): one meaning each. -/

namespace Sys2Proof.Machine

/-! ### RESTART, CANCEL-RESTART, PAUSE, RESUME -/

/-- The reply and the effect of a SUPERVISOR request by its row of R110 (R113). -/
def answerRestart (k : Slot) (s : State) : Answer :=
  match requestRow s k with
  | .inProgress => refuse .already
  | .waiting => acceptQueued (takeRequest .supervisor k)
  | .vacant => refuse .refusedState
  | .issue => accept (takeRequest .supervisor k)
  | .append => acceptQueued (takeRequest .supervisor k)

/-- The answer to RESTART (R113). -/
def restartAnswer (payload : List Byte) (s : State) : Answer :=
  withSlot payload fun k => asOrder s (answerRestart k s)

/-- RESTART comes to the port (R113). -/
def execRestart (tag : Byte) (payload : List Byte) (s : State) : Host.Outcome State Fault Refusal :=
  takeCommand { kind := 0x30, tag, payload } (restartAnswer payload) s

/-- The answer to CANCEL-RESTART in RUN (R117). -/
def answerCancel (k : Slot) (s : State) : Answer :=
  if isWaiting s k then accept (dropEntry k)
  else if s.contexts[k].inProgress then refuse .refusedState
  else accept id

/-- The answer to CANCEL-RESTART (R117). -/
def cancelRestartAnswer (payload : List Byte) (s : State) : Answer :=
  withSlot payload fun k => asOrder s (answerCancel k s)

/-- CANCEL-RESTART comes to the port (R117). -/
def execCancelRestart (tag : Byte) (payload : List Byte) (s : State) : Host.Outcome State Fault Refusal :=
  takeCommand { kind := 0x31, tag, payload } (cancelRestartAnswer payload) s

/-- The answer to PAUSE (R99). -/
def pauseAnswer (payload : List Byte) (s : State) : Answer :=
  withSlot payload fun k => asOrder s
    (if pausable s.contexts[k] then accept (pauseSlot k) else refuse .refusedState)

/-- PAUSE comes to the port (R99). -/
def execPause (tag : Byte) (payload : List Byte) (s : State) : Host.Outcome State Fault Refusal :=
  takeCommand { kind := 0x32, tag, payload } (pauseAnswer payload) s

/-- The answer to RESUME (R101). -/
def resumeAnswer (payload : List Byte) (s : State) : Answer :=
  withSlot payload fun k => asOrder s
    (if s.contexts[k].state = .paused then accept (resumeSlot k) else refuse .refusedState)

/-- RESUME comes to the port (R101). -/
def execResume (tag : Byte) (payload : List Byte) (s : State) : Host.Outcome State Fault Refusal :=
  takeCommand { kind := 0x33, tag, payload } (resumeAnswer payload) s

/-! ### FORCE, UNFORCE, CLEAR-FAULT -/

/-- The effect of an accepted FORCE (R19). -/
def forceChannel (c : Chan) (value : Nat) (s : State) : State :=
  let s := if s.channels[c].adopted then s else adoptAt c 0 s
  derive c (updChannel c (fun ch => { ch with forced := some (min value Config.fullOutput) }) s)

/-- The answer to FORCE (R19). -/
def forceAnswer (payload : List Byte) (s : State) : Answer :=
  match payload with
  | [b, hi, lo] =>
    match readChan b with
    | none => refuse .outOfRange
    | some c => asOrder s
        (if isUsed s c then accept (forceChannel c (word hi lo)) else refuse .refusedState)
  | _ => refuse .badLength

/-- FORCE comes to the port (R19). -/
def execForce (tag : Byte) (payload : List Byte) (s : State) : Host.Outcome State Fault Refusal :=
  takeCommand { kind := 0x34, tag, payload } (forceAnswer payload) s

/-- The effect of an UNFORCE on a forced channel (R20). -/
def unforceChannel (c : Chan) (s : State) : State :=
  derive c (updRecount c (fun ch => { ch with forced := none }) s)

/-- The answer to UNFORCE (R20). -/
def unforceAnswer (payload : List Byte) (s : State) : Answer :=
  withChannel payload fun c => asOrder s
    (if s.channels[c].forced.isSome then accept (unforceChannel c) else accept id)

/-- UNFORCE comes to the port (R20). -/
def execUnforce (tag : Byte) (payload : List Byte) (s : State) : Host.Outcome State Fault Refusal :=
  takeCommand { kind := 0x35, tag, payload } (unforceAnswer payload) s

/-- The answer to CLEAR-FAULT (R18). -/
def clearFaultAnswer (payload : List Byte) (s : State) : Answer :=
  withChannel payload fun c => asOrder s
    (if isUsed s c then
      (if s.channels[c].driveFault then accept (clearDriveFault c) else accept id)
    else refuse .refusedState)

/-- CLEAR-FAULT comes to the port (R18). -/
def execClearFault (tag : Byte) (payload : List Byte) (s : State) : Host.Outcome State Fault Refusal :=
  takeCommand { kind := 0x36, tag, payload } (clearFaultAnswer payload) s

/-! ### PLAN-START, PLAN-STOP -/

/-- The check of one step at PLAN-START (R137). -/
def stepStartable (s : State) (st : PlanStep) : Bool :=
  match st.kind with
  | .restart | .pause | .resume =>
    match slotOf st.operand with
    | some k => s.contexts[k].state != .vacant
    | none => false
  | .awaitCredit => decide (st.operand ≤ s.cfg.budget.bothCap)
  | _ => true

/-- The number of the first step that fails its check at PLAN-START (R137). -/
def firstUnstartable (s : State) (r : PlanRecord) : Option Nat :=
  r.steps.findIdx? fun st => !stepStartable s st

/-- The answer to PLAN-START in RUN (R137, R138). -/
def answerPlanStart (p : PlanNo) (s : State) : Answer :=
  if s.executor.state ≠ .idle then refuse .busy
  else if s.cfg.plans[p].steps.isEmpty then refuse .invalidPlan
  else
    match firstUnstartable s s.cfg.plans[p] with
    | some i => refuseAt .invalidPlan (.step i)
    | none => accept (startPlan p)

/-- The answer to PLAN-START (R137). -/
def planStartAnswer (payload : List Byte) (s : State) : Answer :=
  match payload with
  | [b] =>
    match readPlanNo b with
    | none => refuse .outOfRange
    | some p => asOrder s (answerPlanStart p s)
  | _ => refuse .badLength

/-- PLAN-START comes to the port (R137). -/
def execPlanStart (tag : Byte) (payload : List Byte) (s : State) : Host.Outcome State Fault Refusal :=
  takeCommand { kind := 0x37, tag, payload } (planStartAnswer payload) s

/-- The plan under way ends with a result. -/
def endExecuting (result : PlanResult) (s : State) : State :=
  match s.executor.plan with
  | some p => endPlan p result s
  | none => s

/-- The effect of a PLAN-STOP with mode AT_PASS_END (R151). -/
def stopAtPassEnd (s : State) : State :=
  match s.executor.state with
  | .running => updExecutor (fun x => { x with pendingStop := .atPassEnd }) s
  | _ => endExecuting .done s

/-- The answer to PLAN-STOP in RUN (R150, R151). -/
def answerPlanStop (atPassEnd : Bool) (s : State) : Answer :=
  if s.executor.state = .idle then refuse .notRunning
  else if atPassEnd then accept stopAtPassEnd
  else accept (endExecuting .abortedStop)

/-- The answer to PLAN-STOP (R150): the mode is checked ahead of the part state. -/
def planStopAnswer (payload : List Byte) (s : State) : Answer :=
  match payload with
  | [b] =>
    match readStopMode b with
    | none => refuse .outOfRange
    | some m => asOrder s (answerPlanStop m s)
  | _ => refuse .badLength

/-- PLAN-STOP comes to the port (R150). -/
def execPlanStop (tag : Byte) (payload : List Byte) (s : State) : Host.Outcome State Fault Refusal :=
  takeCommand { kind := 0x38, tag, payload } (planStopAnswer payload) s

/-! ### LUMINANCE, FEED, RESET-PART -/

/-- The effect of an accepted LUMINANCE (R52). -/
def takeReading (value : Nat) (s : State) : State :=
  let l := min value Config.maxLuminance
  let old := s.daylight.stage
  let new := selectStage s.cfg.daylight l old
  let s := { s with daylight :=
    { stage := new, luminance := some l, readAt := some s.now
      ageTimer := some (s.now + Config.ageTime), stale := false } }
  if new = old then s else deriveDaylight s

/-- The answer to LUMINANCE (R52). -/
def luminanceAnswer (payload : List Byte) (s : State) : Answer :=
  match payload with
  | [hi, lo] => asOrder s (accept (takeReading (word hi lo)))
  | _ => refuse .badLength

/-- LUMINANCE comes to the port (R52). -/
def execLuminance (tag : Byte) (payload : List Byte) (s : State) : Host.Outcome State Fault Refusal :=
  takeCommand { kind := 0x39, tag, payload } (luminanceAnswer payload) s

/-- The effect of an accepted FEED (R30). -/
def setFeed (f : FeedState) (s : State) : State :=
  if s.admission.feed = f then s
  else clampCredit { s with admission := { s.admission with feed := f } }

/-- The answer to FEED (R30): a value that names no feed state is refused ahead of the part state (R158,
R162; DEDUCED, assumption log 7). -/
def feedAnswer (payload : List Byte) (s : State) : Answer :=
  match payload with
  | [b] =>
    match readFeed b with
    | none => refuse .outOfRange
    | some f => asOrder s (accept (setFeed f))
  | _ => refuse .badLength

/-- FEED comes to the port (R30). -/
def execFeed (tag : Byte) (payload : List Byte) (s : State) : Host.Outcome State Fault Refusal :=
  takeCommand { kind := 0x3A, tag, payload } (feedAnswer payload) s

/-- After a RESET-PART the port takes no further command until the reset (R163). -/
def awaitReset (s : State) : State :=
  { s with supervisory := { s.supervisory with resetWait := .replyWaiting } }

/-- The answer to RESET-PART (R163), taken in every part state. -/
def resetPartAnswer (payload : List Byte) (_s : State) : Answer :=
  withoutPayload payload (accept awaitReset)

/-- RESET-PART comes to the port (R163). -/
def execResetPart (tag : Byte) (payload : List Byte) (s : State) : Host.Outcome State Fault Refusal :=
  takeCommand { kind := 0x3B, tag, payload } (resetPartAnswer payload) s

end Sys2Proof.Machine
end

