-- ==== Sys2Proof/Machine/Queries.lean ====
section
/-! DEFINITION. The queries, their data laid out as R184 gives, and a command whose kind names none. -/

namespace Sys2Proof.Machine

/-! ### GET-COMPUTER -/

/-- The context timer that runs, by its code of R184, with the time it runs out. -/
def runningTimer (x : Context) : Option (Nat × Nat) :=
  match x.settleTimer, x.helloTimer, x.imageTimer, x.trackTimer with
  | some t, _, _, _ => some (0, t)
  | none, some t, _, _ => some (1, t)
  | none, none, some t, _ => some (2, t)
  | none, none, none, some t => some (3, t)
  | none, none, none, none => none

/-- The least match count among the counted channels of a slot, absent where none is counted (R105). -/
def leastMatch (s : State) (k : Slot) : Option Nat :=
  ((countedOf s k).map fun c => s.channels[c].matchCount).min?

/-- The source of a slot's wait-list entry, if it has one (R105). -/
def waitSource (s : State) (k : Slot) : Option RestartSource :=
  (s.window.waitList.find? (·.slot == k)).map (·.source)

/-- The context's part of a GET-COMPUTER reply (R105, R184). -/
def contextData (s : State) (k : Slot) : List Byte :=
  let x := s.contexts[k]
  b1 (computerStateCode x.state) ++ opt1 (x.phase.map phaseCode) ++ b1 x.failures ++ b2 x.generation ++
  bflag x.inProgress ++ opt1 (x.trackCause.map trackCauseCode) ++ b1 (styleCode x.activeStyle) ++
  opt1 (x.lastHealth.map healthCode) ++ opt1 ((runningTimer x).map (·.1)) ++
  opt2 (remaining s.now ((runningTimer x).map (·.2))) ++ b1 (ownedBy s k).length ++
  b1 (countedOf s k).length ++ opt1 (leastMatch s k) ++ opt1 ((waitSource s k).map restartSourceCode)

/-- The port's part of a GET-COMPUTER reply (R73, R184). -/
def portData (p : Port) : List Byte :=
  opt2 p.expectation ++ bflag p.reportTimer.isSome ++ bflag p.reportLost ++ b2 p.checkErrors ++
  b2 p.gapErrors ++ b2 p.formatErrors ++ b2 p.sendDrops ++ b1 p.sendList.length ++
  b1 p.sendSequence ++ opt2 p.lastReject

/-- The data of a GET-COMPUTER reply (R184). -/
def computerData (s : State) (k : Slot) : List Byte :=
  computerPayload k s.cfg.computers[k] ++ contextData s k ++ portData s.ports[k]

/-- Once the reply is made the port's report-lost flag is cleared (R73). -/
def clearReportLost (k : Slot) (s : State) : State := updPort k (fun p => { p with reportLost := false }) s

/-- The answer to GET-COMPUTER (R73, R105). -/
def getComputerAnswer (payload : List Byte) (s : State) : Answer :=
  withSlot payload fun k => answerData (computerData s k) (clearReportLost k)

/-- GET-COMPUTER comes to the port (R73). -/
def execGetComputer (tag : Byte) (payload : List Byte) (s : State) : Host.Outcome State Fault Refusal :=
  takeCommand { kind := 0x50, tag, payload } (getComputerAnswer payload) s

/-! ### GET-CHANNEL -/

/-- The data of a GET-CHANNEL reply (R24, R184). -/
def channelData (s : State) (c : Chan) : List Byte :=
  let cfg := s.cfg.channels[c]
  let ch := s.channels[c]
  channelPayload c cfg ++ b1 (stepSize cfg) ++ bflag (isUsed s c) ++ b1 (channelModeCode ch.mode) ++
  opt2 ch.target ++ opt2 ch.driven ++ bflag ch.adopted ++ opt2 ch.demand ++ opt2 ch.forced ++
  b1 ch.matchCount ++ bflag ch.driveFault ++ bflag ch.startConfirm.isSome ++
  b1 (runStateCode ch.runState) ++ bflag (entryOf s c).isSome

/-- The answer to GET-CHANNEL (R24). -/
def getChannelAnswer (payload : List Byte) (s : State) : Answer :=
  withChannel payload fun c => answerData (channelData s c) id

/-- GET-CHANNEL comes to the port (R24). -/
def execGetChannel (tag : Byte) (payload : List Byte) (s : State) : Host.Outcome State Fault Refusal :=
  takeCommand { kind := 0x51, tag, payload } (getChannelAnswer payload) s

/-! ### GET-BUDGET, GET-WAIT-LIST -/

/-- One entry of a GET-BUDGET reply (R184). -/
def admissionEntryData (now : Nat) (e : AdmissionEntry) : List Byte :=
  b1 (e.channel.val + 0x80 * flagCode e.reported) ++ b1 e.wanted ++ b2 (elapsed now e.joined)

/-- The data of a GET-BUDGET reply (R41, R184). -/
def budgetData (s : State) : List Byte :=
  b2 s.admission.credit ++ b1 (feedCode s.admission.feed) ++ b2 (currentCap s) ++
  b2 s.cfg.budget.bothCap ++ b2 s.cfg.budget.singleCap ++ b2 s.cfg.budget.refill ++
  b1 s.admission.queue.length ++ (s.admission.queue.map (admissionEntryData s.now)).flatten

/-- The answer to GET-BUDGET (R41). -/
def getBudgetAnswer (payload : List Byte) (s : State) : Answer :=
  withoutPayload payload (answerData (budgetData s) id)

/-- GET-BUDGET comes to the port (R41). -/
def execGetBudget (tag : Byte) (payload : List Byte) (s : State) : Host.Outcome State Fault Refusal :=
  takeCommand { kind := 0x52, tag, payload } (getBudgetAnswer payload) s

/-- The slots in progress as one byte, bit i for slot i (R184). -/
def progressBits (s : State) : List Byte :=
  b1 ((allSlots.filter fun k => s.contexts[k].inProgress).map fun k => 2 ^ k.val).sum

/-- One entry of a GET-WAIT-LIST reply (R121, R184). -/
def waitEntryData (s : State) (e : WaitEntry) : List Byte :=
  b1 e.slot.val ++ b1 (boreCode (boreOf s e.slot)) ++ b1 (restartSourceCode e.source) ++
  opt1 (e.plan.map (·.val)) ++ bflag e.mark ++ b2 (elapsed s.now e.since)

/-- The data of a GET-WAIT-LIST reply (R121, R184). -/
def waitListData (s : State) : List Byte :=
  b1 s.cfg.limit1 ++ b1 s.window.count1 ++ b1 s.cfg.limit2 ++ b1 s.window.count2 ++ progressBits s ++
  b1 s.window.waitList.length ++ (s.window.waitList.map (waitEntryData s)).flatten

/-- The answer to GET-WAIT-LIST (R121). -/
def getWaitListAnswer (payload : List Byte) (s : State) : Answer :=
  withoutPayload payload (answerData (waitListData s) id)

/-- GET-WAIT-LIST comes to the port (R121). -/
def execGetWaitList (tag : Byte) (payload : List Byte) (s : State) : Host.Outcome State Fault Refusal :=
  takeCommand { kind := 0x53, tag, payload } (getWaitListAnswer payload) s

/-! ### GET-PLAN-STATUS -/

/-- The watch record as GET-PLAN-STATUS shows it: the current step's, cleared where no step is current
(R153; DEDUCED, assumption log 11). -/
def shownWatch (x : Executor) : Watch := if x.step.isSome then x.watch else clearWatch

/-- The pass number that GET-PLAN-STATUS shows, 0 while the executor is not RUNNING (R184). -/
def shownPass (x : Executor) : Nat := if x.state = .running then passNumber x else 0

/-- The data of a GET-PLAN-STATUS reply (R153, R184). -/
def planStatusData (s : State) : List Byte :=
  let x := s.executor
  b1 (executorStateCode x.state) ++ opt1 (x.plan.map (·.val)) ++ b2 x.passes ++ b2 (shownPass x) ++
  opt1 x.step ++ opt1 ((runningStep s).map fun r => stepKindCode r.2.2.2.kind) ++
  opt1 ((shownWatch x).outcome.map restartOutcomeCode) ++ bflag (shownWatch x).ordered ++
  bflag (shownWatch x).resumed ++ opt2 (remaining s.now x.stepTimer) ++
  opt2 (remaining s.now x.passTimer) ++ b1 (pendingStopCode x.pendingStop) ++ bflag x.stretched ++
  b1 x.skipped ++ opt2 x.lastMark ++ b1 (planResultCode x.lastResult)

/-- The answer to GET-PLAN-STATUS (R153). -/
def getPlanStatusAnswer (payload : List Byte) (s : State) : Answer :=
  withoutPayload payload (answerData (planStatusData s) id)

/-- GET-PLAN-STATUS comes to the port (R153). -/
def execGetPlanStatus (tag : Byte) (payload : List Byte) (s : State) : Host.Outcome State Fault Refusal :=
  takeCommand { kind := 0x54, tag, payload } (getPlanStatusAnswer payload) s

/-! ### GET-DAYLIGHT -/

/-- The data of a GET-DAYLIGHT reply (R57, R184). -/
def daylightData (s : State) : List Byte :=
  let x := s.daylight
  daylightPayload s.cfg.daylight ++ b1 x.stage ++ b2 (stageLevel s) ++ opt2 x.luminance ++
  opt2 (x.readAt.map (elapsed s.now)) ++ bflag x.stale

/-- The answer to GET-DAYLIGHT (R57). -/
def getDaylightAnswer (payload : List Byte) (s : State) : Answer :=
  withoutPayload payload (answerData (daylightData s) id)

/-- GET-DAYLIGHT comes to the port (R57). -/
def execGetDaylight (tag : Byte) (payload : List Byte) (s : State) : Host.Outcome State Fault Refusal :=
  takeCommand { kind := 0x55, tag, payload } (getDaylightAnswer payload) s

/-! ### READ-EVENTS, READ-COUNTER, IDENTIFY -/

/-- The last-item byte of a kind: FFh for an absent item or an unlatched kind (R184). -/
def lastItemByte (l : Latch) : List Byte := opt1 (if l.latched then l.item.map itemNumber else none)

/-- The data of a READ-EVENTS reply (R168, R184). -/
def eventsData (s : State) : List Byte :=
  kindBits (eventKinds.filter fun k => s.events[eventIndex k].latched) ++
  (eventKinds.map fun k => lastItemByte s.events[eventIndex k]).flatten

/-- Every kind is cleared and every last item becomes absent (R168). -/
def clearSet (s : State) : State := { s with events := clearEvents }

/-- The answer to READ-EVENTS (R168). -/
def readEventsAnswer (payload : List Byte) (s : State) : Answer :=
  withoutPayload payload (answerData (eventsData s) clearSet)

/-- READ-EVENTS comes to the port (R168). -/
def execReadEvents (tag : Byte) (payload : List Byte) (s : State) : Host.Outcome State Fault Refusal :=
  takeCommand { kind := 0x56, tag, payload } (readEventsAnswer payload) s

/-- The data of a READ-COUNTER reply (R170, R184). -/
def counterData (s : State) : List Byte := b1 (counterSourceCode s.cfg.counterSource) ++ b1 s.counter

/-- The counter is set to 0 after a READ-COUNTER (R170). -/
def zeroCounter (s : State) : State := { s with counter := 0 }

/-- The answer to READ-COUNTER (R170). -/
def readCounterAnswer (payload : List Byte) (s : State) : Answer :=
  withoutPayload payload (answerData (counterData s) zeroCounter)

/-- READ-COUNTER comes to the port (R170). -/
def execReadCounter (tag : Byte) (payload : List Byte) (s : State) : Host.Outcome State Fault Refusal :=
  takeCommand { kind := 0x57, tag, payload } (readCounterAnswer payload) s

/-- The data of an IDENTIFY reply (R171, R184). -/
def identifyData (s : State) : List Byte :=
  let x := s.supervisory
  b1 Config.partCode ++ b1 Config.designRevision ++ b1 (partStateCode s.partState) ++
  bflag s.commissioned ++ bflag s.store.writing.isSome ++ bflag s.store.valid ++
  b1 (resetKindCode s.lastReset) ++ b2 x.checkErrors ++ b2 x.gapErrors ++ b2 x.formatErrors ++
  b2 x.overflows ++ b2 x.noticesLost

/-- The answer to IDENTIFY (R171). -/
def identifyAnswer (payload : List Byte) (s : State) : Answer :=
  withoutPayload payload (answerData (identifyData s) id)

/-- IDENTIFY comes to the port (R171). -/
def execIdentify (tag : Byte) (payload : List Byte) (s : State) : Host.Outcome State Fault Refusal :=
  takeCommand { kind := 0x58, tag, payload } (identifyAnswer payload) s

/-! ### The answer by kind -/

/-- The answer to a command frame by its kind (R158 check 1, R184). -/
def answerOf (f : CommandFrame) : State → Answer :=
  match f.kind.toNat with
  | 0x10 => setComputerAnswer f.payload
  | 0x11 => setChannelAnswer f.payload
  | 0x12 => setBudgetAnswer f.payload
  | 0x13 => setWindowAnswer f.payload
  | 0x14 => setDaylightAnswer f.payload
  | 0x15 => setPlanAnswer f.payload
  | 0x16 => setEventMaskAnswer f.payload
  | 0x17 => setCounterSourceAnswer f.payload
  | 0x18 => storeConfigAnswer f.payload
  | 0x19 => commissionAnswer f.payload
  | 0x30 => restartAnswer f.payload
  | 0x31 => cancelRestartAnswer f.payload
  | 0x32 => pauseAnswer f.payload
  | 0x33 => resumeAnswer f.payload
  | 0x34 => forceAnswer f.payload
  | 0x35 => unforceAnswer f.payload
  | 0x36 => clearFaultAnswer f.payload
  | 0x37 => planStartAnswer f.payload
  | 0x38 => planStopAnswer f.payload
  | 0x39 => luminanceAnswer f.payload
  | 0x3A => feedAnswer f.payload
  | 0x3B => resetPartAnswer f.payload
  | 0x50 => getComputerAnswer f.payload
  | 0x51 => getChannelAnswer f.payload
  | 0x52 => getBudgetAnswer f.payload
  | 0x53 => getWaitListAnswer f.payload
  | 0x54 => getPlanStatusAnswer f.payload
  | 0x55 => getDaylightAnswer f.payload
  | 0x56 => readEventsAnswer f.payload
  | 0x57 => readCounterAnswer f.payload
  | 0x58 => identifyAnswer f.payload
  | _ => fun _ => refuse .unknownCommand

/-- UNKNOWN_COMMAND comes to the port (R158 check 1). A kind of the command table that stands in this row is
the command that it names. -/
def execUnknownCommand (kind tag : Byte) (payload : List Byte) (s : State) :
    Host.Outcome State Fault Refusal :=
  takeCommand { kind, tag, payload } (answerOf { kind, tag, payload }) s

end Sys2Proof.Machine
end

