-- ==== Sys2Proof/Machine/SupervisoryEvents.lean ====
section
/-! DEFINITION. The events of the supervisory line (R157, R160, R163) and the resets (R175, R176). -/

namespace Sys2Proof.Machine

/-- A complete frame arrives: at an empty queue a port that can take a command takes it (R158), else it
joins the queue or is discarded there (R157). -/
def arrive (f : CommandFrame) (s : State) : State :=
  if portFree s ∧ s.supervisory.queue = [] then answerCommand f (answerOf f) s else receiveFrame f s

/-- The port takes the head command of its queue, where it can (R158). -/
def takeHead (s : State) : State :=
  match s.supervisory.queue with
  | [] => s
  | f :: _ => if portFree s then answerCommand f (answerOf f) s else s

/-- SUPERVISORY_FRAME_RECEIVED (R157, R158). A payload above 250 bytes is a format error whose frame never
becomes complete. -/
def execSupervisoryFrameReceived (kind tag : Byte) (payload : List Byte) (s : State) :
    Host.Outcome State Fault Refusal :=
  whenLive (fun s =>
    if Config.maxPayload < payload.length then discardFrame .format s
    else arrive { kind, tag, payload } s) s

/-- SUPERVISORY_FRAME_DISCARD (R157). -/
def execSupervisoryFrameDiscard (cause : DiscardCause) (s : State) : Host.Outcome State Fault Refusal :=
  whenLive (discardFrame cause) s

/-- SUPERVISORY_GAP (R157). -/
def execSupervisoryGap (s : State) : Host.Outcome State Fault Refusal :=
  whenLive (fun s => count .framesDiscarded
    { s with supervisory := { s.supervisory with gapErrors := bump16 s.supervisory.gapErrors } }) s

/-- Whether an outgoing frame is the OK reply to a RESET-PART (R163). -/
def isResetReply : OutFrame → Bool
  | .reply kind _ code _ _ => kind == 0x3B && code == .ok
  | _ => false

/-- The head of the outgoing list leaves it and its sending begins (R160); where none waits the line
falls idle. A frame leaves the list at this row only (assumption log 12). -/
def beginSending (s : State) : State :=
  match s.supervisory.outgoing with
  | [] => { s with supervisory := { s.supervisory with line := [] } }
  | f :: rest =>
    let resetWait := if s.supervisory.resetWait = .replyWaiting ∧ isResetReply f = true then .replySending
      else s.supervisory.resetWait
    { s with supervisory := { s.supervisory with outgoing := rest, line := outBytes f, resetWait } }

/-- The last byte of the RESET-PART reply is on its way (R163). -/
def replyBeingSent (s : State) : Bool := s.supervisory.resetWait == .replySending

/-- SUPERVISORY_FRAME_SENT (R160): the next frame begins, and a waiting command is taken where that leaves
the list below 16 frames (R158). Where the frame that has been sent is the reply to RESET-PART, its last
byte is gone and the COMMAND reset takes effect (R163; assumption log 6). -/
def execSupervisoryFrameSent (s : State) : Host.Outcome State Fault Refusal :=
  whenLive (fun s =>
    if replyBeingSent s then startUp .command s else takeHead (beginSending s)) s

/-- COMMAND_RESET (R163, R175): it happens only while the RESET-PART reply is the frame on the line, and is
then the sending of its last byte (assumption log 6). -/
def execCommandReset (s : State) : Host.Outcome State Fault Refusal :=
  whenLive (fun s => if replyBeingSent s then startUp .command s else s) s

/-- POWER_RESET (R175, R176); while the reset line holds the part it stays held (assumption log 4). -/
def execPowerReset (s : State) : Host.Outcome State Fault Refusal :=
  .next (if s.held then holdInReset .power s else startUp .power s)

/-- LINE_RESET_ASSERT (R175). A line already asserted is no new assertion. -/
def execLineResetAssert (s : State) : Host.Outcome State Fault Refusal :=
  .next (if s.held then s else holdInReset .line s)

/-- LINE_RESET_RELEASE (R175, R176): the part starts by the kind of the last reset. A line that is not
asserted cannot be released. -/
def execLineResetRelease (s : State) : Host.Outcome State Fault Refusal :=
  .next (if s.held then startUp s.lastReset s else s)

end Sys2Proof.Machine
end

