-- ==== Sys2Proof/Machine/ComputerEvents.lean ====
section
/-! DEFINITION. The events of the computer lines (R60 to R67, R71, R81 to R84, R94 to R96). -/

namespace Sys2Proof.Machine

/-- A computer line is taken in RUN; in UNCONFIGURED and ADOPT it is ignored and nothing is sent (R63). -/
def inRun (f : State → State) (s : State) : State := if s.partState = .run then f s else s

/-- DEMAND (R64, R65, R66, R94). -/
def execDemand (slot : Slot) (seq : Nat) (health : Health) (pairs : List (Nat × Nat)) (s : State) :
    Host.Outcome State Fault Refusal :=
  whenLive (inRun fun s =>
    match s.contexts[slot].state with
    | .track => acceptReport slot seq health pairs s
    | .control => acceptReport slot seq health pairs s
    | .lost => reportInLost slot seq health pairs s
    | .settle | .join | .paused | .fault | .vacant =>
      expectAfter slot seq (count .reportsDiscarded s)) s

/-- A HELLO in JOIN, in either phase: phase IMAGE, a new IMAGE and a full image timer (R81, R84). -/
def helloInJoin (k : Slot) (s : State) : State :=
  startImageTimer k (issueImage k
    (updContext k (fun x => { x with phase := some .image, helloTimer := none }) s))

/-- HELLO (R64, R80, R81, R84, R95, R96). -/
def execHello (slot : Slot) (_seq : Nat) (s : State) : Host.Outcome State Fault Refusal :=
  whenLive (inRun fun s =>
    match s.contexts[slot].state with
    | .join => helloInJoin slot s
    | .track => if s.contexts[slot].inProgress then rejoin slot s else selfRestart slot s
    | .control => selfRestart slot s
    | .lost => selfRestart slot s
    | .settle => count .prematureHello s
    | .paused | .fault | .vacant => count .reportsDiscarded s) s

/-- The controller acts on an image reply: JOIN phase IMAGE with the present generation (R64, R82). -/
def replyCurrent (x : Context) (generation : Nat) : Bool :=
  x.state == .join && x.phase == some .image && x.generation == generation

/-- The cause of the TRACK that an IMAGE-OK brings (R83). -/
def joinCause (x : Context) : TrackCause := if x.inProgress then .ordered else .rejoin

/-- IMAGE-OK (R83). -/
def execImageOk (slot : Slot) (_seq generation : Nat) (s : State) : Host.Outcome State Fault Refusal :=
  whenLive (inRun fun s =>
    if replyCurrent s.contexts[slot] generation then enterTrack slot (joinCause s.contexts[slot]) true s
    else count .staleImageReplies s) s

/-- IMAGE-REJECT (R83): the reason is recorded and the attempt fails. -/
def execImageReject (slot : Slot) (_seq generation reason : Nat) (s : State) :
    Host.Outcome State Fault Refusal :=
  whenLive (inRun fun s =>
    if replyCurrent s.contexts[slot] generation then
      failAttempt slot (updPort slot (fun p => { p with lastReject := some reason }) s)
    else count .staleImageReplies s) s

/-- COMPUTER_FRAME_DISCARD (R62). -/
def execComputerFrameDiscard (slot : Slot) (cause : DiscardCause) (s : State) :
    Host.Outcome State Fault Refusal :=
  whenLive (inRun fun s =>
    count .framesDiscarded (updPort slot (fun p =>
      match cause with
      | .check => { p with checkErrors := bump16 p.checkErrors }
      | .format => { p with formatErrors := bump16 p.formatErrors }) s)) s

/-- COMPUTER_GAP (R62). -/
def execComputerGap (slot : Slot) (s : State) : Host.Outcome State Fault Refusal :=
  whenLive (inRun fun s =>
    count .framesDiscarded (updPort slot (fun p => { p with gapErrors := bump16 p.gapErrors }) s)) s

/-- The head of a port's send list leaves it and its sending begins, carrying the send sequence, which
rises by 1 modulo 256 (R71); where none waits the line falls idle. -/
def beginOrder (p : Port) : Port :=
  match p.sendList with
  | [] => { p with line := [] }
  | o :: rest =>
    { p with
      sendList := rest
      line := orderBytes p.sendSequence o
      sendSequence := (p.sendSequence + 1) % 256 }

/-- COMPUTER_ORDER_SENT (R71). -/
def execComputerOrderSent (slot : Slot) (s : State) : Host.Outcome State Fault Refusal :=
  whenLive (inRun (updPort slot beginOrder)) s

end Sys2Proof.Machine
end

