-- ==== Sys2Proof/Machine/FieldEvents.lean ====
section
/-! DEFINITION. The events of the field line (R13, R14, R180, R181, R186, R188). -/

namespace Sys2Proof.Machine

/-- The field line is taken in ADOPT and RUN; in UNCONFIGURED received bytes are ignored and nothing is
sent (R13, R173). -/
def onField (f : State → State) (s : State) : State :=
  match s.partState with
  | .unconfigured => s
  | .adopt => f s
  | .run => f s

/-! ### Records from the modules -/

/-- The window ends at the first STATE record received from the polled module (R13), whether or not its
channel is still used (DEDUCED, assumption log 9). -/
def closeWindow (address : Nat) (s : State) : State :=
  match s.field.window with
  | some w =>
    if w.channel.val = address then { s with field := { s.field with window := none } } else s
  | none => s

/-- A record in ADOPT that adopts the last unadopted used channel ends adoption (R181). -/
def endAdoption (adoptedOne : Bool) (s : State) : State :=
  if s.partState = .adopt ∧ adoptedOne = true ∧ unadoptedLeft s = false then enterRun s else s

/-- STATE_RECORD (R14): a record for an address above 47 or an unused channel is discarded uncounted. -/
def execStateRecord (address value : Nat) (run : ModuleRun) (s : State) :
    Host.Outcome State Fault Refusal :=
  whenLive (onField fun s =>
    let s := closeWindow address s
    match chanOf address with
    | none => s
    | some c =>
      if isUsed s c then endAdoption (!s.channels[c].adopted) (takeState c value run s) else s) s

/-- FIELD_RECORD_DISCARD (R14, R186). -/
def execFieldRecordDiscard (s : State) : Host.Outcome State Fault Refusal :=
  whenLive (onField (count .framesDiscarded)) s

/-- FIELD_GAP (R14, R186). -/
def execFieldGap (s : State) : Host.Outcome State Fault Refusal :=
  whenLive (onField fun s => count .framesDiscarded s) s

/-! ### Sending -/

/-- The next channel of a rotation over the channels of `visit`: the lowest at or above the position, or
the lowest of all after the highest (R13). -/
def nextPolled (visit : Chan → Bool) (position : Nat) : Option Chan :=
  match allChannels.find? fun c => visit c && decide (position ≤ c.val) with
  | some c => some c
  | none => allChannels.find? visit

/-- A POLL is sent and its answer window opens (R13). -/
def sendPoll (c : Chan) (s : State) : State :=
  { s with field := { s.field with
      window := some { channel := c, deadline := s.now + Config.answerWindow }
      next := c.val + 1
      line := pollBytes c } }

/-- A POLL to the next channel of a rotation, if there is one. -/
def pollNext (visit : Chan → Bool) (s : State) : State :=
  match nextPolled visit s.field.next with
  | some c => sendPoll c s
  | none => s

/-- The master sends one record on a free line: in ADOPT a POLL to the next used unadopted channel (R180),
in RUN the head of the send list or, where it is empty, a POLL to the next used channel (R13). -/
def sendRecord (s : State) : State :=
  match s.partState with
  | .unconfigured => s
  | .adopt => pollNext (fun c => isUsed s c && !s.channels[c].adopted) s
  | .run =>
    match s.field.sendList with
    | r :: rest => { s with field := { s.field with sendList := rest, line := setBytes r } }
    | [] => pollNext (isUsed s) s

/-- FIELD_LINE_FREE (R13): the line is not free while an answer window is open, nor the master's to use in
an answer period (R180, R188). That the line is free is this row's own (assumption log 9). -/
def execFieldLineFree (s : State) : Host.Outcome State Fault Refusal :=
  whenLive (fun s => if s.field.window.isSome ∨ s.field.period.isSome then s else sendRecord s) s

/-- ANSWER_WINDOW (R13): the polled channel's run state becomes UNKNOWN and the line is free. -/
def execAnswerWindow (s : State) : Host.Outcome State Fault Refusal :=
  whenLive (fun s =>
    match s.field.window with
    | none => s
    | some w =>
      expire (some w.deadline) (fun s =>
        updChannel w.channel (fun ch => { ch with runState := .unknown })
          { s with field := { s.field with window := none } }) s) s

/-- ANSWER_PERIOD (R180, R188): the master sends again, one record (assumption log 9). -/
def execAnswerPeriod (s : State) : Host.Outcome State Fault Refusal :=
  whenLive (fun s => expire s.field.period (fun s =>
    sendRecord { s with field := { s.field with period := none } }) s) s

end Sys2Proof.Machine
end

