-- ==== Sys2Proof/Machine/Timers.lean ====
section
/-! DEFINITION. The expiries of the part's timers, the completion of a store write and the trigger edge.
An expiry happens only while its timer runs (`expire`), a completion only while a write is in flight
(assumption log 12). -/

namespace Sys2Proof.Machine

/-! ### Channel table, admission unit, daylight table -/

/-- STEP_TIMER (R8, R9): the timer restarts, the falls are taken, then the requests are put and served. -/
def execStepTimer (s : State) : Host.Outcome State Fault Refusal :=
  whenLive (fun s => expire s.stepTimer (fun s =>
    requestAll (fallAll { s with stepTimer := some (s.now + Config.stepPeriod) })) s) s

/-- The refill timer restarts (R29). -/
def restartRefill (s : State) : State :=
  { s with admission := { s.admission with refillTimer := some (s.now + Config.refillPeriod) } }

/-- REFILL_TIMER (R29). -/
def execRefillTimer (s : State) : Host.Outcome State Fault Refusal :=
  whenLive (fun s => expire s.admission.refillTimer (fun s =>
    noteCredit (serve (refillCredit (restartRefill s)))) s) s

/-- START_CONFIRM_TIMER (R15): start-confirm pending is cleared and the drive fault is set. -/
def execStartConfirmTimer (chan : Chan) (s : State) : Host.Outcome State Fault Refusal :=
  whenLive (fun s => expire s.channels[chan].startConfirm (fun s =>
    setDriveFault chan (updChannel chan (fun ch => { ch with startConfirm := none }) s)) s) s

/-- Change the admission entry of a channel in its place. -/
def updEntry (c : Chan) (f : AdmissionEntry → AdmissionEntry) (s : State) : State :=
  setQueue (s.admission.queue.map fun e => if e.channel == c then f e else e) s

/-- An entry's starvation timer has run out (R40). -/
def starve (c : Chan) (e : AdmissionEntry) (s : State) : State :=
  let s := updEntry c (fun e => { e with starvation := none, reported := true }) s
  if e.reported then s else latch .budgetStarved (some (.channel c)) s

/-- STARVATION_TIMER (R40). -/
def execStarvationTimer (chan : Chan) (s : State) : Host.Outcome State Fault Refusal :=
  whenLive (fun s =>
    match entryOf s chan with
    | none => s
    | some e => expire e.starvation (starve chan e) s) s

/-- AGE_TIMER (R55). -/
def execAgeTimer (s : State) : Host.Outcome State Fault Refusal :=
  whenLive (fun s => expire s.daylight.ageTimer (fun s =>
    latch .daylightStale none
      { s with daylight := { s.daylight with ageTimer := none, stale := true } }) s) s

/-! ### Ports and contexts -/

/-- What the controller does at a report timer's expiry (R89, R93). -/
def reportMissed (k : Slot) (s : State) : State :=
  match s.contexts[k].state with
  | .track => if s.contexts[k].inProgress then failAttempt k s else enterLost k s
  | .control => latch .computerLost (some (.slot k)) (enterLost k s)
  | _ => s

/-- The timer starts again where the slot is still in TRACK or CONTROL (R69). -/
def rearmReport (k : Slot) (s : State) : State :=
  if reporting s.contexts[k].state then startReport k s else s

/-- REPORT_TIMER (R69). -/
def execReportTimer (slot : Slot) (s : State) : Host.Outcome State Fault Refusal :=
  whenLive (fun s => expire s.ports[slot].reportTimer (fun s =>
    rearmReport slot (reportMissed slot
      (updPort slot (fun p => { p with reportTimer := none, reportLost := true }) s))) s) s

/-- The slot enters JOIN with phase HELLO and the hello timer starts (R80). -/
def enterHello (k : Slot) (s : State) : State :=
  deriveOwned k (changeState k .join (some .hello)
    (fun x => { x with helloTimer := some (s.now + Config.helloTime) }) s)

/-- SETTLE_TIMER (R80). The settle timer runs in SETTLE only (R76). -/
def execSettleTimer (slot : Slot) (s : State) : Host.Outcome State Fault Refusal :=
  whenLive (fun s => expire s.contexts[slot].settleTimer (fun s =>
    if s.contexts[slot].state = .settle then enterHello slot s
    else updContext slot (fun x => { x with settleTimer := none }) s) s) s

/-- HELLO_TIMER (R81, R97). The hello timer runs in JOIN phase HELLO only (R76). -/
def execHelloTimer (slot : Slot) (s : State) : Host.Outcome State Fault Refusal :=
  whenLive (fun s => expire s.contexts[slot].helloTimer (fun s =>
    let s := updContext slot (fun x => { x with helloTimer := none }) s
    if s.contexts[slot].state = .join then failAttempt slot s else s) s) s

/-- IMAGE_TIMER (R84, R97). The image timer runs in JOIN phase IMAGE only (R76). -/
def execImageTimer (slot : Slot) (s : State) : Host.Outcome State Fault Refusal :=
  whenLive (fun s => expire s.contexts[slot].imageTimer (fun s =>
    let s := updContext slot (fun x => { x with imageTimer := none }) s
    if s.contexts[slot].state = .join then failAttempt slot s else s) s) s

/-- TRACK_TIMER (R89, R97). The track timer runs in TRACK only (R76). -/
def execTrackTimer (slot : Slot) (s : State) : Host.Outcome State Fault Refusal :=
  whenLive (fun s => expire s.contexts[slot].trackTimer (fun s =>
    let s := updContext slot (fun x => { x with trackTimer := none }) s
    if s.contexts[slot].state = .track then failAttempt slot s else s) s) s

/-! ### Executor, adoption, store, trigger -/

/-- PLAN_STEP_TIMER (R127, R131). -/
def execPlanStepTimer (s : State) : Host.Outcome State Fault Refusal :=
  whenLive (fun s => expire s.executor.stepTimer stepExpired s) s

/-- PASS_TIMER (R144, R145). -/
def execPassTimer (s : State) : Host.Outcome State Fault Refusal :=
  whenLive (fun s => expire s.executor.passTimer passExpired s) s

/-- The lowest-numbered used channel that is unadopted. -/
def lowestUnadopted (s : State) : Option Chan :=
  allChannels.find? fun c => isUsed s c && !s.channels[c].adopted

/-- Adoption ends at the expiry of its timer (R181). -/
def adoptionExpired (s : State) : State :=
  match lowestUnadopted s with
  | some c => enterRun (latch .unadopted (some (.channel c)) s)
  | none => enterRun s

/-- ADOPTION_TIMER (R181). The adoption timer runs in ADOPT only (R180). -/
def execAdoptionTimer (s : State) : Host.Outcome State Fault Refusal :=
  whenLive (fun s => expire s.adoptionTimer (fun s =>
    let s := { s with adoptionTimer := none }
    if s.partState = .adopt then adoptionExpired s else s) s) s

/-- A write of the store ends (R178). After an error the image stays the earlier one under an invalid marker
(DESIGN CHOICE, assumption log 5). -/
def writeEnds (ok : Bool) (image : StoredImage) (s : State) : State :=
  if ok then
    latch .storeDone none { s with store := { valid := true, image, writing := none } }
  else latch .storeFailed none { s with store := { s.store with writing := none } }

/-- STORE_WRITE_COMPLETION (R178): an event of a write in flight. -/
def execStoreWriteCompletion (ok : Bool) (s : State) : Host.Outcome State Fault Refusal :=
  whenLive (fun s =>
    match s.store.writing with
    | none => s
    | some image => writeEnds ok image s) s

/-- PLAN_TRIGGER_EDGE (R146, R147). -/
def execPlanTriggerEdge (s : State) : Host.Outcome State Fault Refusal := whenLive takeEdge s

end Sys2Proof.Machine
end

