-- ==== Sys2Proof/Machine/Dispatch.lean ====
section
/-! DEFINITION. One arm for each row of spec/opcode_table.json: the row's meaning. -/

namespace Sys2Proof.Machine

def exec (i : Instr) (s : State) : Host.Outcome State Fault Refusal :=
  match i with
  | .setComputer tag payload => Sys2Proof.Machine.execSetComputer tag payload s
  | .setChannel tag payload => Sys2Proof.Machine.execSetChannel tag payload s
  | .setBudget tag payload => Sys2Proof.Machine.execSetBudget tag payload s
  | .setWindow tag payload => Sys2Proof.Machine.execSetWindow tag payload s
  | .setDaylight tag payload => Sys2Proof.Machine.execSetDaylight tag payload s
  | .setPlan tag payload => Sys2Proof.Machine.execSetPlan tag payload s
  | .setEventMask tag payload => Sys2Proof.Machine.execSetEventMask tag payload s
  | .setCounterSource tag payload => Sys2Proof.Machine.execSetCounterSource tag payload s
  | .storeConfig tag payload => Sys2Proof.Machine.execStoreConfig tag payload s
  | .commission tag payload => Sys2Proof.Machine.execCommission tag payload s
  | .restart tag payload => Sys2Proof.Machine.execRestart tag payload s
  | .cancelRestart tag payload => Sys2Proof.Machine.execCancelRestart tag payload s
  | .pause tag payload => Sys2Proof.Machine.execPause tag payload s
  | .resume tag payload => Sys2Proof.Machine.execResume tag payload s
  | .force tag payload => Sys2Proof.Machine.execForce tag payload s
  | .unforce tag payload => Sys2Proof.Machine.execUnforce tag payload s
  | .clearFault tag payload => Sys2Proof.Machine.execClearFault tag payload s
  | .planStart tag payload => Sys2Proof.Machine.execPlanStart tag payload s
  | .planStop tag payload => Sys2Proof.Machine.execPlanStop tag payload s
  | .luminance tag payload => Sys2Proof.Machine.execLuminance tag payload s
  | .feed tag payload => Sys2Proof.Machine.execFeed tag payload s
  | .resetPart tag payload => Sys2Proof.Machine.execResetPart tag payload s
  | .getComputer tag payload => Sys2Proof.Machine.execGetComputer tag payload s
  | .getChannel tag payload => Sys2Proof.Machine.execGetChannel tag payload s
  | .getBudget tag payload => Sys2Proof.Machine.execGetBudget tag payload s
  | .getWaitList tag payload => Sys2Proof.Machine.execGetWaitList tag payload s
  | .getPlanStatus tag payload => Sys2Proof.Machine.execGetPlanStatus tag payload s
  | .getDaylight tag payload => Sys2Proof.Machine.execGetDaylight tag payload s
  | .readEvents tag payload => Sys2Proof.Machine.execReadEvents tag payload s
  | .readCounter tag payload => Sys2Proof.Machine.execReadCounter tag payload s
  | .identify tag payload => Sys2Proof.Machine.execIdentify tag payload s
  | .unknownCommand kind tag payload => Sys2Proof.Machine.execUnknownCommand kind tag payload s
  | .supervisoryFrameReceived kind tag payload => Sys2Proof.Machine.execSupervisoryFrameReceived kind tag payload s
  | .supervisoryFrameDiscard cause => Sys2Proof.Machine.execSupervisoryFrameDiscard cause s
  | .supervisoryGap => Sys2Proof.Machine.execSupervisoryGap s
  | .supervisoryFrameSent => Sys2Proof.Machine.execSupervisoryFrameSent s
  | .commandReset => Sys2Proof.Machine.execCommandReset s
  | .powerReset => Sys2Proof.Machine.execPowerReset s
  | .lineResetAssert => Sys2Proof.Machine.execLineResetAssert s
  | .lineResetRelease => Sys2Proof.Machine.execLineResetRelease s
  | .demand slot seq health pairs => Sys2Proof.Machine.execDemand slot seq health pairs s
  | .hello slot seq => Sys2Proof.Machine.execHello slot seq s
  | .imageOk slot seq generation => Sys2Proof.Machine.execImageOk slot seq generation s
  | .imageReject slot seq generation reason => Sys2Proof.Machine.execImageReject slot seq generation reason s
  | .computerFrameDiscard slot cause => Sys2Proof.Machine.execComputerFrameDiscard slot cause s
  | .computerGap slot => Sys2Proof.Machine.execComputerGap slot s
  | .computerOrderSent slot => Sys2Proof.Machine.execComputerOrderSent slot s
  | .stateRecord address value run => Sys2Proof.Machine.execStateRecord address value run s
  | .fieldRecordDiscard => Sys2Proof.Machine.execFieldRecordDiscard s
  | .fieldGap => Sys2Proof.Machine.execFieldGap s
  | .fieldLineFree => Sys2Proof.Machine.execFieldLineFree s
  | .answerWindow => Sys2Proof.Machine.execAnswerWindow s
  | .answerPeriod => Sys2Proof.Machine.execAnswerPeriod s
  | .stepTimer => Sys2Proof.Machine.execStepTimer s
  | .refillTimer => Sys2Proof.Machine.execRefillTimer s
  | .startConfirmTimer chan => Sys2Proof.Machine.execStartConfirmTimer chan s
  | .starvationTimer chan => Sys2Proof.Machine.execStarvationTimer chan s
  | .ageTimer => Sys2Proof.Machine.execAgeTimer s
  | .reportTimer slot => Sys2Proof.Machine.execReportTimer slot s
  | .settleTimer slot => Sys2Proof.Machine.execSettleTimer slot s
  | .helloTimer slot => Sys2Proof.Machine.execHelloTimer slot s
  | .imageTimer slot => Sys2Proof.Machine.execImageTimer slot s
  | .trackTimer slot => Sys2Proof.Machine.execTrackTimer slot s
  | .planStepTimer => Sys2Proof.Machine.execPlanStepTimer s
  | .passTimer => Sys2Proof.Machine.execPassTimer s
  | .adoptionTimer => Sys2Proof.Machine.execAdoptionTimer s
  | .storeWriteCompletion ok => Sys2Proof.Machine.execStoreWriteCompletion ok s
  | .planTriggerEdge => Sys2Proof.Machine.execPlanTriggerEdge s

end Sys2Proof.Machine
end

