-- ==== Sys2Proof/Machine/Clock.lean ====
section
/-! DEFINITION. What the part does of its own accord while no command or event waits: it takes the head
of its command queue (R158), lets a timer that has run out expire, or a millisecond passes (DESIGN CHOICE,
assumption log 2). -/

namespace Sys2Proof.Machine

/-- The row by which the port takes the head of its command queue, where it can (R158). No state that a run
reaches has such a head: it is taken where it arrives or where a frame leaves the list. -/
def waitingCommand (s : State) : Option Instr :=
  match s.supervisory.queue with
  | [] => none
  | f :: _ => if portFree s then some (commandOf f.kind f.tag f.payload) else none

/-- The timer has run out by this moment. -/
def isDue (now : Nat) (timer : Option Nat) : Bool := timer.any fun deadline => decide (deadline ≤ now)

/-- A row, if its timer has run out. -/
def dueRow (now : Nat) (timer : Option Nat) (i : Instr) : List Instr := if isDue now timer then [i] else []

/-- The expiries of the part's timers that have run out. Any order is allowed by the manual; this one is
DESIGN CHOICE (assumption log 2). -/
def dueRows (s : State) : List Instr :=
  dueRow s.now (s.field.window.map (·.deadline)) .answerWindow ++
  dueRow s.now s.field.period .answerPeriod ++
  dueRow s.now s.stepTimer .stepTimer ++
  dueRow s.now s.admission.refillTimer .refillTimer ++
  (allChannels.map fun c => dueRow s.now s.channels[c].startConfirm (.startConfirmTimer c)).flatten ++
  (s.admission.queue.map fun e => dueRow s.now e.starvation (.starvationTimer e.channel)).flatten ++
  dueRow s.now s.daylight.ageTimer .ageTimer ++
  (allSlots.map fun k =>
    dueRow s.now s.ports[k].reportTimer (.reportTimer k) ++
    dueRow s.now s.contexts[k].settleTimer (.settleTimer k) ++
    dueRow s.now s.contexts[k].helloTimer (.helloTimer k) ++
    dueRow s.now s.contexts[k].imageTimer (.imageTimer k) ++
    dueRow s.now s.contexts[k].trackTimer (.trackTimer k)).flatten ++
  dueRow s.now s.executor.stepTimer .planStepTimer ++
  dueRow s.now s.executor.passTimer .passTimer ++
  dueRow s.now s.adoptionTimer .adoptionTimer

/-- The event that comes of itself, if any: none while the reset line holds the part. -/
def spontaneous (s : State) : Option Instr :=
  if s.held then none
  else
    match waitingCommand s with
    | some i => some i
    | none => (dueRows s).head?

/-- A millisecond passes. -/
def tick (s : State) : State := { s with now := s.now + 1 }

end Sys2Proof.Machine
end

