-- ==== Sys2Proof/Machine/Reception.lean ====
section
/-! DEFINITION. Reception at the serial inputs, character by character (R62, R63, R157, R186, R187): what is
in progress at an input and the row that its next character brings. -/

namespace Sys2Proof.Machine

/-- The start byte at an input (R183, R186). -/
def startByte : Input → Byte
  | .supervisory => 0xA5
  | .computer _ => 0xA5
  | .field => 0x5A

/-- The next row that the bytes heard at an input are (R62, R157, R186). -/
def nextRow : Input → List HeardByte → Option (Instr × List HeardByte)
  | .supervisory => nextSupervisory
  | .computer slot => nextComputer slot
  | .field => nextField

/-- The reception at an input. -/
def receptionAt (s : State) : Input → Reception
  | .supervisory => s.inputs.supervisory
  | .computer slot => s.inputs.computers[slot]
  | .field => s.inputs.field

/-- Put a reception at an input. -/
def setReception (i : Input) (r : Reception) (s : State) : State :=
  { s with inputs :=
      match i with
      | .supervisory => { s.inputs with supervisory := r }
      | .computer slot => { s.inputs with computers := s.inputs.computers.set slot r }
      | .field => { s.inputs with field := r } }

/-- Whether the part takes the bytes of an input: those of a computer line in RUN (R63), those of the field
line in ADOPT and RUN (R173), those of the supervisory line always, but none while the reset line holds it
(assumption log 4). -/
def listensAt (s : State) (i : Input) : Bool :=
  !s.held &&
  match i with
  | .supervisory => true
  | .computer _ => s.partState == .run
  | .field => s.partState != .unconfigured

/-- The bytes from the next start byte on; those before it are skipped (R62, R157, R186). -/
def fromStart (i : Input) (bytes : List HeardByte) : List HeardByte :=
  bytes.dropWhile (·.2 != startByte i)

/-- A character comes to an input that has a reception in progress: a byte with a framing error only takes
time (R187), a byte that is heard may end the frame or record in progress, and then brings its row. -/
def hearChar (i : Input) (c : LineByte) (r : Reception) : Reception × Option Instr :=
  match c.byte with
  | none => ({ r with lost := r.lost + c.gap }, none)
  | some b =>
    let bytes := fromStart i (r.heard ++ [(r.lost + c.gap, b)])
    match nextRow i bytes with
    | none => ({ heard := bytes, lost := 0 }, none)
    | some (row, rest) => ({ heard := fromStart i rest, lost := 0 }, some row)

/-- A character comes to an input of the part: where the part does not listen it is skipped (R63, R173). -/
def hearAt (input : Input) (c : LineByte) (s : State) : State × Option Instr :=
  if listensAt s input then
    let (r, row) := hearChar input c (receptionAt s input)
    (setReception input r s, row)
  else (s, none)

end Sys2Proof.Machine
end

