-- ==== Sys2Proof/Machine/Pins.lean ====
section
/-! DEFINITION. The discrete inputs with their filters (R187), what the part does of itself, and what each
arrival at its inputs brings (assumption logs 2, 14 and 15). -/

namespace Sys2Proof.Machine

/-! ### Levels and filters -/

/-- The trigger input at a level from this moment on (R187): a rise after 10 ms at low begins the 10 ms at whose
end it is taken as an edge; a fall ends them. -/
def triggerAt (high : Bool) (now : Nat) (p : TriggerInput) : TriggerInput :=
  if high = p.high then p
  else
    { high, since := now
      filter := if high ∧ p.since + Config.filterTime ≤ now then some (now + Config.filterTime) else none }

/-- The reset input at a level from this moment on (R187): a rise begins the 10 ms at whose end the line is
asserted; a fall ends them. -/
def resetAt (high : Bool) (now : Nat) (p : ResetInput) : ResetInput :=
  if high = p.high then p
  else { high, filter := if high then some (now + Config.filterTime) else none }

/-- The filter of a pin takes its rise. -/
def filterTaken (pin : Pin) (s : State) : State :=
  match pin with
  | .planTrigger => { s with pins := { s.pins with trigger := { s.pins.trigger with filter := none } } }
  | .resetLine => { s with pins := { s.pins with reset := { s.pins.reset with filter := none } } }

/-- What a filter that has run out brings (R187): the assertion of the reset line, or the edge. -/
def pinEvent (s : State) : Option (Instr × State) :=
  if isDue s.now s.pins.reset.filter then some (.lineResetAssert, filterTaken .resetLine s)
  else if isDue s.now s.pins.trigger.filter then some (.planTriggerEdge, filterTaken .planTrigger s)
  else none

/-- A pin takes a level. The fall of an asserted reset line releases it (R175, R187). -/
def setLevel (pin : Pin) (high : Bool) (s : State) : State × Option Instr :=
  match pin with
  | .planTrigger => ({ s with pins := { s.pins with trigger := triggerAt high s.now s.pins.trigger } }, none)
  | .resetLine =>
    ({ s with pins := { s.pins with reset := resetAt high s.now s.pins.reset } },
      if high = false ∧ s.pins.reset.high = true ∧ s.held = true then some .lineResetRelease else none)

/-! ### What the part does of itself -/

/-- The event that the part comes to of its own accord: a filter's, or else a timer's (DESIGN CHOICE,
assumption logs 2 and 15). -/
def ownEvent (s : State) : Option (Instr × State) :=
  match pinEvent s with
  | some e => some e
  | none => (spontaneous s).map fun i => (i, s)

/-! ### Arrivals -/

/-- An arrival that waits until an event has been taken stands at the head again. -/
def putBack (a : Arrival) (s : State) : State := { s with arriving := a :: s.arriving }

/-- A millisecond of a quiet time passes; its end changes nothing. -/
def quietPasses (milliseconds : Nat) (s : State) : State :=
  match milliseconds with
  | 0 => s
  | m + 1 => putBack (.quiet m) (tick s)

/-- What an arrival brings, with the row that it completes. A level waits for a filter that has run out, a
quiet time for everything that the part does of its own accord. -/
def takeIn (a : Arrival) (s : State) : State × Option Instr :=
  match a with
  | .char input c => hearAt input c s
  | .level pin high =>
    match pinEvent s with
    | some (i, s') => (putBack a s', some i)
    | none => setLevel pin high s
  | .quiet milliseconds =>
    match ownEvent s with
    | some (i, s') => (putBack a s', some i)
    | none => (quietPasses milliseconds s, none)

end Sys2Proof.Machine
end

