-- ==== Sys2Proof/Machine/Step.lean ====
section
/-! DEFINITION. One step of the part: the front of its queue, or what it does of itself. -/

namespace Sys2Proof.Machine

/-- What the part does of its own accord while nothing waits (DESIGN CHOICE, assumption log 2). -/
def ownAct (s : State) : Host.Outcome State Fault Refusal :=
  match ownEvent s with
  | some (i, s) => exec i s
  | none => .next (tick s)

/-- An arrival is taken, and the row that it brings is run in the same event (assumption log 14). -/
def takeArrival (a : Arrival) (s : State) : Host.Outcome State Fault Refusal :=
  match takeIn a s with
  | (s, some i) => exec i s
  | (s, none) => .next s

/-- What the part does while its queue is empty: it takes the next arrival at its inputs, or acts of its
own accord. -/
def idle (s : State) : Host.Outcome State Fault Refusal :=
  match s.arriving with
  | a :: rest => takeArrival a { s with arriving := rest }
  | [] => ownAct s

/-- One step: the command or event at the front of the queue, with the queue's rest. -/
def step (s : State) : Host.Outcome State Fault Refusal :=
  match s.pending with
  | i :: rest => exec i { s with pending := rest }
  | [] => idle s

/-- The command that a word spells by the table's bits, put at the front of the queue. No row has bits
(`decodeTableWord`), so no word spells one. -/
def State.withFetchWord (s : State) (nbits w : Nat) : State :=
  match decodeTableWord nbits w with
  | some i => { s with pending := i :: s.pending }
  | none => s

end Sys2Proof.Machine
end

