-- ==== Sys2Proof/Safety.lean ====
section
/-! DEFINITION. The terms that statements about the part are written in: when a command can be taken, what
its reply adds, which rows reach which blocks, and the invariants of the blocks. -/

namespace Sys2Proof.Safety

open Sys2Proof.Machine

/-! ### Taking and answering -/

/-- The port takes this command now (R158, R163): the part is not held in reset, no reset is awaited, the
outgoing list holds fewer than 16 frames, and the command arrives at an empty queue or waits at its
head (assumption log 1). -/
abbrev Taken (kind tag : Byte) (payload : List Byte) (s : State) : Prop :=
  s.held = false ∧ s.supervisory.resetWait = .none ∧ s.supervisory.outgoing.length < 16 ∧
  (s.supervisory.queue = [] ∨ s.supervisory.queue.head? = some { kind, tag, payload })

/-- The state with the command gone from the queue and its reply at the back of the outgoing list
(R159), nothing else being changed. -/
def replied (kind tag : Byte) (code : ResultCode) (detail : Detail) (data : List Byte) (s : State) :
    State :=
  { s with supervisory := { s.supervisory with
      queue := s.supervisory.queue.tail
      outgoing := s.supervisory.outgoing ++ [.reply kind tag code detail data] } }

/-- The reply OK without data. -/
def repliedOk (kind tag : Byte) (s : State) : State := replied kind tag .ok .absent [] s

/-- A refusal: a reply with this code and nothing else (R158). -/
def refused (kind tag : Byte) (code : ResultCode) (s : State) : State := replied kind tag code .absent [] s

/-- A configuration command can take effect (R161). -/
abbrev Configurable (s : State) : Prop := s.partState = .unconfigured ∨ s.partState = .run

/-- The part is in RUN and not held in reset. -/
abbrev Running (s : State) : Prop := s.held = false ∧ s.partState = .run

/-- The length of a payload that depends on no count inside it (R184). -/
def fixedLength (kind : Byte) : Option Nat :=
  match kind.toNat with
  | 0x10 => some 13
  | 0x11 => some 15
  | 0x12 => some 6
  | 0x13 => some 2
  | 0x16 => some 2
  | 0x17 => some 1
  | 0x18 => some 0
  | 0x19 => some 0
  | 0x30 => some 1
  | 0x31 => some 1
  | 0x32 => some 1
  | 0x33 => some 1
  | 0x34 => some 3
  | 0x35 => some 1
  | 0x36 => some 1
  | 0x37 => some 1
  | 0x38 => some 1
  | 0x39 => some 2
  | 0x3A => some 1
  | 0x3B => some 0
  | 0x50 => some 1
  | 0x51 => some 1
  | 0x52 => some 0
  | 0x53 => some 0
  | 0x54 => some 0
  | 0x55 => some 0
  | 0x56 => some 0
  | 0x57 => some 0
  | 0x58 => some 0
  | _ => none

/-- The highest index or code that the first payload byte of an order may hold (R162); none for an order
whose first byte is neither. -/
def topIndex (kind : Byte) : Option Nat :=
  match kind.toNat with
  | 0x30 => some 7
  | 0x31 => some 7
  | 0x32 => some 7
  | 0x33 => some 7
  | 0x34 => some 47
  | 0x35 => some 47
  | 0x36 => some 47
  | 0x37 => some 7
  | 0x38 => some 1
  | 0x3A => some 1
  | _ => none

/-- The orders that the part state may refuse: all but RESET-PART (R161). -/
def plainOrders : List Byte := [0x30, 0x31, 0x32, 0x33, 0x34, 0x35, 0x36, 0x37, 0x38, 0x39, 0x3A]

/-- The configuration commands whose payload carries no index (R161). -/
def unindexedSettings : List Byte := [0x12, 0x13, 0x16, 0x17, 0x18, 0x19]

/-- A SET-PLAN payload as R184 lays it out. -/
def planPayload (p : PlanNo) (r : PlanRecord) : List Byte :=
  b1 p.val ++ b1 r.passCount ++ b2 r.passPeriod ++
  b1 (match r.startMode with | .immediate => 0 | .onTrigger => 1) ++
  b1 (match r.onFail with | .skip => 0 | .abort => 1) ++
  b1 (match r.overrun with | .abort => 0 | .stretch => 1) ++ b1 r.steps.length ++
  (r.steps.map fun st => b1 (stepKindCode st.kind) ++ b2 st.operand ++ b2 st.timeout).flatten

/-- A step that SET-PLAN accepts (R124, R125), as the line carries it. -/
def stepAcceptable (st : PlanStep) : Bool :=
  decide (st.timeout ≤ 3600) &&
  (match st.kind with
  | .restart => decide (st.operand ≤ 7)
  | .pause => decide (st.operand ≤ 7)
  | .resume => decide (st.operand ≤ 7)
  | .wait => decide (1 ≤ st.operand) && decide (st.operand ≤ 65535)
  | .waitTrigger => decide (st.operand ≤ 65535)
  | .awaitCredit => decide (st.operand ≤ 60000)
  | .mark => decide (st.operand ≤ 255))

/-- A plan record that SET-PLAN accepts (R123, R125), as the line carries it. -/
def planAcceptable (r : PlanRecord) : Bool :=
  decide (r.steps.length ≤ 24) && decide (r.passCount ≤ 15) && decide (r.passPeriod ≤ 3600) &&
  r.steps.all stepAcceptable

/-- A step as it is stored (R125): a WAIT operand above 3600 as 3600, a WAIT-TRIGGER operand as 0. -/
def storedStep (st : PlanStep) : PlanStep :=
  match st.kind with
  | .wait => { st with operand := min st.operand 3600 }
  | .waitTrigger => { st with operand := 0 }
  | _ => st

/-- The reply frames of the outgoing list, in order. -/
def repliesOf (l : List OutFrame) : List OutFrame :=
  l.filter fun f =>
    match f with
    | .reply _ _ _ _ _ => true
    | _ => false

/-- The counter after one count under a source (R169). -/
def countedOnce (source : CounterSource) (s : State) : Nat :=
  if s.cfg.counterSource = source ∧ source ≠ .none then min 255 (s.counter + 1) else s.counter

/-- The charge for a rise of g of a channel as it stands: the start cost where its driven value is 0, and its
weight for each pm (R36, R37). -/
def chargeFor (s : State) (c : Chan) (g : Nat) : Nat :=
  (if s.channels[c].driven.getD 0 = 0 then s.cfg.channels[c].startCost else 0) +
    s.cfg.channels[c].weight * g

/-- The charge for a run of entries that are granted in full. -/
def chargeInFull (s : State) (entries : List AdmissionEntry) : Nat :=
  (entries.map fun e => chargeFor s e.channel e.wanted).sum

/-- An owner that leaves its channels in FALLBACK: none, or a slot in VACANT, LOST, PAUSED or FAULT (R4). -/
def leavesFallback (s : State) : Option Slot → Bool
  | none => true
  | some k =>
    match s.contexts[k].state with
    | .vacant | .lost | .paused | .fault => true
    | _ => false

/-- An unforced, adopted LIGHT channel in FALLBACK that follows the daylight table (R54). -/
def followsDaylight (s : State) (c : Chan) : Prop :=
  s.channels[c].adopted = true ∧ s.channels[c].forced = none ∧ s.channels[c].mode = .fallback ∧
  s.cfg.channels[c].kind = .light ∧ s.cfg.channels[c].fallbackKind = .daylight ∧
  leavesFallback s s.cfg.channels[c].owner = true

/-- The channels that put a rise request at a step expiry, ascending (R9). -/
def risers (s : State) : List Chan :=
  allChannels.filter fun c =>
    s.channels[c].adopted && !s.channels[c].driveFault &&
    (match s.channels[c].driven, s.channels[c].target with
    | some d, some t => decide (d < t)
    | _, _ => false)

/-- The wanted rise of a channel at a step expiry (R9). -/
def stepRise (s : State) (c : Chan) : Nat :=
  min (s.channels[c].target.getD 0 - s.channels[c].driven.getD 0) (stepSize s.cfg.channels[c])

/-- The channels that fall at a step expiry, ascending (R8). -/
def fallers (s : State) : List Chan :=
  allChannels.filter fun c =>
    s.channels[c].adopted &&
    (match s.channels[c].driven, s.channels[c].target with
    | some d, some t => decide (t < d)
    | _, _ => false)

/-- A send list into which each of these channels, in this order, has put a SET record of the driven value
that it has in `t` (R12): a waiting record of the channel takes the value in its place, the others join at
the back. -/
def recordsPut (moved : List Chan) (t : State) (l : List SetRecord) : List SetRecord :=
  (l.map fun r =>
    if r.channel ∈ moved then { r with value := t.channels[r.channel].driven.getD 0 } else r) ++
  (moved.filter fun c => l.all (·.channel != c)).map fun c =>
    { channel := c, value := t.channels[c].driven.getD 0 }

/-- A channel's start-confirm timer after a grant: started for 5 s where the rise begins at 0 (R11, R15). -/
def confirmAfterGrant (s : State) (c : Chan) : Option Nat :=
  if s.channels[c].driven.getD 0 = 0 then some (s.now + 5000) else s.channels[c].startConfirm

/-- The EVENT notice made from the event set as it stands (R166). -/
def noticeOf (s : State) : OutFrame :=
  .eventNotice (eventKinds.filterMap fun k =>
    if s.events[eventIndex k].latched = true ∧ s.cfg.mask[eventIndex k] = false then
      some (k, s.events[eventIndex k].item)
    else none)

/-- The outgoing list after one report of the kind with this index takes the part from `s` to `t` (R165,
R166): a first latching of an unmasked kind brings the waiting notice up to date in its place, or places one
at the back; any other calls for none. -/
def noticeAfter (i : Fin 16) (s t : State) : List OutFrame :=
  if s.events[i].latched = true ∨ s.cfg.mask[i] = true then s.supervisory.outgoing
  else if s.supervisory.outgoing.any isNotice = true then
    s.supervisory.outgoing.map fun f => if isNotice f then noticeOf t else f
  else s.supervisory.outgoing ++ [noticeOf t]

/-- One byte of a payload, and a number of two bytes, the high one first (R184). -/
def byteAt (payload : List Byte) (n : Nat) : Nat := (payload.getD n 0).toNat

def numberAt (payload : List Byte) (n : Nat) : Nat := byteAt payload n * 256 + byteAt payload (n + 1)

/-- The fields of a SET-COMPUTER payload of 13 bytes that lie out of range (R75, R103). -/
def computerRefused (p : List Byte) : Prop :=
  1 < byteAt p 1 ∨ 1 < byteAt p 2 ∨ (byteAt p 3 ≠ 1 ∧ byteAt p 3 ≠ 2) ∨
  numberAt p 4 < 200 ∨ 5000 < numberAt p 4 ∨ numberAt p 4 % 100 ≠ 0 ∨ 7 < byteAt p 6 ∨
  (0 < numberAt p 7 ∧ numberAt p 7 < 10) ∨ 600 < numberAt p 7 ∨ byteAt p 9 = 0 ∨ 15 < byteAt p 9 ∨
  1 < byteAt p 10 ∨ 2 < byteAt p 11 ∨ 1 < byteAt p 12

/-- The fields of a SET-CHANNEL payload of 15 bytes that lie out of range, or DAYLIGHT without LIGHT (R1,
R22). -/
def channelRefused (p : List Byte) : Prop :=
  1 < byteAt p 1 ∨ (byteAt p 2 ≠ 1 ∧ byteAt p 2 ≠ 2) ∨ (7 < byteAt p 3 ∧ byteAt p 3 ≠ 255) ∨
  numberAt p 4 = 0 ∨ 1000 < numberAt p 4 ∨ 100 < byteAt p 6 ∨ 30000 < numberAt p 8 ∨ 2 < byteAt p 10 ∨
  1000 < numberAt p 11 ∨ 1000 < numberAt p 13 ∨ (byteAt p 10 = 2 ∧ byteAt p 1 = 0)

/-- A SET-DAYLIGHT payload of the length that its count N asks for, with a count or a number out of range or
thresholds that do not rise from 0 (R49, R50). -/
def daylightRefused (p : List Byte) : Prop :=
  byteAt p 0 = 0 ∨ 8 < byteAt p 0 ∨ numberAt p 1 ≠ 0 ∨ 10000 < numberAt p (1 + 4 * byteAt p 0) ∨
  (∃ i < byteAt p 0, 65000 < numberAt p (1 + 2 * i) ∨ 1000 < numberAt p (1 + 2 * (byteAt p 0 + i))) ∨
  (∃ i < byteAt p 0, i + 1 < byteAt p 0 ∧ numberAt p (3 + 2 * i) ≤ numberAt p (1 + 2 * i))

/-- The settings of a SET-PLAN payload that lie out of range (R123, R125). -/
def settingsRefused (p : List Byte) : Prop :=
  24 < byteAt p 7 ∨ 15 < byteAt p 1 ∨ 3600 < numberAt p 2 ∨ 1 < byteAt p 4 ∨ 1 < byteAt p 5 ∨ 1 < byteAt p 6

/-- Step i of a SET-PLAN payload names no kind, or its operand or timeout lies out of range (R124, R125). -/
def stepRefused (p : List Byte) (i : Nat) : Prop :=
  6 < byteAt p (8 + 5 * i) ∨ 3600 < numberAt p (11 + 5 * i) ∨
  (byteAt p (8 + 5 * i) ≤ 2 ∧ 7 < numberAt p (9 + 5 * i)) ∨
  (byteAt p (8 + 5 * i) = 3 ∧ numberAt p (9 + 5 * i) = 0) ∨
  (byteAt p (8 + 5 * i) = 5 ∧ 60000 < numberAt p (9 + 5 * i)) ∨
  (byteAt p (8 + 5 * i) = 6 ∧ 255 < numberAt p (9 + 5 * i))

/-- The clock at the expiry of a timer that runs out at this time (assumption log 2). -/
def clockAt (deadline : Nat) (s : State) : Nat := max s.now deadline

/-! ### Which rows reach which blocks -/

/-- The row that a frame or an unknown kind stands for: the command it names (R157, R158). -/
def rowMeant : Instr → Instr
  | .supervisoryFrameReceived kind tag payload => commandOf kind tag payload
  | .unknownCommand kind tag payload => commandOf kind tag payload
  | i => i

/-- The rows that a reset may come with, or, at the sending of a frame, the taking of a waiting command
(R158, R163, R175). -/
def mayReset : Instr → Bool
  | .powerReset | .lineResetAssert | .lineResetRelease | .commandReset | .supervisoryFrameSent => true
  | _ => false

/-- The rows that replace part of the working configuration (R161). -/
def configures : Instr → Bool
  | .setComputer _ _ | .setChannel _ _ | .setBudget _ _ | .setWindow _ _ | .setDaylight _ _
  | .setPlan _ _ | .setEventMask _ _ | .setCounterSource _ _ => true
  | _ => false

/-- The rows that act on the configuration store (R177, R178). -/
def actsOnStore : Instr → Bool
  | .storeConfig _ _ | .storeWriteCompletion _ => true
  | _ => false

/-- The rows by which the part changes its part state outside a reset (R173). -/
def movesPart : Instr → Bool
  | .commission _ _ | .stateRecord _ _ _ | .adoptionTimer => true
  | _ => false

/-- Rows of the plant: the channels, the supply, the daylight table and the field line. -/
def rowOfPlant : Instr → Bool
  | .setChannel _ _ | .setBudget _ _ | .setDaylight _ _ | .force _ _ | .unforce _ _ | .clearFault _ _
  | .luminance _ _ | .feed _ _ | .fieldRecordDiscard | .fieldGap | .fieldLineFree | .answerWindow
  | .answerPeriod | .stepTimer | .startConfirmTimer _ | .starvationTimer _ | .ageTimer => true
  | _ => false

/-- Rows of the computers: their lines and timers, restarts and plans. -/
def rowOfComputers : Instr → Bool
  | .setComputer _ _ | .setWindow _ _ | .restart _ _ | .cancelRestart _ _ | .pause _ _ | .resume _ _
  | .planStart _ _ | .planStop _ _ | .demand _ _ _ _ | .hello _ _ | .imageOk _ _ _
  | .imageReject _ _ _ _ | .computerFrameDiscard _ _ | .computerGap _ | .computerOrderSent _
  | .reportTimer _ | .settleTimer _ | .helloTimer _ | .imageTimer _ | .trackTimer _ | .planStepTimer
  | .passTimer | .planTriggerEdge => true
  | _ => false

/-! ### Quiet executors and windows

Premises under which an event of one slot reaches no plan and no other slot. -/

/-- No plan executes. -/
abbrev NoPlan (s : State) : Prop := s.executor.state = .idle

/-- Nothing waits for a window slot. -/
abbrev NoneWaiting (s : State) : Prop := s.window.waitList = []

/-- The port of a computer has this reception, and these characters are still to come. -/
def withReception (k : Slot) (r : Reception) (rest : List Arrival) (s : State) : State :=
  { s with arriving := rest, inputs := { s.inputs with computers := s.inputs.computers.set k r } }

/-- An executor as the start of a WAIT step at this moment leaves it (R131, R139). -/
def waitingAt (i : Nat) (st : PlanStep) (now : Nat) (x : Executor) : Executor :=
  { x with
    state := .running, step := some i
    watch := { outcome := none, ordered := false, resumed := false }
    stepTimer := some (now + st.operand * 1000) }

/-- An executor as the start of a step leaves it that goes on to wait for its outcome, with this watch record
and its timeout running if it has one (R127, R139). -/
def awaiting (i : Nat) (st : PlanStep) (outcome : Option RestartOutcome) (ordered resumed : Bool) (now : Nat)
    (x : Executor) : Executor :=
  { x with
    state := .running, step := some i, watch := { outcome, ordered, resumed }
    stepTimer := if st.timeout = 0 then none else some (now + st.timeout * 1000) }

/-- The start of a RESTART step for a slot that is not VACANT (R110, R114, R128): attached to a restart in
progress, queued in the slot's entry or in a new one behind a full window, or issued. -/
def restartBegins (p : PlanNo) (i : Nat) (st : PlanStep) (k : Slot) (s t : State) : Prop :=
  (s.contexts[k].inProgress = true →
    t = { s with executor := awaiting i st (some .attached) true false s.now s.executor }) ∧
  (s.contexts[k].inProgress = false → isWaiting s k = true →
    t = { s with
      executor := awaiting i st (some .queued) false false s.now s.executor
      window := { s.window with waitList := s.window.waitList.map fun e =>
        if e.slot = k then joinEntry (.plan p) e else e } }) ∧
  (s.contexts[k].inProgress = false → isWaiting s k = false → s.contexts[k].state ≠ .vacant →
    ((limitOf s (boreOf s k) ≤ countOf s (boreOf s k) ∨ boreWaits s (boreOf s k) = true) →
      t.executor = awaiting i st (some .queued) false false s.now s.executor ∧
      t.contexts = s.contexts ∧ t.ports = s.ports ∧
      t.window = { s.window with waitList := s.window.waitList ++
        [{ slot := k, source := .plan, plan := some p, mark := false, since := s.now }] } ∧
      t.events[(5 : Fin 16)] = { latched := true, item := some (.slot k) }) ∧
    (countOf s (boreOf s k) < limitOf s (boreOf s k) → boreWaits s (boreOf s k) = false →
      s.contexts[k].state ≠ .settle → s.ports[k].sendList.length < 7 →
      t.executor = awaiting i st (some .issued) true false s.now s.executor ∧
      t.contexts[k].state = .settle ∧ t.contexts[k].inProgress = true ∧
      countOf t (boreOf s k) = countOf s (boreOf s k) + 1 ∧ t.window.waitList = s.window.waitList ∧
      t.ports[k].sendList = s.ports[k].sendList ++
        (if s.contexts[k].state = .control then [.revoke .order] else []) ++
        [.restart s.cfg.computers[k].settleCode]))

/-- The start of a PAUSE step for a slot that may be paused, and of a RESUME step for one in PAUSED (R99, R101,
R129, R130): the pause has completed its step, and a WAIT follows it; the resumption waits for CONTROL. -/
def pauseBegins (i : Nat) (next : PlanStep) (k : Slot) (s t : State) : Prop :=
  t.contexts[k].state = .paused ∧ t.executor = waitingAt (i + 1) next s.now s.executor ∧
  t.ports[k].sendList = s.ports[k].sendList ++
    (if s.contexts[k].state = .control then [.revoke .pause] else []) ++ [.pause] ∧
  t.window = s.window ∧ ∀ j : Slot, j ≠ k → t.contexts[j] = s.contexts[j]

def resumeBegins (i : Nat) (st : PlanStep) (k : Slot) (s t : State) : Prop :=
  t.contexts[k].state = .track ∧ t.contexts[k].trackCause = some .resumed ∧
  t.executor = awaiting i st none false true s.now s.executor ∧
  t.ports[k].sendList = s.ports[k].sendList ++ [.resume] ∧
  t.window = s.window ∧ ∀ j : Slot, j ≠ k → t.contexts[j] = s.contexts[j]

/-- After the failure of step i nothing further starts than a WAIT: the plan ends, or a WAIT follows. -/
abbrev FailureRests (r : PlanRecord) (i : Nat) : Prop :=
  r.onFail = .abort ∨ (r.onFail = .skip ∧ ∃ next, r.steps[i + 1]? = some next ∧ next.kind = .wait)

/-- A step has failed (R141, R148): under ABORT the plan has ended, under SKIP the WAIT behind it has begun. -/
def stepFails (r : PlanRecord) (i : Nat) (item : Option Item) (s t : State) : Prop :=
  t.events[(9 : Fin 16)] = { latched := true, item } ∧
  (r.onFail = .abort → t.events[(7 : Fin 16)] = { latched := true, item := none } ∧
    t.executor = { s.executor with
      state := .idle, step := none, pendingStop := .none, stretched := false
      watch := { outcome := none, ordered := false, resumed := false }
      skipped := min 255 (s.executor.skipped + 1)
      lastResult := .abortedFail, passTimer := none, stepTimer := none }) ∧
  (∀ next, r.onFail = .skip → r.steps[i + 1]? = some next →
    t.executor = { waitingAt (i + 1) next s.now s.executor with
      skipped := min 255 (s.executor.skipped + 1) })

/-- What the start of step i of a plan leads to (R128 to R133, R139 to R141). A step that is decided at its
start goes on to the step behind it, here a WAIT. -/
def stepBegins (p : PlanNo) (i : Nat) (st : PlanStep) (s t : State) : Prop :=
  (st.kind = .wait → t = { s with executor := waitingAt i st s.now s.executor }) ∧
  ((st.kind = .waitTrigger ∨ (st.kind = .awaitCredit ∧ s.admission.credit < st.operand)) →
    t = { s with executor := awaiting i st none false false s.now s.executor }) ∧
  (∀ next, s.cfg.plans[p].steps[i + 1]? = some next → next.kind = .wait →
    (st.kind = .awaitCredit → st.operand ≤ s.admission.credit →
      t = { s with executor := waitingAt (i + 1) next s.now s.executor }) ∧
    (st.kind = .mark → t = { s with
      executor := { waitingAt (i + 1) next s.now s.executor with lastMark := some st.operand }
      supervisory :=
        if s.supervisory.outgoing.length < 31 then
          { s.supervisory with outgoing := s.supervisory.outgoing ++
            [.planMark p (min 65535 (s.executor.passes + 1)) i st.operand] }
        else { s.supervisory with noticesLost := min 65535 (s.supervisory.noticesLost + 1) } }) ∧
    (∀ k : Slot, st.kind = .pause → st.operand = k.val → pausable s.contexts[k] = true →
      s.ports[k].sendList.length < 7 → pauseBegins i next k s t)) ∧
  (∀ k : Slot, st.operand = k.val →
    (st.kind = .restart → restartBegins p i st k s t) ∧
    (st.kind = .resume → s.contexts[k].state = .paused → s.ports[k].sendList.length < 8 →
      resumeBegins i st k s t) ∧
    (((st.kind = .restart ∧ s.contexts[k].inProgress = false ∧ isWaiting s k = false ∧
          s.contexts[k].state = .vacant) ∨
        (st.kind = .pause ∧ pausable s.contexts[k] = false) ∨
        (st.kind = .resume ∧ s.contexts[k].state ≠ .paused)) → FailureRests s.cfg.plans[p] i →
      stepFails s.cfg.plans[p] i (some (.slot k)) s t ∧ t.contexts = s.contexts ∧ t.ports = s.ports))

/-- The executor runs this step of this plan. -/
abbrev RunsStep (p : PlanNo) (i : Nat) (st : PlanStep) (s : State) : Prop :=
  s.executor.state = .running ∧ s.executor.plan = some p ∧ s.executor.step = some i ∧
  s.cfg.plans[p].steps[i]? = some st

/-- Every counted channel of a slot matches after a report with these pairs, and stands then at the required
matches (R67, R86, R87). -/
abbrev Agrees (k : Slot) (pairs : List (Nat × Nat)) (s : State) : Prop :=
  ∀ c : Chan, owns s k c = true → isCounted s c = true →
    matching s.cfg.channels[c] { s.channels[c] with
      demand := match (pairs.filter fun p => p.1 == c.val).getLast? with
        | some p => some (min p.2 1000)
        | none => s.channels[c].demand } = true ∧
    s.cfg.computers[k].requiredMatches ≤ min 15 (s.channels[c].matchCount + 1)

/-- No filter of a discrete input has run out (R187). -/
abbrev FiltersOpen (s : State) : Prop :=
  ∀ d, s.pins.trigger.filter = some d ∨ s.pins.reset.filter = some d → s.now < d

/-- What the failure of a slot's attempt leads to (R97, R98, R110, R115). Below the seventh failure, with the
flag set, RESTART is sent again and the slot enters SETTLE; with the flag clear it enters LOST and a RECOVERY
request follows, joined to the slot's entry where it waits, appended with WINDOW_WAIT where the bore has no
room, else issued. The seventh failure takes it to FAULT with COMPUTER_FAULT latched, and a RESTART step that
names the slot fails (R142). -/
def attemptFails (k : Slot) (s t : State) : Prop :=
  t.events[(2 : Fin 16)] = { latched := true, item := some (.slot k) } ∧
  (s.contexts[k].inProgress = true → s.contexts[k].failures < 6 → t.window = s.window ∧
    t.contexts = s.contexts.set k { s.contexts[k] with
      state := .settle, phase := none, failures := s.contexts[k].failures + 1, trackCause := none
      settleTimer :=
        some (s.now + settleSeconds s.cfg.computers[k].settleCode * 1000)
      helloTimer := none, imageTimer := none, trackTimer := none } ∧
    t.ports[k].sendList = s.ports[k].sendList ++ [.restart s.cfg.computers[k].settleCode] ∧
    t.supervisory.outgoing = noticeAfter 2 s t) ∧
  (s.contexts[k].inProgress = false → s.contexts[k].failures < 6 →
    t.contexts[k].failures = s.contexts[k].failures + 1 ∧ t.ports[k].reportTimer = none ∧
    (isWaiting s k = true → t.contexts[k].state = .lost ∧
      t.ports[k].sendList = s.ports[k].sendList ∧
      t.window = { s.window with waitList := s.window.waitList.map fun e =>
        if e.slot = k then joinEntry .recovery e else e }) ∧
    (isWaiting s k = false →
      (limitOf s (boreOf s k) ≤ countOf s (boreOf s k) ∨ boreWaits s (boreOf s k) = true) →
      t.contexts[k].state = .lost ∧ t.ports[k].sendList = s.ports[k].sendList ∧
      t.window = { s.window with waitList := s.window.waitList ++
        [{ slot := k, source := .recovery, plan := none, mark := false
           since := s.now }] } ∧
      t.events[(5 : Fin 16)] = { latched := true, item := some (.slot k) }) ∧
    (isWaiting s k = false → countOf s (boreOf s k) < limitOf s (boreOf s k) →
      boreWaits s (boreOf s k) = false →
      t.contexts[k].state = .settle ∧ t.contexts[k].inProgress = true ∧
      countOf t (boreOf s k) = countOf s (boreOf s k) + 1 ∧
      t.ports[k].sendList = s.ports[k].sendList ++ [.restart s.cfg.computers[k].settleCode])) ∧
  (s.contexts[k].failures = 6 → NoPlan s →
    (∀ e ∈ s.window.waitList, e.slot = k → e.source = .recovery) →
    t.contexts[k] = { s.contexts[k] with
      state := .fault, phase := none, failures := 7, inProgress := false, trackCause := none
      settleTimer := none, helloTimer := none, imageTimer := none, trackTimer := none } ∧
    t.events[(3 : Fin 16)] = { latched := true, item := some (.slot k) } ∧
    t.ports[k].sendList = s.ports[k].sendList ∧ t.ports[k].reportTimer = none ∧
    (∀ e ∈ t.window.waitList, e.slot ≠ k) ∧
    (NoneWaiting s → countOf t (boreOf s k) =
      countOf s (boreOf s k) - (if s.contexts[k].inProgress = true then 1 else 0)) ∧
    ∀ c : Chan, owns s k c = true → s.channels[c].adopted = true → s.channels[c].forced = none →
      t.channels[c].mode = .fallback) ∧
  (s.contexts[k].failures = 6 → NoneWaiting s → ∀ p i st, RunsStep p i st s →
    (st.kind = .restart → st.operand = k.val → FailureRests s.cfg.plans[p] i →
      t.contexts[k].failures = 7 ∧ t.events[(3 : Fin 16)] = { latched := true, item := some (.slot k) } ∧
      stepFails s.cfg.plans[p] i (some (.slot k)) s t) ∧
    ((st.kind ≠ .restart ∨ st.operand ≠ k.val) → t.contexts[k].failures = 7 ∧
      t.events[(3 : Fin 16)] = { latched := true, item := some (.slot k) } ∧ t.executor = s.executor))

/-! ### Invariants -/

/-- Outside RUN no slot is past LOST or VACANT, nothing waits, no plan executes (R107, R122, R155). -/
def Dormant (s : State) : Prop :=
  s.partState ≠ .run →
    (∀ k : Slot, (s.contexts[k].state = .vacant ∨ s.contexts[k].state = .lost) ∧
      s.contexts[k].inProgress = false) ∧
    s.window.waitList = [] ∧ s.executor.state = .idle

/-- The slots of a bore whose restart-in-progress flag is set. -/
def inProgressOf (s : State) (b : Bore) : List Slot :=
  allSlots.filter fun k => s.contexts[k].inProgress && boreOf s k == b

/-- R108: each bore's in-progress count is the number of its slots whose flag is set, and it does not
exceed the bore's window limit; the flag is set only in SETTLE, JOIN and TRACK (R76). -/
def WindowLaw (s : State) : Prop :=
  Dormant s ∧
  (∀ b : Bore, countOf s b = (inProgressOf s b).length ∧ countOf s b ≤ limitOf s b) ∧
  ∀ k : Slot, s.contexts[k].inProgress = true →
    s.contexts[k].state = .settle ∨ s.contexts[k].state = .join ∨ s.contexts[k].state = .track

/-- R97: attempt failures lie between 0 and 7, and are 7 exactly in FAULT; R102: a slot is VACANT exactly
while it is disabled. -/
def FailureLaw (s : State) : Prop :=
  ∀ k : Slot, s.contexts[k].failures ≤ 7 ∧
    (s.contexts[k].failures = 7 ↔ s.contexts[k].state = .fault) ∧
    (s.contexts[k].state = .vacant ↔ s.cfg.computers[k].enabled = false)

/-- R76: the phase is present exactly in JOIN, the track cause exactly in TRACK and CONTROL, and each
context timer runs only in its state; R68: the report timer runs exactly in TRACK and CONTROL. -/
def ContextLaw (s : State) : Prop :=
  ∀ k : Slot,
    (s.contexts[k].phase.isSome ↔ s.contexts[k].state = .join) ∧
    (s.contexts[k].trackCause.isSome ↔
      (s.contexts[k].state = .track ∨ s.contexts[k].state = .control)) ∧
    (s.contexts[k].settleTimer.isSome → s.contexts[k].state = .settle) ∧
    (s.contexts[k].helloTimer.isSome → s.contexts[k].phase = some .hello) ∧
    (s.contexts[k].imageTimer.isSome → s.contexts[k].phase = some .image) ∧
    (s.contexts[k].trackTimer.isSome → s.contexts[k].state = .track) ∧
    (s.ports[k].reportTimer.isSome ↔
      (s.contexts[k].state = .track ∨ s.contexts[k].state = .control))

/-- A mask that leaves COMPUTER_FAULT, DRIVE_FAULT and STORE_FAILED unmasked (R164). -/
def maskLawful (c : WorkingConfig) : Prop :=
  c.mask[(3 : Fin 16)] = false ∧ c.mask[(11 : Fin 16)] = false ∧ c.mask[(15 : Fin 16)] = false

/-- R164: the mask flag of a non-maskable kind is always clear, in the working configuration and in what
the store holds or is being given. -/
def MaskLaw (s : State) : Prop :=
  maskLawful s.cfg ∧ maskLawful s.store.image.config ∧
  ∀ image, s.store.writing = some image → maskLawful image.config

/-- R27: credit does not stand above the current cap; outside RUN the feed state is BOTH (R44). -/
def CreditLaw (s : State) : Prop :=
  s.admission.credit ≤ currentCap s ∧ (s.partState ≠ .run → s.admission.feed = .both)

/-- R156, R160, R71, R109, R31, R12: the command queue holds at most 4 frames, the outgoing list at most one
EVENT notice and at most 31 frames beside it, each computer's send list at most 8 orders, the wait list one
entry for a slot (so at most 8), the admission queue and the field send list one for a channel (so at most
48 each). R158: a command waits only while the port cannot take one. -/
def CapacityLaw (s : State) : Prop :=
  s.supervisory.queue.length ≤ 4 ∧
  (s.supervisory.outgoing.filter isNotice).length ≤ 1 ∧
  (s.supervisory.outgoing.filter fun f => !isNotice f).length ≤ 31 ∧
  (∀ k : Slot, s.ports[k].sendList.length ≤ 8) ∧
  ((s.window.waitList.map (·.slot)).Nodup ∧ s.window.waitList.length ≤ 8) ∧
  ((s.admission.queue.map (·.channel)).Nodup ∧ s.admission.queue.length ≤ 48) ∧
  ((s.field.sendList.map (·.channel)).Nodup ∧ s.field.sendList.length ≤ 48) ∧
  (s.supervisory.queue ≠ [] → portFree s = false)

/-- A configuration whose fallback values, zone factors and stage levels lie between 0 and 1000 (R1,
R49). -/
def targetsLawful (c : WorkingConfig) : Prop :=
  (∀ k : Chan, c.channels[k].fallbackValue ≤ 1000 ∧ c.channels[k].zoneFactor ≤ 1000) ∧
  ∀ st ∈ c.daylight.stages, st.level ≤ 1000

/-- A channel record whose values lie in their ranges and agree with its adopted flag (R2). -/
def recordLawful (ch : ChannelRun) : Prop :=
  (∀ m, ch.demand = some m → m ≤ 1000) ∧ (∀ f, ch.forced = some f → f ≤ 1000) ∧
  (ch.adopted = true → ∃ d t, ch.driven = some d ∧ ch.target = some t ∧ d ≤ 1000 ∧ t ≤ 1000) ∧
  (ch.adopted = false → ch.driven = none ∧ ch.target = none ∧ ch.mode = .unadopted)

/-- An admission entry wants at least 1 pm and never past its channel's target (R31, R38). -/
def entryLawful (s : State) (e : AdmissionEntry) : Prop :=
  s.channels[e.channel].adopted = true ∧ 1 ≤ e.wanted ∧
  ∃ d t, s.channels[e.channel].driven = some d ∧ s.channels[e.channel].target = some t ∧
    d + e.wanted ≤ t

/-- R2, R31, R38: driven values and targets of adopted channels lie between 0 and 1000, one entry at most
stands for each channel, and no entry wants a rise past its channel's target. -/
def PlantLaw (s : State) : Prop :=
  targetsLawful s.cfg ∧ targetsLawful s.store.image.config ∧
  (∀ image, s.store.writing = some image → targetsLawful image.config) ∧
  (∀ c : Chan, recordLawful s.channels[c]) ∧
  (s.admission.queue.map (·.channel)).Nodup ∧ ∀ e ∈ s.admission.queue, entryLawful s e

end Sys2Proof.Safety
end

