-- ==== Sys2Proof/Certificates/Slice0/Obligations.lean ====
section
/-! DEFINITION. The statements about the part. `Taken` and the invariants stand in Safety.lean. A
statement that gives the next state as an equation says with it that everything it does not name is
unchanged. Every deadline is read on the model's clock (assumption log 2). -/

open Sys2Proof Sys2Proof.Machine Sys2Proof.Safety

/-! ### The queue and the taking of commands -/

/-- The front of the queue is run with the queue's rest (the model's queue, assumption log 1). -/
def Obligations.StepRunsFront : Prop :=
  ∀ (c : Instr) (rest : List Instr) (s : State), s.pending = c :: rest →
    step s = exec c { s with pending := rest }

/-- What only its own rows change (R161, R173 to R178): a row that no reset comes with leaves the reset kind
and the hold as they are; only a configuration command replaces the working configuration, only COMMISSION the
flag, only STORE-CONFIG and the end of a write the store, and only COMMISSION and the end of adoption the part
state. A frame counts as the command that it is, for a free port takes it as it arrives (R158); the sending of
a frame counts as no such row where no command waits and no reset is due. No row touches the model's queues
behind it (assumption logs 1 and 14) or the levels and filters of the discrete inputs (assumption log 15), and
only a reset and the entry to RUN the receptions in progress (R63). -/
def Obligations.OnlyTheirRowsChange : Prop :=
  ∀ (i : Instr) (s t : State), exec i s = .next t →
    t.pending = s.pending ∧ t.arriving = s.arriving ∧ t.pins = s.pins ∧
    ((mayReset i = false ∨ (i = .supervisoryFrameSent ∧ s.supervisory.queue = [] ∧
        s.supervisory.resetWait ≠ .replySending)) →
      t.lastReset = s.lastReset ∧ t.held = s.held ∧
      (configures (rowMeant i) = false → t.cfg = s.cfg) ∧
      (actsOnStore (rowMeant i) = false → t.store = s.store) ∧
      (movesPart (rowMeant i) = false → t.partState = s.partState ∧ t.inputs = s.inputs) ∧
      ((∀ tag payload, rowMeant i ≠ .commission tag payload) → t.commissioned = s.commissioned))

/-- What the blocks leave to one another (spec/00, section 3): a row of the plant leaves every computer
context, port, window and the executor as they are; a row of the computers leaves the daylight table, the
feed state, the plant's timers, and of every channel its adopted flag, forced value, drive fault and run
state. -/
def Obligations.BlocksKeepToTheirRows : Prop :=
  ∀ (i : Instr) (s t : State), exec i s = .next t →
    (rowOfPlant i = true → t.contexts = s.contexts ∧ t.ports = s.ports ∧ t.window = s.window ∧
      t.executor = s.executor) ∧
    (rowOfComputers i = true → t.daylight = s.daylight ∧ t.stepTimer = s.stepTimer ∧
      t.adoptionTimer = s.adoptionTimer ∧ t.admission.feed = s.admission.feed ∧
      t.admission.refillTimer = s.admission.refillTimer ∧ t.field.window = s.field.window ∧
      t.field.period = s.field.period ∧
      ∀ c : Chan, t.channels[c].adopted = s.channels[c].adopted ∧
        t.channels[c].forced = s.channels[c].forced ∧
        t.channels[c].driveFault = s.channels[c].driveFault ∧
        t.channels[c].runState = s.channels[c].runState)

/-- R159: a taken command of any kind receives exactly one reply, carrying its kind and its tag. -/
def Obligations.TakenCommandHasOneReply : Prop :=
  ∀ (kind tag : Byte) (payload : List Byte) (s : State), Taken kind tag payload s →
    ∃ (t : State) (code : ResultCode) (detail : Detail) (data : List Byte),
      exec (commandOf kind tag payload) s = .next t ∧
      repliesOf t.supervisory.outgoing =
        repliesOf s.supervisory.outgoing ++ [.reply kind tag code detail data]

/-- R158, checks 1 and 2: a kind that names no command is answered UNKNOWN_COMMAND, and a payload of another
length than its kind asks for, or its declared count, BAD_LENGTH, in every part state, and nothing else
changes. -/
def Obligations.FrameLevelRefusals : Prop :=
  (∀ (kind tag : Byte) (payload : List Byte) (s : State), commandKinds.contains kind = false →
      Taken kind tag payload s →
      exec (.unknownCommand kind tag payload) s = .next (refused kind tag .unknownCommand s)) ∧
  (∀ (kind tag : Byte) (payload : List Byte) (n : Nat) (s : State), fixedLength kind = some n →
      payload.length ≠ n → Taken kind tag payload s →
      exec (commandOf kind tag payload) s = .next (refused kind tag .badLength s)) ∧
  (∀ (tag : Byte) (payload : List Byte) (s : State),
      (Taken 0x14 tag payload s → payload.length ≠ 3 + 4 * (payload.headD 0).toNat →
        exec (.setDaylight tag payload) s = .next (refused 0x14 tag .badLength s)) ∧
      (Taken 0x15 tag payload s →
        (payload.length < 8 ∨ payload.length ≠ 8 + 5 * ((payload.drop 7).headD 0).toNat) →
        exec (.setPlan tag payload) s = .next (refused 0x15 tag .badLength s)))

/-- R161, R162: an order whose index or code is above its range is refused with OUT_OF_RANGE in every part
state; one in range is refused with UNCONFIGURED in UNCONFIGURED and with ADOPTING in ADOPT; nothing else
changes. That the code of FEED is checked ahead of the part state is the model's reading (assumption log
7). -/
def Obligations.OrdersCheckIndexThenPartState : Prop :=
  (∀ (kind tag : Byte) (payload : List Byte) (top : Nat) (s : State), topIndex kind = some top →
      fixedLength kind = some payload.length → top < (payload.headD 0).toNat →
      Taken kind tag payload s →
      exec (commandOf kind tag payload) s = .next (refused kind tag .outOfRange s)) ∧
  (∀ (kind tag : Byte) (payload : List Byte) (s : State), plainOrders.contains kind = true →
      fixedLength kind = some payload.length →
      (∀ top, topIndex kind = some top → (payload.headD 0).toNat ≤ top) → Taken kind tag payload s →
      (s.partState = .unconfigured →
        exec (commandOf kind tag payload) s = .next (refused kind tag .unconfigured s)) ∧
      (s.partState = .adopt →
        exec (commandOf kind tag payload) s = .next (refused kind tag .adopting s)))

/-- R161: in ADOPT a configuration command of the right length, its index in range where it has one, is
refused with ADOPTING and changes nothing else. That SET-COUNTER-SOURCE with a code above 9 is answered so
too is the model's reading (assumption log 7). -/
def Obligations.SettingsWaitForAdoption : Prop :=
  ∀ (kind tag : Byte) (payload : List Byte) (s : State), s.partState = .adopt →
    Taken kind tag payload s →
    (unindexedSettings.contains kind = true → fixedLength kind = some payload.length →
      exec (commandOf kind tag payload) s = .next (refused kind tag .adopting s)) ∧
    (kind = 0x10 → payload.length = 13 → (payload.headD 0).toNat ≤ 7 →
      exec (.setComputer tag payload) s = .next (refused kind tag .adopting s)) ∧
    (kind = 0x11 → payload.length = 15 → (payload.headD 0).toNat ≤ 47 →
      exec (.setChannel tag payload) s = .next (refused kind tag .adopting s)) ∧
    (kind = 0x14 → payload.length = 3 + 4 * (payload.headD 0).toNat →
      exec (.setDaylight tag payload) s = .next (refused kind tag .adopting s)) ∧
    (kind = 0x15 → 8 ≤ payload.length → payload.length = 8 + 5 * ((payload.drop 7).headD 0).toNat →
      (payload.headD 0).toNat ≤ 7 →
      exec (.setPlan tag payload) s = .next (refused kind tag .adopting s))

/-! ### Configuration commands -/

/-- R102 to R104, R120: a SET-COMPUTER in range that leaves enabled, role and bore as they were replaces the
slot's configuration and nothing else. One that enables a VACANT slot takes it in RUN to TRACK with cause
ENABLED, match counts 0, its report timer and, where it has a track timeout, its track timer started, and in
UNCONFIGURED to LOST. One that disables a slot in LOST, PAUSED or FAULT, or any slot in UNCONFIGURED, takes it
to VACANT with failures 0, expectation absent and its entry off the wait list, no order sent, demands and
generation kept, its channels in FALLBACK. One that changes the bore of a waiting slot keeps its entry with its
arrival, and issues it where the new bore has room and nothing of it waits. A slot above 7 is refused with
OUT_OF_RANGE in every part state, a field out of its range too in UNCONFIGURED and RUN; REFUSED_STATE answers
in RUN a change of enabled, role or bore for a slot in SETTLE, JOIN, TRACK or CONTROL, and of role or bore
against an owned channel (R103). -/
def Obligations.SetComputerTakesEffect : Prop :=
  (∀ (tag : Byte) (k : Slot) (new : ComputerConfig) (s : State), computerRanges new = true →
      new.enabled = s.cfg.computers[k].enabled → new.role = s.cfg.computers[k].role →
      new.bore = s.cfg.computers[k].bore → Configurable s → Taken 0x10 tag (computerPayload k new) s →
      exec (.setComputer tag (computerPayload k new)) s = .next
        { repliedOk 0x10 tag s with cfg := { s.cfg with computers := s.cfg.computers.set k new } }) ∧
  (∀ (tag : Byte) (k : Slot) (new : ComputerConfig) (s : State), computerRanges new = true →
      s.cfg.computers[k].enabled = false → new = { s.cfg.computers[k] with enabled := true } →
      s.contexts[k].state = .vacant → s.partState = .run → Taken 0x10 tag (computerPayload k new) s →
      ∃ t, exec (.setComputer tag (computerPayload k new)) s = .next t ∧
        t.cfg = { s.cfg with computers := s.cfg.computers.set k new } ∧
        t.contexts = s.contexts.set k { s.contexts[k] with
          state := .track, phase := none, trackCause := some .enabled, activeStyle := new.style
          settleTimer := none, helloTimer := none, imageTimer := none
          trackTimer := if new.trackTimeout = 0 then none else some (s.now + new.trackTimeout * 1000) } ∧
        t.ports[k].reportTimer = some (s.now + new.reportTimeout) ∧
        ∀ c : Chan, owns s k c = true → t.channels[c].matchCount = 0) ∧
  (∀ (tag : Byte) (k : Slot) (new : ComputerConfig) (s : State), computerRanges new = true →
      s.cfg.computers[k].enabled = false → new = { s.cfg.computers[k] with enabled := true } →
      s.partState = .unconfigured → Taken 0x10 tag (computerPayload k new) s →
      ∃ t, exec (.setComputer tag (computerPayload k new)) s = .next t ∧
        t.cfg = { s.cfg with computers := s.cfg.computers.set k new } ∧
        t.contexts = s.contexts.set k { s.contexts[k] with
          state := .lost, phase := none, trackCause := none, settleTimer := none, helloTimer := none
          imageTimer := none, trackTimer := none } ∧
        t.ports = s.ports.set k { s.ports[k] with reportTimer := none } ∧
        t.channels = s.channels ∧ t.window = s.window) ∧
  (∀ (tag : Byte) (k : Slot) (new : ComputerConfig) (s : State), computerRanges new = true →
      s.cfg.computers[k].enabled = true → new = { s.cfg.computers[k] with enabled := false } →
      (s.partState = .unconfigured ∨ (s.partState = .run ∧ (s.contexts[k].state = .lost ∨
        s.contexts[k].state = .paused ∨ s.contexts[k].state = .fault))) →
      Taken 0x10 tag (computerPayload k new) s →
      ∃ t, exec (.setComputer tag (computerPayload k new)) s = .next t ∧
        t.cfg = { s.cfg with computers := s.cfg.computers.set k new } ∧
        t.contexts = s.contexts.set k { s.contexts[k] with
          state := .vacant, phase := none, failures := 0, trackCause := none, settleTimer := none
          helloTimer := none, imageTimer := none, trackTimer := none } ∧
        t.ports = s.ports.set k { s.ports[k] with expectation := none, reportTimer := none } ∧
        t.window = { s.window with waitList := s.window.waitList.filter (·.slot != k) } ∧
        ∀ c : Chan, t.channels[c].demand = s.channels[c].demand ∧
          (owns s k c = true → s.channels[c].adopted = true → s.channels[c].forced = none →
            t.channels[c].mode = .fallback)) ∧
  (∀ (tag : Byte) (k : Slot) (b : Bore) (new : ComputerConfig) (s : State), computerRanges new = true →
      b ≠ s.cfg.computers[k].bore → new = { s.cfg.computers[k] with bore := b } → s.partState = .run →
      (s.contexts[k].state = .lost ∨ s.contexts[k].state = .paused ∨ s.contexts[k].state = .fault) →
      s.contexts[k].inProgress = false → isWaiting s k = true → s.ports[k].sendList.length < 8 →
      (∀ c : Chan, owns s k c = true →
        roleMatches new.role s.cfg.channels[c].kind = true ∧ s.cfg.channels[c].bore = b) →
      Taken 0x10 tag (computerPayload k new) s →
      (limitOf s b ≤ countOf s b → exec (.setComputer tag (computerPayload k new)) s = .next
        { repliedOk 0x10 tag s with cfg := { s.cfg with computers := s.cfg.computers.set k new } }) ∧
      (countOf s b < limitOf s b → boreWaits s b = false →
        ∃ t, exec (.setComputer tag (computerPayload k new)) s = .next t ∧
          t.cfg = { s.cfg with computers := s.cfg.computers.set k new } ∧
          t.contexts[k].state = .settle ∧ t.contexts[k].inProgress = true ∧
          countOf t b = countOf s b + 1 ∧ countOf t (boreOf s k) = countOf s (boreOf s k) ∧
          t.window.waitList = s.window.waitList.filter (·.slot != k) ∧
          t.ports[k].sendList = s.ports[k].sendList ++ [.restart new.settleCode] ∧
          ∀ j : Slot, j ≠ k → t.contexts[j] = s.contexts[j])) ∧
  (∀ (tag : Byte) (payload : List Byte) (s : State), payload.length = 13 → Taken 0x10 tag payload s →
      (7 < byteAt payload 0 → exec (.setComputer tag payload) s = .next (refused 0x10 tag .outOfRange s)) ∧
      (Configurable s → byteAt payload 0 ≤ 7 → computerRefused payload →
        exec (.setComputer tag payload) s = .next (refused 0x10 tag .outOfRange s))) ∧
  (∀ (tag : Byte) (k : Slot) (new : ComputerConfig) (s : State), computerRanges new = true →
      s.partState = .run → Taken 0x10 tag (computerPayload k new) s →
      ((leavesFallback s (some k) = false ∧
          (new.enabled ≠ s.cfg.computers[k].enabled ∨ new.role ≠ s.cfg.computers[k].role ∨
            new.bore ≠ s.cfg.computers[k].bore)) ∨
        ((new.role ≠ s.cfg.computers[k].role ∨ new.bore ≠ s.cfg.computers[k].bore) ∧
          ∃ c : Chan, owns s k c = true ∧ (s.cfg.channels[c].bore ≠ new.bore ∨
            s.cfg.channels[c].kind ≠ (match new.role with | .vent => .fan | .light => .light)))) →
      exec (.setComputer tag (computerPayload k new)) s = .next (refused 0x10 tag .refusedState s))

/-- R22, R23, R3: an accepted SET-CHANNEL changes the configured record and nothing else in UNCONFIGURED. In
RUN, where the channel stays used: with owner, slew rate and fallback fields kept, nothing else changes; a new
slew rate withdraws the channel's admission entry; a new owner makes the demand absent and the match count 0,
and it or new fallback fields set the target of an adopted, unforced channel in FALLBACK by the new record, a
frozen target staying or, on a change to kind HOLD, freezing at D (that the whole new record stands from the
first case on is the model's reading, assumption log 10). A channel that becomes unused loses its run-time
record, its waiting SET record and its admission entry. A channel above 47 is refused with OUT_OF_RANGE in
every part state, a field out of its range or DAYLIGHT without LIGHT too in UNCONFIGURED and RUN; REFUSED_STATE
answers in RUN a change of owner where the old or the new one is under control, and a record that disagrees
with its owner's role or bore. -/
def Obligations.SetChannelReplaces : Prop :=
  (∀ (tag : Byte) (c : Chan) (new : ChannelConfig) (s : State), channelRanges new = true →
      s.partState = .unconfigured → Taken 0x11 tag (channelPayload c new) s →
      exec (.setChannel tag (channelPayload c new)) s = .next
        { repliedOk 0x11 tag s with cfg := { s.cfg with channels := s.cfg.channels.set c new } }) ∧
  (∀ (tag : Byte) (c : Chan) (new : ChannelConfig) (s : State), channelRanges new = true →
      s.partState = .run →
      (∀ k, new.owner = some k → roleMatches s.cfg.computers[k].role new.kind = true ∧
        s.cfg.computers[k].bore = new.bore) →
      Taken 0x11 tag (channelPayload c new) s →
      (usedConfig new = true → new.owner = s.cfg.channels[c].owner →
        new.fallbackKind = s.cfg.channels[c].fallbackKind →
        new.fallbackValue = s.cfg.channels[c].fallbackValue →
        new.zoneFactor = s.cfg.channels[c].zoneFactor →
        exec (.setChannel tag (channelPayload c new)) s = .next
          { repliedOk 0x11 tag s with
            cfg := { s.cfg with channels := s.cfg.channels.set c new }
            admission := { s.admission with
              queue := if new.slewRate = s.cfg.channels[c].slewRate then s.admission.queue
                else s.admission.queue.filter (·.channel != c) } }) ∧
      (usedConfig new = true → usedConfig s.cfg.channels[c] = true →
        (new.owner ≠ s.cfg.channels[c].owner ∨ new.fallbackKind ≠ s.cfg.channels[c].fallbackKind ∨
          new.fallbackValue ≠ s.cfg.channels[c].fallbackValue ∨
          new.zoneFactor ≠ s.cfg.channels[c].zoneFactor) →
        leavesFallback s new.owner = true → leavesFallback s s.cfg.channels[c].owner = true →
        s.channels[c].adopted = true → s.channels[c].forced = none → s.channels[c].mode = .fallback →
        s.admission.queue = [] →
        exec (.setChannel tag (channelPayload c new)) s = .next
          { repliedOk 0x11 tag s with
            cfg := { s.cfg with channels := s.cfg.channels.set c new }
            channels := s.channels.set c { s.channels[c] with
              demand := if new.owner = s.cfg.channels[c].owner then s.channels[c].demand else none
              matchCount := if new.owner = s.cfg.channels[c].owner then s.channels[c].matchCount else 0
              target :=
                match new.fallbackKind with
                | .hold => if s.cfg.channels[c].fallbackKind = .hold then s.channels[c].target
                  else some (s.channels[c].driven.getD 0)
                | .fixed => some new.fallbackValue
                | .daylight => some (stageLevel s * new.zoneFactor / 1000) } }) ∧
      (usedConfig new = false → usedConfig s.cfg.channels[c] = true →
        leavesFallback s s.cfg.channels[c].owner = true →
        exec (.setChannel tag (channelPayload c new)) s = .next
          { repliedOk 0x11 tag s with
            cfg := { s.cfg with channels := s.cfg.channels.set c new }
            channels := s.channels.set c resetChannel
            field := { s.field with sendList := s.field.sendList.filter (·.channel != c) }
            admission := { s.admission with queue := s.admission.queue.filter (·.channel != c) } })) ∧
  (∀ (tag : Byte) (payload : List Byte) (s : State), payload.length = 15 → Taken 0x11 tag payload s →
      (47 < byteAt payload 0 → exec (.setChannel tag payload) s = .next (refused 0x11 tag .outOfRange s)) ∧
      (Configurable s → byteAt payload 0 ≤ 47 → channelRefused payload →
        exec (.setChannel tag payload) s = .next (refused 0x11 tag .outOfRange s))) ∧
  (∀ (tag : Byte) (c : Chan) (new : ChannelConfig) (s : State), channelRanges new = true →
      s.partState = .run → Taken 0x11 tag (channelPayload c new) s →
      ((new.owner ≠ s.cfg.channels[c].owner ∧ (leavesFallback s s.cfg.channels[c].owner = false ∨
          leavesFallback s new.owner = false)) ∨
        ∃ k, new.owner = some k ∧ (s.cfg.computers[k].bore ≠ new.bore ∨
          new.kind ≠ (match s.cfg.computers[k].role with | .vent => .fan | .light => .light))) →
      exec (.setChannel tag (channelPayload c new)) s = .next (refused 0x11 tag .refusedState s))

/-- R28, R26: an accepted SET-BUDGET sets credit to the both-feeds cap in UNCONFIGURED and clamps it to the new
current cap in RUN, and serves no queue; a value out of its range, or a single-feed cap above the both-feeds
cap, is refused with OUT_OF_RANGE. -/
def Obligations.SetBudgetSetsCredit : Prop :=
  (∀ (tag : Byte) (b : BudgetConfig) (s : State), budgetRanges b = true →
    Taken 0x12 tag (b2 b.bothCap ++ b2 b.singleCap ++ b2 b.refill) s →
    (s.partState = .unconfigured →
      exec (.setBudget tag (b2 b.bothCap ++ b2 b.singleCap ++ b2 b.refill)) s = .next
        { repliedOk 0x12 tag s with
          cfg := { s.cfg with budget := b }, admission := { s.admission with credit := b.bothCap } }) ∧
    (s.partState = .run →
      exec (.setBudget tag (b2 b.bothCap ++ b2 b.singleCap ++ b2 b.refill)) s = .next
        { repliedOk 0x12 tag s with
          cfg := { s.cfg with budget := b }
          admission := { s.admission with
            credit := min s.admission.credit
              (match s.admission.feed with | .both => b.bothCap | .single => b.singleCap) } })) ∧
  ∀ (tag : Byte) (payload : List Byte) (s : State), payload.length = 6 → Configurable s →
    Taken 0x12 tag payload s →
    (60000 < numberAt payload 0 ∨ 60000 < numberAt payload 2 ∨ 6000 < numberAt payload 4 ∨
      numberAt payload 0 < numberAt payload 2) →
    exec (.setBudget tag payload) s = .next (refused 0x12 tag .outOfRange s)

/-- R119, R116: SET-WINDOW replaces both limits; where no limit rises no queue is served; a limit below its
bore's count is answered WINDOW_BUSY in RUN. A limit that rises has its bore's queue served: as many of its
entries as the new limit leaves room for are issued, oldest first, the others keep their order, and a bore
whose limit does not rise keeps its entries and its count. In UNCONFIGURED, where nothing waits, a limit may
rise too, and nothing else changes; a limit outside 1 to 4 is refused with OUT_OF_RANGE. -/
def Obligations.SetWindowReplaces : Prop :=
  (∀ (tag : Byte) (l1 l2 : Nat) (s : State), 1 ≤ l1 → l1 ≤ 4 → 1 ≤ l2 → l2 ≤ 4 →
    Taken 0x13 tag (b1 l1 ++ b1 l2) s →
    (Configurable s → (s.partState = .run → s.window.count1 ≤ l1 ∧ s.window.count2 ≤ l2) →
      l1 ≤ s.cfg.limit1 → l2 ≤ s.cfg.limit2 →
      exec (.setWindow tag (b1 l1 ++ b1 l2)) s = .next
        { repliedOk 0x13 tag s with cfg := { s.cfg with limit1 := l1, limit2 := l2 } }) ∧
    (s.partState = .run → (l1 < s.window.count1 ∨ l2 < s.window.count2) →
      exec (.setWindow tag (b1 l1 ++ b1 l2)) s = .next (refused 0x13 tag .windowBusy s)) ∧
    (s.partState = .run → s.window.count1 ≤ l1 → s.window.count2 ≤ l2 →
      (s.window.waitList.map (·.slot)).Nodup →
      (∀ e ∈ s.window.waitList, s.contexts[e.slot].inProgress = false ∧
        s.contexts[e.slot].state ≠ .vacant ∧ s.contexts[e.slot].state ≠ .settle) →
      ∃ t, exec (.setWindow tag (b1 l1 ++ b1 l2)) s = .next t ∧
        t.cfg = { s.cfg with limit1 := l1, limit2 := l2 } ∧
        ∀ (b : Bore) (limit : Nat) (mine : List WaitEntry),
          limit = (match b with | .one => l1 | .two => l2) →
          mine = s.window.waitList.filter (fun e => boreOf s e.slot == b) →
          (limit ≤ limitOf s b → countOf t b = countOf s b ∧
            t.window.waitList.filter (fun e => boreOf s e.slot == b) = mine) ∧
          (limitOf s b < limit →
            countOf t b = countOf s b + min mine.length (limit - countOf s b) ∧
            t.window.waitList.filter (fun e => boreOf s e.slot == b) = mine.drop (limit - countOf s b) ∧
            ∀ e ∈ mine.take (limit - countOf s b),
              t.contexts[e.slot].state = .settle ∧ t.contexts[e.slot].inProgress = true)) ∧
    (s.partState = .unconfigured → NoneWaiting s → exec (.setWindow tag (b1 l1 ++ b1 l2)) s = .next
      { repliedOk 0x13 tag s with cfg := { s.cfg with limit1 := l1, limit2 := l2 } })) ∧
  ∀ (tag a b : Byte) (s : State), Configurable s → Taken 0x13 tag [a, b] s →
    (a.toNat = 0 ∨ 4 < a.toNat ∨ b.toNat = 0 ∨ 4 < b.toNat) →
    exec (.setWindow tag [a, b]) s = .next (refused 0x13 tag .outOfRange s)

/-- R50, R56: an accepted SET-DAYLIGHT replaces the table; in UNCONFIGURED nothing else changes; in RUN the
stage is set afresh, the reading, its age, the age timer and the stale flag stay, and every channel that
follows the table has its target derived anew from the level of that stage (R54). A count, threshold, level or
hysteresis out of its range, and thresholds that do not rise from 0, are refused with OUT_OF_RANGE. -/
def Obligations.SetDaylightReplaces : Prop :=
  (∀ (tag : Byte) (d : DaylightConfig) (s : State), daylightRanges d = true →
      s.partState = .unconfigured → Taken 0x14 tag (daylightPayload d) s →
      exec (.setDaylight tag (daylightPayload d)) s = .next
        { repliedOk 0x14 tag s with cfg := { s.cfg with daylight := d } }) ∧
  (∀ (tag : Byte) (d : DaylightConfig) (s : State), daylightRanges d = true → s.partState = .run →
      Taken 0x14 tag (daylightPayload d) s →
      ∃ t, exec (.setDaylight tag (daylightPayload d)) s = .next t ∧
        t.cfg = { s.cfg with daylight := d } ∧
        t.daylight = { s.daylight with
          stage := match s.daylight.luminance with
            | none => 0
            | some l => selectStage d l (min s.daylight.stage (d.stages.length - 1)) } ∧
        t.contexts = s.contexts ∧ t.executor = s.executor ∧
        ∀ c : Chan, followsDaylight s c → ∃ st, d.stages[t.daylight.stage]? = some st ∧
          t.channels[c].mode = .fallback ∧
          t.channels[c].target = some (st.level * s.cfg.channels[c].zoneFactor / 1000)) ∧
  (∀ (tag : Byte) (payload : List Byte) (s : State), payload.length = 3 + 4 * byteAt payload 0 →
      Configurable s → Taken 0x14 tag payload s → daylightRefused payload →
      exec (.setDaylight tag payload) s = .next (refused 0x14 tag .outOfRange s))

/-- R125, R126: an accepted SET-PLAN replaces the whole record, a WAIT operand above 3600 stored as 3600 and a
WAIT-TRIGGER operand as 0, and nothing else. A plan number above 7 is refused with OUT_OF_RANGE in every part
state; the executing plan with BUSY, ahead of the ranges; settings out of range with OUT_OF_RANGE and no step,
a bad step with the number of the first one. -/
def Obligations.SetPlanReplaces : Prop :=
  (∀ (tag : Byte) (p : PlanNo) (r : PlanRecord) (s : State), planAcceptable r = true → Configurable s →
    isExecuting p s = false → Taken 0x15 tag (planPayload p r) s →
    exec (.setPlan tag (planPayload p r)) s = .next
      { repliedOk 0x15 tag s with cfg := { s.cfg with
        plans := s.cfg.plans.set p { r with steps := r.steps.map storedStep } } }) ∧
  ∀ (tag : Byte) (payload : List Byte) (s : State), 8 ≤ payload.length →
    payload.length = 8 + 5 * byteAt payload 7 → Taken 0x15 tag payload s →
    (7 < byteAt payload 0 → exec (.setPlan tag payload) s = .next (refused 0x15 tag .outOfRange s)) ∧
    (∀ p : PlanNo, byteAt payload 0 = p.val →
      (s.partState = .run → s.executor.state ≠ .idle → s.executor.plan = some p →
        exec (.setPlan tag payload) s = .next (refused 0x15 tag .busy s)) ∧
      (Configurable s → (s.executor.state = .idle ∨ s.executor.plan ≠ some p) →
        (settingsRefused payload →
          exec (.setPlan tag payload) s = .next (refused 0x15 tag .outOfRange s)) ∧
        (∀ i, ¬ settingsRefused payload → i < byteAt payload 7 → stepRefused payload i →
          (∀ j < i, ¬ stepRefused payload j) →
          exec (.setPlan tag payload) s = .next (replied 0x15 tag .outOfRange (.step i) [] s))))

/-- R167, R170: SET-EVENT-MASK replaces the mask, the flags of COMPUTER_FAULT, DRIVE_FAULT and STORE_FAILED
taken as clear, calls for no notice, and is refused in ADOPT; SET-COUNTER-SOURCE sets the source and the
counter to 0, and refuses a code above 9. -/
def Obligations.EventUnitSettings : Prop :=
  (∀ (tag hi lo : Byte) (s : State), Configurable s → Taken 0x16 tag [hi, lo] s →
      ∃ mask : Vector Bool 16,
        exec (.setEventMask tag [hi, lo]) s = .next
          { repliedOk 0x16 tag s with cfg := { s.cfg with mask := mask } } ∧
        ∀ i : Fin 16, mask[i] = if i = 3 ∨ i = 11 ∨ i = 15 then false
          else (hi.toNat * 256 + lo.toNat).testBit i.val) ∧
  (∀ (tag hi lo : Byte) (s : State), s.partState = .adopt → Taken 0x16 tag [hi, lo] s →
      exec (.setEventMask tag [hi, lo]) s = .next (refused 0x16 tag .adopting s)) ∧
  (∀ (tag b : Byte) (s : State), Configurable s → Taken 0x17 tag [b] s →
      (∀ source, readCounterSource b = some source → exec (.setCounterSource tag [b]) s = .next
        { repliedOk 0x17 tag s with cfg := { s.cfg with counterSource := source }, counter := 0 }) ∧
      (9 < b.toNat → exec (.setCounterSource tag [b]) s = .next (refused 0x17 tag .outOfRange s)) ∧
      (b.toNat ≤ 9 → ∃ source, readCounterSource b = some source ∧ counterSourceCode source = b.toNat))

/-- R177, R178: STORE-CONFIG takes the snapshot, makes the marker invalid and begins the write, or is answered
BUSY while one is in flight and ADOPTING in ADOPT; a completed write makes the marker valid and latches
STORE_DONE, an error latches STORE_FAILED, each with its notice (R165, R166). That the image stands as it was
while a write is in flight and after one that has failed is the model's choice (assumption log 5). -/
def Obligations.StoreWritesTheSnapshot : Prop :=
  (∀ (tag : Byte) (s : State), Configurable s → Taken 0x18 tag [] s →
      (s.store.writing = none → exec (.storeConfig tag []) s = .next
        { repliedOk 0x18 tag s with store := { s.store with
          valid := false, writing := some { config := s.cfg, commissioned := s.commissioned } } }) ∧
      (s.store.writing.isSome = true →
        exec (.storeConfig tag []) s = .next (refused 0x18 tag .busy s))) ∧
  (∀ (tag : Byte) (s : State), s.partState = .adopt → Taken 0x18 tag [] s →
      exec (.storeConfig tag []) s = .next (refused 0x18 tag .adopting s)) ∧
  (∀ s : State, s.held = false →
      ∀ image, s.store.writing = some image →
        (∃ t, exec (.storeWriteCompletion true) s = .next t ∧
          t.store = { valid := true, image := image, writing := none } ∧
          t.events[(14 : Fin 16)] = { latched := true, item := none } ∧ t.cfg = s.cfg ∧
          t.supervisory = { s.supervisory with outgoing := noticeAfter 14 s t }) ∧
        (∃ t, exec (.storeWriteCompletion false) s = .next t ∧
          t.store = { s.store with writing := none } ∧
          t.events[(15 : Fin 16)] = { latched := true, item := none } ∧ t.cfg = s.cfg ∧
          t.supervisory = { s.supervisory with outgoing := noticeAfter 15 s t }))

/-- R179, R180: an accepted COMMISSION with a used channel sets the flag, enters ADOPT, starts the
adoption timer and sends the POLL-ALL; the first inconsistent channel is named in a refusal. -/
def Obligations.CommissionEntersAdopt : Prop :=
  ∀ (tag : Byte) (s : State), s.partState = .unconfigured → Taken 0x19 tag [] s →
    ((∀ c : Chan, channelConsistent s c = true) → s.cfg.budget.singleCap ≤ s.cfg.budget.bothCap →
      (∃ c : Chan, isUsed s c = true) → exec (.commission tag []) s = .next
        { repliedOk 0x19 tag s with
          commissioned := true, partState := .adopt, adoptionTimer := some (s.now + 2000)
          field := { s.field with period := some (s.now + 500), line := pollAllBytes } }) ∧
    (∀ c : Chan, channelConsistent s c = false → (∀ d : Chan, d < c → channelConsistent s d = true) →
      exec (.commission tag []) s = .next (replied 0x19 tag .refusedState (.channel c) [] s)) ∧
    ((∀ c : Chan, channelConsistent s c = true) → s.cfg.budget.bothCap < s.cfg.budget.singleCap →
      exec (.commission tag []) s = .next (replied 0x19 tag .refusedState .budget [] s))

/-! ### Orders -/

/-- R110, R111, R79, R113: a RESTART with a free window slot is answered OK and issued: the flag is set, the
bore's count rises, and a slot in LOST, PAUSED, TRACK, JOIN, CONTROL or FAULT enters SETTLE with RESTART at
the back of its send list, in CONTROL behind a REVOKE (ORDER), and the settle time of its code running; in
FAULT its failures become 0. A plan's RESTART step that names the slot and waits for an order becomes ordered
(R142). -/
def Obligations.RestartIsIssued : Prop :=
  ∀ (tag : Byte) (k : Slot) (s : State), s.partState = .run → s.contexts[k].inProgress = false →
    s.contexts[k].state ≠ .vacant → s.contexts[k].state ≠ .settle →
    NoneWaiting s → countOf s (boreOf s k) < limitOf s (boreOf s k) → s.ports[k].sendList.length < 7 →
    Taken 0x30 tag (b1 k.val) s →
    ∃ t, exec (.restart tag (b1 k.val)) s = .next t ∧ t.cfg = s.cfg ∧
      repliesOf t.supervisory.outgoing =
        repliesOf s.supervisory.outgoing ++ [.reply 0x30 tag .ok .absent []] ∧
      t.contexts = s.contexts.set k { s.contexts[k] with
        state := .settle, phase := none, inProgress := true, trackCause := none
        failures := if s.contexts[k].state = .fault then 0 else s.contexts[k].failures
        settleTimer := some (s.now + settleSeconds s.cfg.computers[k].settleCode * 1000)
        helloTimer := none, imageTimer := none, trackTimer := none } ∧
      countOf t (boreOf s k) = countOf s (boreOf s k) + 1 ∧ t.window.waitList = [] ∧
      t.ports[k].sendList = s.ports[k].sendList ++
        (if s.contexts[k].state = .control then [.revoke .order] else []) ++
        [.restart s.cfg.computers[k].settleCode] ∧
      t.ports[k].expectation = none ∧ t.ports[k].reportTimer = none ∧
      (∀ c : Chan, owns s k c = true → t.channels[c].demand = none) ∧
      (∀ j : Slot, j ≠ k → t.ports[j] = s.ports[j]) ∧
      (NoPlan s → t.executor = s.executor) ∧
      ∀ p i st, RunsStep p i st s → st.kind = .restart → st.operand = k.val →
        s.executor.watch.outcome = some .queued →
        t.executor = { s.executor with watch := { s.executor.watch with ordered := true } }

/-- R110, R117: a RESTART that finds its bore's window full waits at the back of the list with WINDOW_WAIT
latched, one for a slot in progress is answered ALREADY, one for a VACANT slot REFUSED_STATE; CANCEL-RESTART
removes the slot's entry, is answered REFUSED_STATE for a slot in progress and OK otherwise. -/
def Obligations.WaitingRestarts : Prop :=
  (∀ (tag : Byte) (k : Slot) (s : State), s.partState = .run → Taken 0x30 tag (b1 k.val) s →
      (s.contexts[k].inProgress = true →
        exec (.restart tag (b1 k.val)) s = .next (refused 0x30 tag .already s)) ∧
      (s.contexts[k].inProgress = false → isWaiting s k = false → s.contexts[k].state = .vacant →
        exec (.restart tag (b1 k.val)) s = .next (refused 0x30 tag .refusedState s)) ∧
      (s.contexts[k].inProgress = false → isWaiting s k = false → s.contexts[k].state ≠ .vacant →
        limitOf s (boreOf s k) ≤ countOf s (boreOf s k) →
        ∃ t, exec (.restart tag (b1 k.val)) s = .next t ∧ t.contexts = s.contexts ∧ t.ports = s.ports ∧
          t.window = { s.window with waitList := s.window.waitList ++
            [{ slot := k, source := .supervisor, plan := none, mark := false, since := s.now }] } ∧
          t.events[(5 : Fin 16)] = { latched := true, item := some (.slot k) } ∧
          repliesOf t.supervisory.outgoing =
            repliesOf s.supervisory.outgoing ++ [.reply 0x30 tag .queued .absent []])) ∧
  (∀ (tag : Byte) (k : Slot) (s : State), s.partState = .run → Taken 0x31 tag (b1 k.val) s →
      (isWaiting s k = true → exec (.cancelRestart tag (b1 k.val)) s = .next
        { repliedOk 0x31 tag s with
          window := { s.window with waitList := s.window.waitList.filter (·.slot != k) } }) ∧
      (isWaiting s k = false → s.contexts[k].inProgress = true →
        exec (.cancelRestart tag (b1 k.val)) s = .next (refused 0x31 tag .refusedState s)) ∧
      (isWaiting s k = false → s.contexts[k].inProgress = false →
        exec (.cancelRestart tag (b1 k.val)) s = .next (repliedOk 0x31 tag s)))

/-- R112: a request for a slot that waits joins its entry, which keeps its place, slot and time, and raises
its source, plan and recovery mark by rank; nothing else changes. -/
def Obligations.JoinedEntryIsRaised : Prop :=
  (∀ (r : Requester) (k : Slot) (s : State), s.contexts[k].inProgress = false →
    (∃ e ∈ s.window.waitList, e.slot = k) →
    takeRequest r k s = { s with window := { s.window with
      waitList := s.window.waitList.map fun e => if e.slot = k then joinEntry r e else e } }) ∧
  ∀ (e : WaitEntry) (p : PlanNo),
    (e.source = .recovery →
      joinEntry .supervisor e = { e with source := .supervisor, plan := none, mark := true } ∧
      joinEntry (.plan p) e = { e with source := .plan, plan := some p, mark := true } ∧
      joinEntry .recovery e = e) ∧
    (e.source = .plan →
      joinEntry .supervisor e = { e with source := .supervisor, plan := none } ∧
      joinEntry (.plan p) e = { e with plan := some p } ∧
      joinEntry .recovery e = { e with mark := true }) ∧
    (e.source = .supervisor →
      joinEntry .supervisor e = e ∧ joinEntry (.plan p) e = e ∧
      joinEntry .recovery e = { e with mark := true })

/-- R99, R101: a PAUSE in CONTROL sends REVOKE (PAUSE) and PAUSE, one in TRACK without a restart in progress
sends PAUSE, and the slot enters PAUSED; a RESUME in PAUSED sends RESUME and enters TRACK with cause RESUMED,
the match counts kept or 0 by the pause policy; in any other state either is answered REFUSED_STATE. -/
def Obligations.PauseAndResume : Prop :=
  (∀ (tag : Byte) (k : Slot) (s : State), s.partState = .run → Taken 0x32 tag (b1 k.val) s →
      (pausable s.contexts[k] = true → s.ports[k].sendList.length < 7 →
        ∃ t, exec (.pause tag (b1 k.val)) s = .next t ∧ t.cfg = s.cfg ∧ t.window = s.window ∧
          t.contexts = s.contexts.set k { s.contexts[k] with
            state := .paused, phase := none, trackCause := none, settleTimer := none
            helloTimer := none, imageTimer := none, trackTimer := none } ∧
          t.ports[k] = { s.ports[k] with
            reportTimer := none
            sendList := s.ports[k].sendList ++
              (if s.contexts[k].state = .control then [.revoke .pause] else []) ++ [.pause] } ∧
          ∀ c : Chan, t.channels[c].demand = s.channels[c].demand ∧
            t.channels[c].matchCount = s.channels[c].matchCount) ∧
      (pausable s.contexts[k] = false →
        exec (.pause tag (b1 k.val)) s = .next (refused 0x32 tag .refusedState s))) ∧
  (∀ (tag : Byte) (k : Slot) (s : State), s.partState = .run → Taken 0x33 tag (b1 k.val) s →
      (s.contexts[k].state = .paused → s.ports[k].sendList.length < 8 →
        ∃ t, exec (.resume tag (b1 k.val)) s = .next t ∧ t.cfg = s.cfg ∧
          t.contexts[k].state = .track ∧ t.contexts[k].trackCause = some .resumed ∧
          t.contexts[k].activeStyle = s.cfg.computers[k].style ∧
          t.ports[k].reportTimer = some (s.now + s.cfg.computers[k].reportTimeout) ∧
          t.ports[k].sendList = s.ports[k].sendList ++ [.resume] ∧
          ∀ c : Chan, owns s k c = true → t.channels[c].matchCount =
            (match s.cfg.computers[k].pausePolicy with
            | .keep => s.channels[c].matchCount
            | .clear => 0)) ∧
      (s.contexts[k].state ≠ .paused →
        exec (.resume tag (b1 k.val)) s = .next (refused 0x33 tag .refusedState s)))

/-- R19, R20: a FORCE on a used channel sets the clamped forced value as its target, an unadopted channel
being first adopted; UNFORCE of a channel whose owner is in CONTROL gives it its recorded demand as target,
and changes nothing without a forced value. -/
def Obligations.ForceAndUnforce : Prop :=
  (∀ (tag hi lo : Byte) (c : Chan) (s : State), s.partState = .run →
      Taken 0x34 tag (b1 c.val ++ [hi, lo]) s →
      (isUsed s c = true → ∃ t, exec (.force tag (b1 c.val ++ [hi, lo])) s = .next t ∧ t.cfg = s.cfg ∧
        t.contexts = s.contexts ∧ t.channels[c].adopted = true ∧
        t.channels[c].forced = some (min (hi.toNat * 256 + lo.toNat) 1000) ∧
        t.channels[c].mode = .forced ∧
        t.channels[c].target = some (min (hi.toNat * 256 + lo.toNat) 1000) ∧
        t.channels[c].demand = s.channels[c].demand) ∧
      (isUsed s c = false → exec (.force tag (b1 c.val ++ [hi, lo])) s =
        .next (refused 0x34 tag .refusedState s))) ∧
  (∀ (tag : Byte) (c : Chan) (s : State), s.partState = .run → Taken 0x35 tag (b1 c.val) s →
      (∀ f k m, s.channels[c].forced = some f → s.channels[c].adopted = true →
        s.cfg.channels[c].owner = some k → s.contexts[k].state = .control →
        s.channels[c].demand = some m →
        ∃ t, exec (.unforce tag (b1 c.val)) s = .next t ∧ t.channels[c].forced = none ∧
          t.channels[c].mode = .follow ∧ t.channels[c].target = some m ∧
          (s.channels[c].driveFault = false → t.channels[c].matchCount = 0)) ∧
      (s.channels[c].forced = none →
        exec (.unforce tag (b1 c.val)) s = .next (repliedOk 0x35 tag s)))

/-- R18: CLEAR-FAULT clears a set drive fault flag of a used channel and changes neither D nor T; a clear
flag changes nothing; an unused channel is answered REFUSED_STATE. -/
def Obligations.ClearFaultClears : Prop :=
  ∀ (tag : Byte) (c : Chan) (s : State), s.partState = .run → Taken 0x36 tag (b1 c.val) s →
    (isUsed s c = true → s.channels[c].driveFault = true →
      ∃ t, exec (.clearFault tag (b1 c.val)) s = .next t ∧
        t = { repliedOk 0x36 tag s with channels := s.channels.set c t.channels[c] } ∧
        t.channels[c] = { s.channels[c] with
          driveFault := false
          matchCount := if s.cfg.channels[c].owner.isSome = true ∧ s.channels[c].adopted = true ∧
            s.channels[c].forced = none then 0 else s.channels[c].matchCount }) ∧
    (isUsed s c = true → s.channels[c].driveFault = false →
      exec (.clearFault tag (b1 c.val)) s = .next (repliedOk 0x36 tag s)) ∧
    (isUsed s c = false →
      exec (.clearFault tag (b1 c.val)) s = .next (refused 0x36 tag .refusedState s))

/-- R137 to R139: PLAN-START of a plan that passes its checks arms an ON_TRIGGER plan, and starts step 0 of an
IMMEDIATE one within the command, behind the reply, as R128 to R133 give for its kind (`stepBegins`); with a
plan executing it is answered BUSY; an empty plan is answered INVALID_PLAN, and one with a step for a VACANT
slot or an operand above the both-feeds cap too, with the number of the first such step. -/
def Obligations.PlanStartRuns : Prop :=
  (∀ (tag : Byte) (p : PlanNo) (s : State), s.partState = .run → Taken 0x37 tag (b1 p.val) s →
      (NoPlan s → s.cfg.plans[p].steps ≠ [] → s.cfg.plans[p].startMode = .onTrigger →
        (∀ st ∈ s.cfg.plans[p].steps, stepStartable s st = true) →
        exec (.planStart tag (b1 p.val)) s = .next { repliedOk 0x37 tag s with
          executor := { s.executor with
            state := .armed, plan := some p, passes := 0, skipped := 0, step := none
            lastMark := none, lastResult := .none, pendingStop := .none, stretched := false } }) ∧
      (s.executor.state ≠ .idle →
        exec (.planStart tag (b1 p.val)) s = .next (refused 0x37 tag .busy s)) ∧
      (NoPlan s → s.cfg.plans[p].steps = [] →
        exec (.planStart tag (b1 p.val)) s = .next (refused 0x37 tag .invalidPlan s)) ∧
      (∀ i st, NoPlan s → s.cfg.plans[p].steps[i]? = some st →
        ((st.kind = .awaitCredit ∧ s.cfg.budget.bothCap < st.operand) ∨
          ((st.kind = .restart ∨ st.kind = .pause ∨ st.kind = .resume) ∧
            ∃ k : Slot, st.operand = k.val ∧ s.contexts[k].state = .vacant)) →
        (∀ x ∈ s.cfg.plans[p].steps.take i, stepStartable s x = true) →
        exec (.planStart tag (b1 p.val)) s = .next (replied 0x37 tag .invalidPlan (.step i) [] s))) ∧
  ∀ (tag : Byte) (p : PlanNo) (st : PlanStep) (rest : List PlanStep) (s began : State),
    s.partState = .run → NoPlan s → s.cfg.plans[p].steps = st :: rest →
    s.cfg.plans[p].startMode = .immediate →
    (∀ x ∈ s.cfg.plans[p].steps, stepStartable s x = true) → Taken 0x37 tag (b1 p.val) s →
    began = { repliedOk 0x37 tag s with
      executor := { s.executor with
        state := .running, plan := some p, passes := 0, skipped := 0, step := none
        lastMark := none, lastResult := .none, pendingStop := .none, stretched := false
        passTimer := if s.cfg.plans[p].passPeriod = 0 then none
          else some (s.now + s.cfg.plans[p].passPeriod * 1000) } } →
    ∃ t, exec (.planStart tag (b1 p.val)) s = .next t ∧ stepBegins p 0 st began t

/-- R150, R151: PLAN-STOP NOW ends the plan ABORTED_STOP within the command; AT_PASS_END in RUNNING leaves
the stop pending; in IDLE both are answered NOT_RUNNING. -/
def Obligations.PlanStopEnds : Prop :=
  ∀ (tag : Byte) (s : State), s.partState = .run →
    (∀ p, Taken 0x38 tag [0] s → s.executor.state ≠ .idle → s.executor.plan = some p →
      ∃ t, exec (.planStop tag [0]) s = .next t ∧ t.contexts = s.contexts ∧ t.ports = s.ports ∧
        t.executor = { s.executor with
          state := .idle, step := none, pendingStop := .none, stretched := false
          watch := { outcome := none, ordered := false, resumed := false }
          lastResult := .abortedStop, passTimer := none, stepTimer := none } ∧
        (∀ e ∈ t.window.waitList, e.source = .plan → e.plan ≠ some p) ∧
        t.events[(7 : Fin 16)] = { latched := true, item := none }) ∧
    (Taken 0x38 tag [1] s → s.executor.state = .running → exec (.planStop tag [1]) s = .next
      { repliedOk 0x38 tag s with executor := { s.executor with pendingStop := .atPassEnd } }) ∧
    (∀ b : Byte, b.toNat ≤ 1 → Taken 0x38 tag [b] s → NoPlan s →
      exec (.planStop tag [b]) s = .next (refused 0x38 tag .notRunning s))

/-- R53, for every lawful table: the stage that a LUMINANCE selects. `u` is the highest stage whose
threshold the reading reaches and `d` the highest within the hysteresis above it. -/
def Obligations.LuminanceSelectsStage : Prop :=
  ∀ (tag hi lo : Byte) (s : State), s.partState = .run → daylightRanges s.cfg.daylight = true →
    s.daylight.stage < s.cfg.daylight.stages.length → Taken 0x39 tag [hi, lo] s →
    ∃ (t : State) (u d : Nat), exec (.luminance tag [hi, lo]) s = .next t ∧
      (∃ st, s.cfg.daylight.stages[u]? = some st ∧ st.threshold ≤ min (word hi lo) 65000) ∧
      (∀ (j : Nat) (st : Stage), u < j → s.cfg.daylight.stages[j]? = some st →
        min (word hi lo) 65000 < st.threshold) ∧
      (∃ st, s.cfg.daylight.stages[d]? = some st ∧
        st.threshold ≤ min (word hi lo) 65000 + s.cfg.daylight.hysteresis) ∧
      (∀ (j : Nat) (st : Stage), d < j → s.cfg.daylight.stages[j]? = some st →
        min (word hi lo) 65000 + s.cfg.daylight.hysteresis < st.threshold) ∧
      (s.daylight.stage < u → t.daylight.stage = u) ∧
      (u < s.daylight.stage → t.daylight.stage = if d < s.daylight.stage then d else s.daylight.stage) ∧
      (u = s.daylight.stage → t.daylight.stage = s.daylight.stage)

/-- R52: a LUMINANCE takes the clamped reading, sets its age to 0, clears the stale flag and restarts the age
timer, and leaves the latched events; where the stage stays, nothing else changes. R54: where it changes, every
channel that follows the table has its target derived from the level of the new stage. -/
def Obligations.LuminanceTakesReading : Prop :=
  ∀ (tag hi lo : Byte) (s : State), s.partState = .run → Taken 0x39 tag [hi, lo] s →
    ∃ t, exec (.luminance tag [hi, lo]) s = .next t ∧ t.events = s.events ∧
      t.contexts = s.contexts ∧ t.cfg = s.cfg ∧
      t.daylight =
        { stage := selectStage s.cfg.daylight (min (word hi lo) 65000) s.daylight.stage
          luminance := some (min (word hi lo) 65000), readAt := some s.now
          ageTimer := some (s.now + 60000), stale := false } ∧
      (t.daylight.stage = s.daylight.stage →
        t = { repliedOk 0x39 tag s with daylight := t.daylight }) ∧
      (t.daylight.stage ≠ s.daylight.stage → ∀ c : Chan, followsDaylight s c →
        t.channels[c].mode = .fallback ∧ t.channels[c].target = some
          (((s.cfg.daylight.stages[t.daylight.stage]?).map (·.level)).getD 0 *
            s.cfg.channels[c].zoneFactor / 1000))

/-- R30: FEED with the other feed state changes it and clamps credit to that state's cap, serving nothing and
leaving every waiting entry as it is; with the present state it changes nothing; a code of neither state is
refused with OUT_OF_RANGE, in every part state by the model's reading (assumption log 7). -/
def Obligations.FeedClampsCredit : Prop :=
  ∀ (tag b : Byte) (s : State), Taken 0x3A tag [b] s →
    (1 < b.toNat → exec (.feed tag [b]) s = .next (refused 0x3A tag .outOfRange s)) ∧
    ∀ f : FeedState, b.toNat = (match f with | .both => 0 | .single => 1) → s.partState = .run →
      (f = s.admission.feed → exec (.feed tag [b]) s = .next (repliedOk 0x3A tag s)) ∧
      (f ≠ s.admission.feed → exec (.feed tag [b]) s = .next { repliedOk 0x3A tag s with
        admission := { s.admission with
          feed := f
          credit := min s.admission.credit
            (match f with | .both => s.cfg.budget.bothCap | .single => s.cfg.budget.singleCap) } })

/-- R163, R176: RESET-PART is replied OK in every part state and no further command is taken. The COMMAND
reset comes with the last byte of its reply, whichever of the two rows stands for it (assumption log 6), and
keeps the working configuration and the flag, resets the blocks and enters ADOPT with a used channel, the
POLL-ALL being sent, RUN without one, or UNCONFIGURED, as the flag says; while the reply has not begun,
COMMAND_RESET finds no such byte and changes nothing. -/
def Obligations.ResetPartThenCommandReset : Prop :=
  (∀ (tag : Byte) (s : State), Taken 0x3B tag [] s →
      exec (.resetPart tag []) s = .next { repliedOk 0x3B tag s with
        supervisory := { (repliedOk 0x3B tag s).supervisory with resetWait := .replyWaiting } } ∧
      ∀ t, exec (.resetPart tag []) s = .next t → waitingCommand t = none) ∧
  (∀ s : State, s.held = false →
      (s.supervisory.resetWait = .replySending → ∀ i, i = .commandReset ∨ i = .supervisoryFrameSent →
        ∃ t, exec i s = .next t ∧ t.cfg = s.cfg ∧
          t.commissioned = s.commissioned ∧ t.lastReset = .command ∧
          t.supervisory = resetSupervisory ∧ t.executor = resetExecutor ∧ t.window = resetWindow ∧
          t.events = clearEvents ∧ t.counter = 0 ∧ t.inputs = resetInputs ∧
          (s.commissioned = true → (∃ c : Chan, isUsed s c = true) →
            t.partState = .adopt ∧ t.field.line = pollAllBytes ∧
            t.adoptionTimer = some (s.now + 2000) ∧ t.field.period = some (s.now + 500)) ∧
          (s.commissioned = true → (∀ c : Chan, isUsed s c = false) →
            t.partState = .run ∧ t.stepTimer = some (s.now + 100) ∧
            t.admission.refillTimer = some (s.now + 100) ∧ t.field.line = [] ∧
            ∀ k : Slot, t.contexts[k].state =
              if s.cfg.computers[k].enabled = true then .track else .vacant) ∧
          (s.commissioned = false → t.partState = .unconfigured)) ∧
      (s.supervisory.resetWait ≠ .replySending → exec .commandReset s = .next s) ∧
      (∀ tag rest, s.supervisory.resetWait = .replyWaiting →
        s.supervisory.outgoing = .reply 0x3B tag .ok .absent [] :: rest →
        exec .supervisoryFrameSent s = .next { s with supervisory := { s.supervisory with
          outgoing := rest, line := outBytes (.reply 0x3B tag .ok .absent []), resetWait := .replySending } }))

/-! ### Queries -/

/-- R24, R41, R57, R73, R121, R153: a query is answered OK in every part state with its data, and beyond
the reply changes nothing but the report-lost flag that GET-COMPUTER clears. What GET-PLAN-STATUS shows of
the watch record and of remaining times is the model's reading (assumption log 11). -/
def Obligations.QueriesReadOnly : Prop :=
  ∀ (tag : Byte) (k : Slot) (c : Chan) (s : State),
    (Taken 0x50 tag (b1 k.val) s → exec (.getComputer tag (b1 k.val)) s = .next
      { replied 0x50 tag .ok .absent (computerData s k) s with
        ports := s.ports.set k { s.ports[k] with reportLost := false } }) ∧
    (Taken 0x51 tag (b1 c.val) s → exec (.getChannel tag (b1 c.val)) s = .next
      (replied 0x51 tag .ok .absent (channelData s c) s)) ∧
    (Taken 0x52 tag [] s → exec (.getBudget tag []) s = .next
      (replied 0x52 tag .ok .absent (budgetData s) s)) ∧
    (Taken 0x53 tag [] s → exec (.getWaitList tag []) s = .next
      (replied 0x53 tag .ok .absent (waitListData s) s)) ∧
    (Taken 0x54 tag [] s → exec (.getPlanStatus tag []) s = .next
      (replied 0x54 tag .ok .absent (planStatusData s) s)) ∧
    (Taken 0x55 tag [] s → exec (.getDaylight tag []) s = .next
      (replied 0x55 tag .ok .absent (daylightData s) s))

/-- R168, R170, R171: READ-EVENTS clears the set after its reply, READ-COUNTER sets the counter to 0 after
its reply, IDENTIFY changes nothing. -/
def Obligations.ReadsClearAfterReply : Prop :=
  ∀ (tag : Byte) (s : State),
    (Taken 0x56 tag [] s → ∃ t, exec (.readEvents tag []) s = .next t ∧
      t = { replied 0x56 tag .ok .absent (eventsData s) s with events := t.events } ∧
      ∀ i : Fin 16, t.events[i] = { latched := false, item := none }) ∧
    (Taken 0x57 tag [] s → exec (.readCounter tag []) s = .next
      { replied 0x57 tag .ok .absent
          [byteOf (counterSourceCode s.cfg.counterSource), byteOf s.counter] s with counter := 0 }) ∧
    (Taken 0x58 tag [] s → exec (.identify tag []) s = .next
      (replied 0x58 tag .ok .absent
        ([byteOf 240, byteOf 3, byteOf (partStateCode s.partState), byteOf (flagCode s.commissioned),
          byteOf (flagCode s.store.writing.isSome), byteOf (flagCode s.store.valid),
          byteOf (resetKindCode s.lastReset)] ++
        wordBytes s.supervisory.checkErrors ++ wordBytes s.supervisory.gapErrors ++
        wordBytes s.supervisory.formatErrors ++ wordBytes s.supervisory.overflows ++
        wordBytes s.supervisory.noticesLost) s))

/-! ### The supervisory line -/

/-- R157, R158, R160: a complete frame that arrives at an empty queue is taken at once by a port that can
take a command, as its command's row takes it; else it joins the queue where fewer than 4 wait, or is
discarded and counted. A failed frame or a gap is counted. The head of the outgoing list leaves it as its
sending begins, and where that leaves fewer than 16 frames the command that waits longest is taken in the
same event. The last byte of a frame in progress at the input brings the frame (the queue of characters:
assumption log 14). -/
def Obligations.SupervisoryLineEvents : Prop :=
  (∀ s : State, s.held = false →
      (∀ (kind tag : Byte) (payload : List Byte), payload.length ≤ 250 →
        (Taken kind tag payload s → s.supervisory.queue = [] →
          exec (.supervisoryFrameReceived kind tag payload) s = exec (commandOf kind tag payload) s) ∧
        ((s.supervisory.resetWait ≠ .none ∨ 16 ≤ s.supervisory.outgoing.length) →
          s.supervisory.queue.length < 4 → exec (.supervisoryFrameReceived kind tag payload) s = .next
            { s with supervisory := { s.supervisory with
              queue := s.supervisory.queue ++ [{ kind, tag, payload }] } }) ∧
        (4 ≤ s.supervisory.queue.length → exec (.supervisoryFrameReceived kind tag payload) s = .next
          { s with
            counter := countedOnce .framesDiscarded s
            supervisory := { s.supervisory with
              overflows := min 65535 (s.supervisory.overflows + 1) } })) ∧
      exec (.supervisoryFrameDiscard .check) s = .next { s with
        counter := countedOnce .framesDiscarded s
        supervisory := { s.supervisory with
          checkErrors := min 65535 (s.supervisory.checkErrors + 1) } } ∧
      exec (.supervisoryFrameDiscard .format) s = .next { s with
        counter := countedOnce .framesDiscarded s
        supervisory := { s.supervisory with
          formatErrors := min 65535 (s.supervisory.formatErrors + 1) } } ∧
      exec .supervisoryGap s = .next { s with
        counter := countedOnce .framesDiscarded s
        supervisory := { s.supervisory with gapErrors := min 65535 (s.supervisory.gapErrors + 1) } }) ∧
  (∀ s : State, s.held = false → s.supervisory.resetWait = .none →
      (∀ (f : OutFrame) (rest : List OutFrame) (u : State), s.supervisory.outgoing = f :: rest →
        u = { s with supervisory := { s.supervisory with outgoing := rest, line := outBytes f } } →
        ((s.supervisory.queue = [] ∨ 16 ≤ rest.length) → exec .supervisoryFrameSent s = .next u) ∧
        (∀ c q, s.supervisory.queue = c :: q → rest.length < 16 →
          exec .supervisoryFrameSent s = exec (commandOf c.kind c.tag c.payload) u)) ∧
      (s.supervisory.outgoing = [] → s.supervisory.queue = [] → exec .supervisoryFrameSent s = .next
        { s with supervisory := { s.supervisory with line := [] } })) ∧
  (∀ (kind tag b : Byte) (payload : List Byte) (gap : Nat) (rest : List Arrival) (s : State),
      s.held = false → s.pending = [] →
      s.arriving = .char .supervisory { gap, byte := some b } :: rest →
      payload.length ≤ 250 → s.inputs.supervisory.heard ≠ [] →
      s.inputs.supervisory.heard.map (·.2) ++ [b] = frameBytes kind tag payload →
      (∀ x ∈ s.inputs.supervisory.heard.tail, x.1 ≤ 20000) → s.inputs.supervisory.lost + gap ≤ 20000 →
      step s = exec (.supervisoryFrameReceived kind tag payload)
        { s with arriving := rest, inputs := { s.inputs with supervisory := { heard := [], lost := 0 } } })

/-! ### Resets -/

/-- R176: a POWER reset, and the release of the reset line after a LINE or a POWER reset, take the factory
defaults into UNCONFIGURED where the marker is invalid; where it is valid they take the stored image and enter
ADOPT with a used channel, RUN without one, or UNCONFIGURED, as its flag says (clock, queues and the inputs'
levels last over it, assumption logs 2, 14 and 15; a POWER reset under an asserted line, assumption log 4; the
image of a write that the reset abandons stands as it was, assumption log 5). -/
def Obligations.ResetsLoadByMarker : Prop :=
  ∀ (i : Instr) (kind : ResetKind) (s : State),
    ((i = .powerReset ∧ kind = .power ∧ s.held = false) ∨
     (i = .lineResetRelease ∧ kind = s.lastReset ∧ kind ≠ .command ∧ s.held = true)) →
    (s.store.valid = false → exec i s = .next
      { State.reset with
        pending := s.pending, arriving := s.arriving, pins := s.pins, now := s.now, lastReset := kind
        store := { s.store with writing := none } }) ∧
    (s.store.valid = true →
      ∃ t, exec i s = .next t ∧ t.cfg = s.store.image.config ∧ t.held = false ∧
        t.commissioned = s.store.image.commissioned ∧ t.lastReset = kind ∧
        t.store = { s.store with writing := none } ∧ t.inputs = resetInputs ∧
        (s.store.image.commissioned = false → t.partState = .unconfigured ∧ t.field.line = []) ∧
        (s.store.image.commissioned = true →
          (∃ c : Chan, usedConfig s.store.image.config.channels[c] = true) →
          t.partState = .adopt ∧ t.field.line = pollAllBytes ∧
          t.adoptionTimer = some (s.now + 2000) ∧ t.field.period = some (s.now + 500)) ∧
        t.admission.credit = s.store.image.config.budget.bothCap ∧
        (s.store.image.commissioned = true →
          (∀ c : Chan, usedConfig s.store.image.config.channels[c] = false) → t.partState = .run))

/-- R175, R187: the assertion of the reset line resets every block to its values after reset and holds the
part; while it is held every row but a reset finds it so and changes nothing (that the part is then in
UNCONFIGURED with its working configuration and flag kept until the release is the model's choice, assumption
log 4, and that the image of an abandoned write stands as it was, assumption log 5). The reset input is
asserted once it has been high for 10 ms, a shorter pulse is not taken, and its fall while the part is held is
the release (the levels that arrive and their order among events are the model's, assumption log 15). -/
def Obligations.ResetLineHolds : Prop :=
  (∀ s : State, s.held = false → exec .lineResetAssert s = .next
    { State.reset with
      pending := s.pending, arriving := s.arriving, pins := s.pins, now := s.now, held := true
      lastReset := .line
      cfg := s.cfg, commissioned := s.commissioned
      store := { s.store with writing := none }
      admission := { credit := s.cfg.budget.bothCap, feed := .both, refillTimer := none, queue := [] }
      contexts := Vector.ofFn fun k => resetContext s.cfg.computers[k] }) ∧
  (∀ (i : Instr) (s : State), s.held = true → i ≠ .powerReset → i ≠ .lineResetRelease →
    exec i s = .next s) ∧
  (∀ (others : List Arrival) (s u : State), s.pending = [] → FiltersOpen s →
    (s.arriving = .level .resetLine true :: others → s.pins.reset.high = false →
      step s = .next { s with
        arriving := others
        pins := { s.pins with reset := { high := true, filter := some (s.now + 10) } } }) ∧
    (s.arriving = .level .resetLine false :: others → s.pins.reset.high = true →
      u = { s with
        arriving := others
        pins := { s.pins with reset := { high := false, filter := none } } } →
      (s.held = false → step s = .next u) ∧ (s.held = true → step s = exec .lineResetRelease u))) ∧
  ∀ (ends : Nat) (s : State), s.pending = [] → s.pins.reset.filter = some ends → ends ≤ s.now →
    (∀ input char others, s.arriving ≠ .char input char :: others) →
    step s = exec .lineResetAssert { s with
      pins := { s.pins with reset := { s.pins.reset with filter := none } } }

/-! ### Computer lines -/

/-- R64, R66: a DEMAND in SETTLE, JOIN, PAUSED, FAULT or VACANT is discarded and counted, and still sets
the expectation; outside RUN the line is ignored (R63). -/
def Obligations.UnwantedDemandIsDiscarded : Prop :=
  ∀ (k : Slot) (seq : Nat) (h : Health) (pairs : List (Nat × Nat)) (s : State), s.held = false →
    (s.partState = .run → s.contexts[k].state ≠ .track → s.contexts[k].state ≠ .control →
      s.contexts[k].state ≠ .lost → exec (.demand k seq h pairs) s = .next { s with
        counter := countedOnce .reportsDiscarded s
        ports := s.ports.set k { s.ports[k] with expectation := some ((seq + 1) % 256) } }) ∧
    (s.partState ≠ .run → exec (.demand k seq h pairs) s = .next s)

/-- R65 to R68: in CONTROL a GOOD report records, for each owned channel it names, the last demand it
carries clamped to 1000, restarts the report timer and keeps the slot in CONTROL. -/
def Obligations.DemandInControlIsFollowed : Prop :=
  ∀ (k : Slot) (seq : Nat) (pairs : List (Nat × Nat)) (s : State), Running s →
    s.contexts[k].state = .control →
    ∃ t, exec (.demand k seq .good pairs) s = .next t ∧ t.cfg = s.cfg ∧
      t.contexts = s.contexts.set k { s.contexts[k] with lastHealth := some .good } ∧
      t.ports = s.ports.set k { s.ports[k] with
        expectation := some ((seq + 1) % 256)
        reportTimer := some (s.now + s.cfg.computers[k].reportTimeout) } ∧
      ∀ c : Chan, t.channels[c].demand =
        if owns s k c = true then
          (match (pairs.filter fun p => p.1 == c.val).getLast? with
          | some p => some (min p.2 1000)
          | none => s.channels[c].demand)
        else s.channels[c].demand

/-- R86, R87, R88, R142: a report in TRACK after which every counted channel stands at the required matches
brings CONTROL with GRANT, failures 0 and COMPUTER_CONTROL, where no plan executes and nothing waits. Where a
plan runs, a RESTART step that names the slot and is ordered completes at that CONTROL if its cause is ORDERED,
and a RESUME step whose request was accepted, and the next step, here a WAIT, starts; any other step stays. -/
def Obligations.AgreementBringsControl : Prop :=
  (∀ (k : Slot) (seq : Nat) (h : Health) (pairs : List (Nat × Nat)) (s : State), Running s →
    s.contexts[k].state = .track → NoPlan s → NoneWaiting s → s.ports[k].sendList.length < 8 →
    Agrees k pairs s →
    ∃ t, exec (.demand k seq h pairs) s = .next t ∧
      t.contexts = s.contexts.set k { s.contexts[k] with
        state := .control, phase := none, failures := 0, inProgress := false, lastHealth := some h
        settleTimer := none, helloTimer := none, imageTimer := none, trackTimer := none } ∧
      t.ports[k].sendList = s.ports[k].sendList ++
        [.grant s.contexts[k].generation (ownedBy s k).length] ∧
      t.ports[k].reportTimer = some (s.now + s.cfg.computers[k].reportTimeout) ∧
      t.events[(0 : Fin 16)] = { latched := true, item := some (.slot k) } ∧
      countOf t (boreOf s k) =
        countOf s (boreOf s k) - (if s.contexts[k].inProgress = true then 1 else 0)) ∧
  ∀ (k : Slot) (seq : Nat) (h : Health) (pairs : List (Nat × Nat)) (p : PlanNo) (i : Nat) (st : PlanStep)
    (s : State), Running s → s.contexts[k].state = .track → RunsStep p i st s → NoneWaiting s →
    s.ports[k].sendList.length < 8 → Agrees k pairs s →
    ∃ t, exec (.demand k seq h pairs) s = .next t ∧ t.contexts[k].state = .control ∧
      (∀ next, s.cfg.plans[p].steps[i + 1]? = some next → next.kind = .wait → st.operand = k.val →
        ((st.kind = .restart ∧ s.executor.watch.ordered = true ∧
            s.contexts[k].trackCause = some .ordered) ∨
          (st.kind = .resume ∧ s.executor.watch.resumed = true)) →
        t.executor = waitingAt (i + 1) next s.now s.executor) ∧
      ((st.operand ≠ k.val ∨ (st.kind ≠ .restart ∧ st.kind ≠ .resume) ∨
          (st.kind = .restart ∧ (s.executor.watch.ordered = false ∨
            s.contexts[k].trackCause ≠ some .ordered)) ∨
          (st.kind = .resume ∧ s.executor.watch.resumed = false)) →
        t.executor = s.executor)

/-- R90 to R92: a DEGRADED report in CONTROL latches BREAK under every policy. Under IGNORE the slot stays in
CONTROL and the report has its notice (R165, R166); under RETRACK it enters TRACK with cause BREAK, match
counts 0 and REVOKE (BREAK) sent; under RESTART a RECOVERY request follows that TRACK, issued with a free
window slot, joined to the slot's entry where it waits, else appended with WINDOW_WAIT (where in the event it
is made is assumption log 12). -/
def Obligations.BreakIsTakenByPolicy : Prop :=
  ∀ (k : Slot) (seq : Nat) (pairs : List (Nat × Nat)) (s : State), Running s →
    s.contexts[k].state = .control → s.ports[k].sendList.length < 7 →
    ∃ t, exec (.demand k seq .degraded pairs) s = .next t ∧
      t.events[(4 : Fin 16)] = { latched := true, item := some (.slot k) } ∧
      (s.cfg.computers[k].breakPolicy = .ignore → t.contexts[k].state = .control ∧
        t.ports[k].sendList = s.ports[k].sendList ∧ t.supervisory.outgoing = noticeAfter 4 s t) ∧
      (s.cfg.computers[k].breakPolicy ≠ .ignore →
        ∀ c : Chan, owns s k c = true → t.channels[c].matchCount = 0) ∧
      (s.cfg.computers[k].breakPolicy = .retrack → t.contexts[k].state = .track ∧
        t.contexts[k].trackCause = some .broke ∧ t.window = s.window ∧
        t.ports[k].sendList = s.ports[k].sendList ++ [.revoke .broke]) ∧
      (s.cfg.computers[k].breakPolicy = .restart → s.contexts[k].inProgress = false →
        (isWaiting s k = true → t.contexts[k].state = .track ∧ t.contexts[k].trackCause = some .broke ∧
          t.window = { s.window with waitList := s.window.waitList.map fun e =>
            if e.slot = k then joinEntry .recovery e else e } ∧
          t.ports[k].sendList = s.ports[k].sendList ++ [.revoke .broke]) ∧
        (isWaiting s k = false →
          (limitOf s (boreOf s k) ≤ countOf s (boreOf s k) ∨ boreWaits s (boreOf s k) = true) →
          t.contexts[k].state = .track ∧ t.contexts[k].trackCause = some .broke ∧
          t.window = { s.window with waitList := s.window.waitList ++
            [{ slot := k, source := .recovery, plan := none, mark := false, since := s.now }] } ∧
          t.events[(5 : Fin 16)] = { latched := true, item := some (.slot k) } ∧
          t.ports[k].sendList = s.ports[k].sendList ++ [.revoke .broke]) ∧
        (isWaiting s k = false → countOf s (boreOf s k) < limitOf s (boreOf s k) →
          boreWaits s (boreOf s k) = false →
          t.contexts[k].state = .settle ∧ t.contexts[k].inProgress = true ∧
          t.contexts[k].trackCause = none ∧ countOf t (boreOf s k) = countOf s (boreOf s k) + 1 ∧
          t.window.waitList = s.window.waitList ∧
          t.ports[k].sendList = s.ports[k].sendList ++
            [.revoke .broke, .restart s.cfg.computers[k].settleCode]))

/-- R80, R81, R95, R96: a HELLO in SETTLE is premature and counted; in JOIN, LOST, TRACK and CONTROL it raises
the generation and issues an IMAGE carrying it, in CONTROL behind a REVOKE (REJOIN), the image timer running
for 2 s, failures and flag kept; a slot that was not in JOIN has its report timer stopped and its demands made
absent; in PAUSED, FAULT and VACANT it is discarded and counted. -/
def Obligations.HelloBringsImage : Prop :=
  ∀ (k : Slot) (seq : Nat) (s : State), Running s →
    (s.contexts[k].state = .settle → exec (.hello k seq) s = .next
      { s with counter := countedOnce .prematureHello s }) ∧
    ((s.contexts[k].state = .join ∨ s.contexts[k].state = .lost ∨ s.contexts[k].state = .track ∨
        s.contexts[k].state = .control) → s.ports[k].sendList = [] →
      ∃ t entries, exec (.hello k seq) s = .next t ∧ t.cfg = s.cfg ∧ t.window = s.window ∧
        t.contexts[k].state = .join ∧ t.contexts[k].phase = some .image ∧
        t.contexts[k].generation = (s.contexts[k].generation + 1) % 65536 ∧
        t.contexts[k].failures = s.contexts[k].failures ∧
        t.contexts[k].inProgress = s.contexts[k].inProgress ∧
        t.contexts[k].imageTimer = some (s.now + 2000) ∧ t.contexts[k].helloTimer = none ∧
        (s.contexts[k].state ≠ .join → t.contexts[k].trackTimer = none ∧
          t.contexts[k].trackCause = none ∧ t.ports[k].reportTimer = none ∧
          t.ports[k].expectation = none ∧
          ∀ c : Chan, owns s k c = true → t.channels[c].demand = none) ∧
        t.ports[k].sendList = (if s.contexts[k].state = .control then [.revoke .rejoin] else []) ++
          [.image ((s.contexts[k].generation + 1) % 65536) entries] ∧
        entries.map (·.channel) = ownedBy s k) ∧
    ((s.contexts[k].state = .paused ∨ s.contexts[k].state = .fault ∨ s.contexts[k].state = .vacant) →
      exec (.hello k seq) s = .next { s with counter := countedOnce .reportsDiscarded s })

/-- R82, R83, R97, R98, R142: an IMAGE-OK of the present generation in JOIN phase IMAGE enters TRACK, cause
ORDERED with the flag set and REJOIN with it clear; an IMAGE-REJECT records its reason and fails the attempt
(`attemptFails`): RESTART is sent again with the flag set, with it clear the slot enters LOST and a RECOVERY
request follows, and the seventh failure takes it to FAULT, at which a RESTART step that names it fails; every
other reply is counted as stale. -/
def Obligations.ImageRepliesActOrAreStale : Prop :=
  (∀ (k : Slot) (seq gen : Nat) (s : State), Running s →
      (replyCurrent s.contexts[k] gen = true → ∃ t, exec (.imageOk k seq gen) s = .next t ∧
        t.cfg = s.cfg ∧ t.contexts = s.contexts.set k { s.contexts[k] with
          state := .track, phase := none
          trackCause := if s.contexts[k].inProgress = true then some .ordered else some .rejoin
          activeStyle := s.cfg.computers[k].style
          settleTimer := none, helloTimer := none, imageTimer := none
          trackTimer := if s.cfg.computers[k].trackTimeout = 0 then none
            else some (s.now + s.cfg.computers[k].trackTimeout * 1000) } ∧
        t.ports = s.ports.set k { s.ports[k] with
          reportTimer := some (s.now + s.cfg.computers[k].reportTimeout) } ∧
        ∀ c : Chan, owns s k c = true → t.channels[c].matchCount = 0) ∧
      (replyCurrent s.contexts[k] gen = false →
        exec (.imageOk k seq gen) s = .next { s with counter := countedOnce .staleImageReplies s })) ∧
  (∀ (k : Slot) (seq gen reason : Nat) (s : State), Running s →
      (replyCurrent s.contexts[k] gen = true → s.ports[k].sendList.length < 8 →
        ∃ t, exec (.imageReject k seq gen reason) s = .next t ∧ t.cfg = s.cfg ∧ t.now = s.now ∧
          t.contexts[k].generation = s.contexts[k].generation ∧ t.ports[k].lastReject = some reason ∧
          attemptFails k s t) ∧
      (replyCurrent s.contexts[k] gen = false → exec (.imageReject k seq gen reason) s = .next
        { s with counter := countedOnce .staleImageReplies s }))

/-- R62, R71: in RUN a discarded frame or a gap is counted at its port; the head order begins to be sent
with the send sequence, which rises by 1 modulo 256. R63: the characters of a computer line are skipped outside
RUN. R62, R187: in RUN bytes are skipped up to a start byte, a byte with a framing error takes time only, the
last byte of a frame in progress brings its row, and a byte after more than 20 ms cuts the frame, being
itself the start of another only if it is a start byte (the queue of characters: assumption log 14). -/
def Obligations.ComputerLineEvents : Prop :=
  (∀ (k : Slot) (s : State), Running s →
    exec (.computerFrameDiscard k .check) s = .next { s with
      counter := countedOnce .framesDiscarded s
      ports := s.ports.set k { s.ports[k] with
        checkErrors := min 65535 (s.ports[k].checkErrors + 1) } } ∧
    exec (.computerFrameDiscard k .format) s = .next { s with
      counter := countedOnce .framesDiscarded s
      ports := s.ports.set k { s.ports[k] with
        formatErrors := min 65535 (s.ports[k].formatErrors + 1) } } ∧
    exec (.computerGap k) s = .next { s with
      counter := countedOnce .framesDiscarded s
      ports := s.ports.set k { s.ports[k] with
        gapErrors := min 65535 (s.ports[k].gapErrors + 1) } } ∧
    (∀ o rest, s.ports[k].sendList = o :: rest → exec (.computerOrderSent k) s = .next { s with
      ports := s.ports.set k { s.ports[k] with
        sendList := rest, line := orderBytes s.ports[k].sendSequence o
        sendSequence := (s.ports[k].sendSequence + 1) % 256 } }) ∧
    (s.ports[k].sendList = [] → exec (.computerOrderSent k) s = .next { s with
      ports := s.ports.set k { s.ports[k] with line := [] } })) ∧
  (∀ (k : Slot) (gap : Nat) (char : Option Byte) (rest : List Arrival) (heardNow : Reception) (s : State),
      s.pending = [] → s.arriving = .char (.computer k) { gap, byte := char } :: rest →
      heardNow = s.inputs.computers[k] →
      (s.held = true ∨ s.partState ≠ .run → step s = .next { s with arriving := rest }) ∧
      (Running s →
        (char = none → step s = .next (withReception k { heardNow with lost := heardNow.lost + gap } rest s)) ∧
        (∀ b, char = some b → heardNow.heard = [] → step s = .next (withReception k
          { heard := if b = 0xA5 then [(heardNow.lost + gap, b)] else [], lost := 0 } rest s)) ∧
        (∀ (kind seq b : Byte) (payload later : List Byte), char = some b → payload.length ≤ 250 →
          heardNow.heard ≠ [] → (∀ x ∈ heardNow.heard.tail, x.1 ≤ 20000) →
          heardNow.heard.map (·.2) ++ later = frameBytes kind seq payload → later ≠ [] →
          (heardNow.lost + gap ≤ 20000 → later = [b] → step s =
            exec (computerRow k kind seq payload) (withReception k { heard := [], lost := 0 } rest s)) ∧
          (heardNow.lost + gap ≤ 20000 → later.head? = some b → later.length ≠ 1 → step s = .next
            (withReception k
              { heard := heardNow.heard ++ [(heardNow.lost + gap, b)], lost := 0 } rest s)) ∧
          (20000 < heardNow.lost + gap → step s = exec (.computerGap k) (withReception k
            { heard := if b = 0xA5 then [(heardNow.lost + gap, b)] else [], lost := 0 } rest s)))))

/-! ### The field line -/

/-- R14 to R18: a STATE record RUNNING for an adopted channel stops its start-confirm timer and clears its drive
fault; one that reports FAULT, or STOPPED while D is above 0 and no start is to be confirmed, sets the drive
fault with DRIVE_FAULT latched and the entry withdrawn, D and T unchanged; any other STOPPED only records the
run state; a record for an address above 47 or an unused channel, not polled, changes nothing. R180, R181,
R12, R21: a record adopts an unadopted used channel at the reported value, clamped to 1000, with no charge and
no SET record, the target following its fallback or its owner; in ADOPT the record that adopts the last of
them ends adoption and enters RUN. -/
def Obligations.StateRecordIsTaken : Prop :=
  (∀ (address value : Nat) (run : ModuleRun) (s : State), Running s → s.field.window = none →
      (∀ c : Chan, c.val = address → isUsed s c = true → s.channels[c].adopted = true →
        (∃ t, exec (.stateRecord address value .running) s = .next t ∧
          t = { s with channels := s.channels.set c t.channels[c] } ∧
          t.channels[c] = { s.channels[c] with
            runState := .running, startConfirm := none, driveFault := false
            matchCount := if s.channels[c].driveFault = true ∧
              s.cfg.channels[c].owner.isSome = true ∧ s.channels[c].forced = none then 0
              else s.channels[c].matchCount }) ∧
        ((s.channels[c].driven = none ∨ s.channels[c].driven = some 0 ∨
            s.channels[c].startConfirm.isSome = true) →
          exec (.stateRecord address value .stopped) s = .next
            { s with channels := s.channels.set c { s.channels[c] with runState := .stopped } })) ∧
      (47 < address → exec (.stateRecord address value run) s = .next s) ∧
      (∀ c : Chan, c.val = address → isUsed s c = false →
        exec (.stateRecord address value run) s = .next s)) ∧
  (∀ (c : Chan) (value : Nat) (s : State), Running s → isUsed s c = true →
      s.channels[c].adopted = true → s.channels[c].driveFault = false →
      ∀ (run : ModuleRun) (seen : RunState),
        ((run = .fault ∧ seen = .fault) ∨ (run = .stopped ∧ seen = .stopped ∧
          s.channels[c].startConfirm = none ∧ ∃ d, s.channels[c].driven = some d ∧ 0 < d)) →
        ∃ t, exec (.stateRecord c.val value run) s = .next t ∧
          t.channels = s.channels.set c { s.channels[c] with
            runState := seen, driveFault := true, startConfirm := none } ∧
          t.admission = { s.admission with queue := s.admission.queue.filter (·.channel != c) } ∧
          t.events[(11 : Fin 16)] = { latched := true, item := some (.channel c) } ∧
          t.field.sendList = s.field.sendList) ∧
  (∀ (c : Chan) (value : Nat) (s : State), Running s → isUsed s c = true →
      s.channels[c].adopted = false → s.channels[c].forced = none → s.admission.queue = [] →
      ∃ t, exec (.stateRecord c.val value .running) s = .next t ∧
        t.channels[c].adopted = true ∧ t.channels[c].driven = some (min value 1000) ∧
        t.channels[c].runState = .running ∧ t.admission = s.admission ∧
        t.field.sendList = s.field.sendList ∧
        (leavesFallback s s.cfg.channels[c].owner = true → t.channels[c].mode = .fallback ∧
          (s.cfg.channels[c].fallbackKind = .fixed →
            t.channels[c].target = some s.cfg.channels[c].fallbackValue)) ∧
        (∀ k, s.cfg.channels[c].owner = some k →
          t.channels[c].matchCount = 0 ∧
          (s.contexts[k].state = .control → t.channels[c].mode = .follow ∧
            t.channels[c].target = some (s.channels[c].demand.getD (min value 1000))) ∧
          ((s.contexts[k].state = .settle ∨ s.contexts[k].state = .join) →
            s.channels[c].mode = .unadopted →
            t.channels[c].mode = .hold ∧ t.channels[c].target = some (min value 1000))) ∧
        ∀ d : Chan, d ≠ c → t.channels[d] = s.channels[d]) ∧
  (∀ (c : Chan) (value : Nat) (s : State), s.held = false → s.partState = .adopt → isUsed s c = true →
      s.channels[c].adopted = false → s.channels[c].forced = none → s.admission.queue = [] →
      ∃ t, exec (.stateRecord c.val value .running) s = .next t ∧ t.cfg = s.cfg ∧
        t.channels[c].adopted = true ∧ t.channels[c].driven = some (min value 1000) ∧
        t.channels[c].runState = .running ∧ t.admission.credit = s.admission.credit ∧
        t.field.sendList = s.field.sendList ∧
        ((∃ d : Chan, d ≠ c ∧ isUsed s d = true ∧ s.channels[d].adopted = false) →
          t.partState = .adopt ∧ t.adoptionTimer = s.adoptionTimer ∧ t.contexts = s.contexts ∧
          ∀ d : Chan, d ≠ c → t.channels[d] = s.channels[d]) ∧
        ((∀ d : Chan, d ≠ c → isUsed s d = true → s.channels[d].adopted = true) →
          t.partState = .run ∧ t.adoptionTimer = none ∧ t.stepTimer = some (s.now + 100) ∧
          t.admission.refillTimer = some (s.now + 100) ∧ t.events = s.events ∧
          ∀ k : Slot, s.cfg.computers[k].enabled = true → s.contexts[k].state = .lost →
            t.contexts[k].state = .track ∧ t.contexts[k].trackCause = some .start))

/-- R13, R14, R188: a discarded record or a gap is counted in ADOPT and RUN; an answer window that expires
makes the polled channel's run state UNKNOWN; an answer period that ends in RUN lets the send list go out
(clock: assumption log 2). R173, R186: the characters of the field line are skipped in UNCONFIGURED; in ADOPT
and RUN the last byte of a STATE record in progress brings it (the queue of characters: assumption log 14). -/
def Obligations.FieldLineTimesAndDiscards : Prop :=
  (∀ (i : Instr) (s : State), i = .fieldRecordDiscard ∨ i = .fieldGap → s.held = false →
      (s.partState ≠ .unconfigured →
        exec i s = .next { s with counter := countedOnce .framesDiscarded s }) ∧
      (s.partState = .unconfigured → exec i s = .next s)) ∧
  (∀ (deadline : Nat) (s : State), s.held = false →
      (∀ c : Chan, s.field.window = some { channel := c, deadline } →
        exec .answerWindow s = .next { s with
          now := clockAt deadline s
          field := { s.field with window := none }
          channels := s.channels.set c { s.channels[c] with runState := .unknown } }) ∧
      (∀ r rest, s.field.period = some deadline → s.partState = .run →
        s.field.sendList = r :: rest → exec .answerPeriod s = .next { s with
          now := clockAt deadline s
          field := { s.field with period := none, sendList := rest, line := setBytes r } })) ∧
  (∀ (address value gap : Nat) (run : ModuleRun) (b : Byte) (rest : List Arrival) (s : State),
      s.held = false → s.pending = [] →
      s.arriving = .char .field { gap, byte := some b } :: rest →
      (s.partState = .unconfigured → step s = .next { s with arriving := rest }) ∧
      (s.partState ≠ .unconfigured → address ≤ 255 → value ≤ 65535 → s.inputs.field.heard ≠ [] →
        s.inputs.field.heard.map (·.2) ++ [b] = recordBytes (byteOf address) 0x04 value
          (match run with | .running => 1 | .stopped => 2 | .fault => 3) →
        (∀ x ∈ s.inputs.field.heard.tail, x.1 ≤ 20000) → s.inputs.field.lost + gap ≤ 20000 →
        step s = exec (.stateRecord address value run)
          { s with arriving := rest, inputs := { s.inputs with field := { heard := [], lost := 0 } } }))

/-- R13: in RUN a free field line sends the SET record at the head of the send list, or, where it is
empty and channels are used, a POLL whose answer window opens for 50 ms; while a window is open or an
answer period runs nothing is sent. -/
def Obligations.FieldLineSendsNext : Prop :=
  ∀ s : State, Running s →
    (s.field.window = none → s.field.period = none →
      (∀ r rest, s.field.sendList = r :: rest → exec .fieldLineFree s = .next
        { s with field := { s.field with sendList := rest, line := setBytes r } }) ∧
      (s.field.sendList = [] → (∃ c : Chan, isUsed s c = true) →
        ∃ c : Chan, isUsed s c = true ∧ exec .fieldLineFree s = .next
          { s with field := { s.field with
            window := some { channel := c, deadline := s.now + 50 }
            next := c.val + 1, line := pollBytes c } } ∧
          (∀ d : Chan, isUsed s d = true → s.field.next ≤ d.val → s.field.next ≤ c.val ∧ c ≤ d) ∧
          (c.val < s.field.next → ∀ d : Chan, isUsed s d = true → c ≤ d))) ∧
    (s.field.window.isSome = true ∨ s.field.period.isSome = true →
      exec .fieldLineFree s = .next s)

/-! ### Timers of the plant -/

/-- R8, R9, R12, R15, R32: at a step expiry every adopted channel above its target falls at once, by one step
size at most, to no less than its target, its SET record with the new value takes the place of a waiting one or
joins the send list (in ascending order, assumption log 13), and a fall to 0 stops its start-confirm timer.
Then every adopted channel below its target without a drive fault puts its rise, one step size at most:
standing entries are overwritten in their places, new ones join at the back in ascending channel order; and the
queue is served once, where any request was put. With no entry of a drive-faulted channel waiting, no channel
rises by more than its step size (clock: assumption log 2). -/
def Obligations.StepExpiryTakesFalls : Prop :=
  ∀ (deadline : Nat) (s : State), s.held = false → s.stepTimer = some deadline →
    ∃ t u, exec .stepTimer s = .next t ∧
      t = (if (risers s).isEmpty then u else serve u) ∧
      u.now = clockAt deadline s ∧ u.stepTimer = some (clockAt deadline s + 100) ∧ u.cfg = s.cfg ∧
      u.contexts = s.contexts ∧ u.executor = s.executor ∧
      (∀ c : Chan, u.channels[c].target = s.channels[c].target ∧
        u.channels[c].driven =
          (match s.channels[c].adopted, s.channels[c].driven, s.channels[c].target with
          | true, some d, some g =>
            if g < d then some (max g (d - stepSize s.cfg.channels[c])) else some d
          | _, d, _ => d) ∧
        u.channels[c].startConfirm =
          if c ∈ fallers s ∧ u.channels[c].driven = some 0 then none else s.channels[c].startConfirm) ∧
      u.field = { s.field with sendList := recordsPut (fallers s) u s.field.sendList } ∧
      u.admission = { s.admission with queue :=
        (s.admission.queue.map fun e =>
          if e.channel ∈ risers s then { e with wanted := stepRise s e.channel } else e) ++
        (((risers s).filter fun c => s.admission.queue.all (·.channel != c)).map fun c =>
          { channel := c, wanted := stepRise s c, joined := clockAt deadline s, reported := false
            starvation := some (clockAt deadline s + 10000) }) } ∧
      (PlantLaw s → (∀ e ∈ s.admission.queue, s.channels[e.channel].driveFault = false) →
        ∀ (c : Chan) (d d' : Nat), s.channels[c].driven = some d → t.channels[c].driven = some d' →
          d' ≤ d + stepSize s.cfg.channels[c])

/-- R35 to R38, R11, R12, R15: one serving grants a run of entries from the head in full, each with the start
charge and one weight within the credit that those before it have left, and every su that goes from credit is
the charge of a grant. It ends with the queue empty; or at a head whose start charge and one weight are above
the credit left, to which nothing is granted; or with a partial grant of all the rise that the credit left
affords, its entry keeping its place with the rest of its wanted rise, its flag clear and its timer started
again. Every grant puts the channel's SET record, in place of a waiting one or at the back, and one from 0
starts the start-confirm timer for 5 s. A channel without a grant is left as it was. -/
def Obligations.ServingIsHeadFirst : Prop :=
  ∀ s : State, (s.admission.queue.map (·.channel)).Nodup → (∀ e ∈ s.admission.queue, 1 ≤ e.wanted) →
    ∃ (granted left : List AdmissionEntry), s.admission.queue = granted ++ left ∧
      (∀ (i : Nat) (e : AdmissionEntry), granted[i]? = some e →
        chargeFor s e.channel 0 + max s.cfg.channels[e.channel].weight 1 +
          chargeInFull s (granted.take i) ≤ s.admission.credit ∧
        (serve s).channels[e.channel].driven =
          some (s.channels[e.channel].driven.getD 0 + e.wanted) ∧
        (serve s).channels[e.channel].startConfirm = confirmAfterGrant s e.channel) ∧
      (∀ c : Chan, (∀ e ∈ s.admission.queue, e.channel ≠ c) → (serve s).channels[c] = s.channels[c]) ∧
      ((left = [] ∧ (serve s).admission.queue = [] ∧
          (serve s).field = { s.field with
            sendList := recordsPut (granted.map (·.channel)) (serve s) s.field.sendList } ∧
          (serve s).admission.credit + chargeInFull s granted = s.admission.credit) ∨
       (∃ e rest, left = e :: rest ∧ (serve s).admission.queue = left ∧
          (serve s).field = { s.field with
            sendList := recordsPut (granted.map (·.channel)) (serve s) s.field.sendList } ∧
          (serve s).admission.credit + chargeInFull s granted = s.admission.credit ∧
          (serve s).admission.credit <
            chargeFor s e.channel 0 + max s.cfg.channels[e.channel].weight 1 ∧
          ∀ x ∈ left, (serve s).channels[x.channel] = s.channels[x.channel]) ∨
       (∃ e rest g, left = e :: rest ∧ 1 ≤ g ∧ g < e.wanted ∧
          g = (s.admission.credit - chargeInFull s granted - chargeFor s e.channel 0) /
            s.cfg.channels[e.channel].weight ∧
          (serve s).admission.credit + chargeInFull s granted + chargeFor s e.channel g =
            s.admission.credit ∧
          (serve s).channels[e.channel].driven = some (s.channels[e.channel].driven.getD 0 + g) ∧
          (serve s).channels[e.channel].startConfirm = confirmAfterGrant s e.channel ∧
          (serve s).field = { s.field with
            sendList := recordsPut ((granted ++ [e]).map (·.channel)) (serve s) s.field.sendList } ∧
          (serve s).admission.queue =
            { e with wanted := e.wanted - g, reported := false, starvation := some (s.now + 10000) } ::
              rest ∧
          ∀ x ∈ rest, (serve s).channels[x.channel] = s.channels[x.channel]))

/-- R15, R40, R55: the start-confirm timer's expiry sets the drive fault, the starvation timer's latches
BUDGET_STARVED and marks the entry, the age timer's sets the stale flag; none is restarted, and the first
latching of each kind while it is unmasked brings an EVENT notice, or renews the one that waits, in its place
(R165, R166). R29: a refill expiry adds the refill up to the current cap, starts its timer again, serves the
queue once, and then an AWAIT-CREDIT step that runs completes where the credit left reaches its operand, the
next step, here a WAIT, starting in the same event (clock: assumption log 2). -/
def Obligations.PlantTimersAct : Prop :=
  ∀ (deadline : Nat) (c : Chan) (s : State), s.held = false →
    (s.channels[c].startConfirm = some deadline → s.channels[c].driveFault = false →
      ∃ t, exec (.startConfirmTimer c) s = .next t ∧
        t.channels = s.channels.set c { s.channels[c] with driveFault := true, startConfirm := none } ∧
        t.events[(11 : Fin 16)] = { latched := true, item := some (.channel c) } ∧
        t.supervisory.outgoing = noticeAfter 11 s t) ∧
    (∀ e ∈ s.admission.queue, (s.admission.queue.map (·.channel)).Nodup → e.channel = c →
      e.reported = false → e.starvation = some deadline → ∃ t, exec (.starvationTimer c) s = .next t ∧
        t.admission = { s.admission with queue := s.admission.queue.map fun x =>
          if x.channel = c then { x with starvation := none, reported := true } else x } ∧
        t.channels = s.channels ∧
        t.events[(10 : Fin 16)] = { latched := true, item := some (.channel c) } ∧
        t.supervisory.outgoing = noticeAfter 10 s t) ∧
    (s.daylight.ageTimer = some deadline → ∃ t, exec .ageTimer s = .next t ∧
      t.daylight = { s.daylight with ageTimer := none, stale := true } ∧ t.channels = s.channels ∧
      t.events[(12 : Fin 16)] = { latched := true, item := none } ∧
      t.supervisory.outgoing = noticeAfter 12 s t) ∧
    (∀ r : State, s.admission.refillTimer = some deadline →
      r = { s with
        now := clockAt deadline s
        admission := { s.admission with
          refillTimer := some (clockAt deadline s + 100)
          credit := min (match s.admission.feed with
            | .both => s.cfg.budget.bothCap
            | .single => s.cfg.budget.singleCap) (s.admission.credit + s.cfg.budget.refill) } } →
      (NoPlan s → s.admission.queue = [] → exec .refillTimer s = .next r) ∧
      (NoPlan s → exec .refillTimer s = .next (serve r)) ∧
      (∀ (p : PlanNo) (i : Nat) (st : PlanStep), s.executor.state = .running → s.executor.plan = some p →
        s.executor.step = some i → s.cfg.plans[p].steps[i]? = some st → st.kind = .awaitCredit →
        ((serve r).admission.credit < st.operand → exec .refillTimer s = .next (serve r)) ∧
        (∀ next, st.operand ≤ (serve r).admission.credit → s.cfg.plans[p].steps[i + 1]? = some next →
          next.kind = .wait → exec .refillTimer s = .next { serve r with
            executor := waitingAt (i + 1) next (clockAt deadline s) s.executor })))

/-! ### Timers of the computers -/

/-- R69, R80, R89, R93, R97: a report timer's expiry sets the report-lost flag and takes a slot in CONTROL to
LOST with COMPUTER_LOST latched, one in TRACK with the flag clear to LOST with nothing latched; in TRACK with
the flag set it fails the attempt (`attemptFails`); a settle timer's expiry enters JOIN phase HELLO with the
hello timer running for 60 s (clock: assumption log 2). -/
def Obligations.ReportAndSettleTimers : Prop :=
  (∀ (deadline : Nat) (k : Slot) (s : State), Running s → s.ports[k].reportTimer = some deadline →
      s.contexts[k].inProgress = false →
      (s.contexts[k].state = .control → ∃ t, exec (.reportTimer k) s = .next t ∧
        t.contexts[k].state = .lost ∧ t.ports[k].reportLost = true ∧ t.ports[k].reportTimer = none ∧
        t.ports[k].sendList = s.ports[k].sendList ∧ t.window = s.window ∧
        t.events[(1 : Fin 16)] = { latched := true, item := some (.slot k) } ∧
        t.supervisory.outgoing = noticeAfter 1 s t) ∧
      (s.contexts[k].state = .track → ∃ t, exec (.reportTimer k) s = .next t ∧
        t.contexts[k].state = .lost ∧ t.ports[k].reportLost = true ∧ t.ports[k].reportTimer = none ∧
        t.ports[k].sendList = s.ports[k].sendList ∧ t.window = s.window ∧ t.events = s.events)) ∧
  (∀ (deadline : Nat) (k : Slot) (s : State), Running s → s.ports[k].reportTimer = some deadline →
      s.contexts[k].inProgress = true → s.contexts[k].state = .track → s.ports[k].sendList.length < 8 →
      ∃ t, exec (.reportTimer k) s = .next t ∧ t.now = clockAt deadline s ∧ t.cfg = s.cfg ∧
        t.ports[k].reportLost = true ∧ attemptFails k { s with now := clockAt deadline s } t) ∧
  (∀ (deadline : Nat) (k : Slot) (s : State), Running s → s.contexts[k].settleTimer = some deadline →
      s.contexts[k].state = .settle →
      ∃ t, exec (.settleTimer k) s = .next t ∧ t.cfg = s.cfg ∧ t.window = s.window ∧
        t.contexts = s.contexts.set k { s.contexts[k] with
          state := .join, phase := some .hello, trackCause := none, settleTimer := none
          helloTimer := some (clockAt deadline s + 60000), imageTimer := none, trackTimer := none } ∧
        t.ports = s.ports.set k { s.ports[k] with expectation := none, reportTimer := none } ∧
        t.events = s.events)

/-- R81, R84, R89, R97, R98, R142: an expired hello, image or track timer fails the attempt (`attemptFails`).
Below the seventh failure, with the flag set, RESTART is sent again and the slot enters SETTLE; with the flag
clear it enters LOST and a RECOVERY request follows, issued with a free window slot, joined to the slot's entry
where it waits, else appended with WINDOW_WAIT. The seventh failure, where no plan executes, takes it to FAULT,
frees its window slot, takes its RECOVERY entry off the list and latches COMPUTER_FAULT; where one does, a
RESTART step that names the slot fails (R142), and any other stays (clock: assumption log 2; place of the
derivation in FAULT: assumption log 8). -/
def Obligations.AttemptTimersFail : Prop :=
  ∀ (deadline : Nat) (k : Slot) (i : Instr) (s : State), Running s → s.ports[k].sendList.length < 8 →
    ((i = .helloTimer k ∧ s.contexts[k].helloTimer = some deadline ∧ s.contexts[k].state = .join) ∨
     (i = .imageTimer k ∧ s.contexts[k].imageTimer = some deadline ∧ s.contexts[k].state = .join) ∨
     (i = .trackTimer k ∧ s.contexts[k].trackTimer = some deadline ∧ s.contexts[k].state = .track)) →
    ∃ t, exec i s = .next t ∧ t.now = clockAt deadline s ∧ t.cfg = s.cfg ∧
      attemptFails k { s with now := clockAt deadline s } t

/-! ### Plans, adoption, trigger -/

/-- R127, R131, R139 to R145, R148: at its timer's expiry a WAIT step completes, and any other kind fails,
which under ABORT ends the plan ABORTED_FAIL and under SKIP is counted with STEP_FAILED latched. After a
completion the next step starts as R128 to R133 give for its kind (`stepBegins`), after a skip too, here a
WAIT; where there is none the pass ends: the last pass ends the plan DONE, an ON_TRIGGER plan and one within
its period enter PASS_WAIT, a stretched one and one with period 0 start the next pass at once. A pass timer
that expires in PASS_WAIT starts the next pass, and while RUNNING it ends the plan ABORTED_OVERRUN under ABORT
and sets the stretched flag under STRETCH (clock: assumption log 2). -/
def Obligations.PlanTimersDecide : Prop :=
  (∀ (deadline i : Nat) (p : PlanNo) (st : PlanStep) (s : State), s.held = false →
      s.executor.stepTimer = some deadline → s.executor.state = .running → s.executor.plan = some p →
      s.executor.step = some i → s.cfg.plans[p].steps[i]? = some st →
      (st.kind = .wait → i + 1 = s.cfg.plans[p].steps.length →
        s.executor.passes < 15 → s.cfg.plans[p].passCount = s.executor.passes + 1 →
        ∃ t, exec .planStepTimer s = .next t ∧ t.executor.state = .idle ∧
          t.executor.lastResult = .done ∧ t.executor.passes = s.executor.passes + 1 ∧
          t.executor.step = none ∧ t.executor.stepTimer = none ∧ t.executor.passTimer = none ∧
          t.events[(6 : Fin 16)] = { latched := true, item := none } ∧ t.contexts = s.contexts) ∧
      (st.kind ≠ .wait → s.cfg.plans[p].onFail = .abort →
        ∃ t, exec .planStepTimer s = .next t ∧ t.executor.state = .idle ∧
          t.executor.lastResult = .abortedFail ∧ t.executor.passes = s.executor.passes ∧
          t.executor.skipped = min 255 (s.executor.skipped + 1) ∧
          t.events[(9 : Fin 16)].latched = true ∧
          t.events[(7 : Fin 16)] = { latched := true, item := none } ∧ t.contexts = s.contexts) ∧
      (∀ next, s.cfg.plans[p].steps[i + 1]? = some next →
        (st.kind = .wait → ∃ t, exec .planStepTimer s = .next t ∧ stepBegins p (i + 1) next
          { s with now := clockAt deadline s, executor := { s.executor with stepTimer := none } } t) ∧
        (st.kind ≠ .wait → s.cfg.plans[p].onFail = .skip → next.kind = .wait →
          ∃ t, exec .planStepTimer s = .next t ∧
            t.executor = { waitingAt (i + 1) next (clockAt deadline s) s.executor with
              skipped := min 255 (s.executor.skipped + 1) } ∧
            t.events[(9 : Fin 16)].latched = true ∧ t.contexts = s.contexts ∧ t.window = s.window)) ∧
      (i + 1 = s.cfg.plans[p].steps.length →
        (st.kind = .wait ∨ (st.kind ≠ .wait ∧ s.cfg.plans[p].onFail = .skip)) →
        s.executor.pendingStop = .none →
        (s.cfg.plans[p].passCount = 0 ∨ s.cfg.plans[p].passCount ≠ min 65535 (s.executor.passes + 1)) →
        ∃ t, exec .planStepTimer s = .next t ∧
          ((s.cfg.plans[p].startMode = .onTrigger ∨
              (s.executor.stretched = false ∧ 0 < s.cfg.plans[p].passPeriod)) →
            t.executor.state = .passWait ∧ t.executor.step = none ∧ t.executor.stepTimer = none ∧
            t.executor.passes = min 65535 (s.executor.passes + 1) ∧
            t.executor.passTimer = s.executor.passTimer ∧ t.contexts = s.contexts) ∧
          (∀ first rest, s.cfg.plans[p].startMode = .immediate →
            (s.executor.stretched = true ∨ s.cfg.plans[p].passPeriod = 0) →
            s.cfg.plans[p].steps = first :: rest → first.kind = .wait →
            t.contexts = s.contexts ∧ t.executor = { waitingAt 0 first (clockAt deadline s) s.executor with
              passes := min 65535 (s.executor.passes + 1), stretched := false, skipped := t.executor.skipped
              passTimer := if s.executor.stretched = false then s.executor.passTimer
                else if s.cfg.plans[p].passPeriod = 0 then none
                else some (clockAt deadline s + s.cfg.plans[p].passPeriod * 1000) }))) ∧
  (∀ (deadline : Nat) (p : PlanNo) (first : PlanStep) (rest : List PlanStep) (s : State), s.held = false →
      s.executor.passTimer = some deadline → s.executor.state = .passWait → s.executor.plan = some p →
      s.cfg.plans[p].startMode = .immediate → s.cfg.plans[p].steps = first :: rest → first.kind = .wait →
      exec .passTimer s = .next { s with
        now := clockAt deadline s
        executor := { waitingAt 0 first (clockAt deadline s) s.executor with
          stretched := false
          passTimer := if s.cfg.plans[p].passPeriod = 0 then none
            else some (clockAt deadline s + s.cfg.plans[p].passPeriod * 1000) } }) ∧
  (∀ (deadline : Nat) (p : PlanNo) (s : State), s.held = false →
      s.executor.passTimer = some deadline → s.executor.state = .running → s.executor.plan = some p →
      ∃ t, exec .passTimer s = .next t ∧ t.executor.passTimer = none ∧
        t.events[(8 : Fin 16)] = { latched := true, item := none } ∧
        (s.cfg.plans[p].overrun = .abort → t.executor.state = .idle ∧
          t.executor.lastResult = .abortedOverrun ∧
          t.events[(7 : Fin 16)] = { latched := true, item := none }) ∧
        (s.cfg.plans[p].overrun = .stretch →
          t.executor = { s.executor with passTimer := none, stretched := true }))

/-- R146, R147, R187: what an edge does: in IDLE, and in an IMMEDIATE plan in PASS_WAIT or at a step that is no
WAIT-TRIGGER, it is counted and does nothing else; in ARMED, and in PASS_WAIT of an ON_TRIGGER plan, it starts
the next pass, here with a WAIT as first step; it completes a WAIT-TRIGGER step, the next step, here a WAIT,
starting in the same event; in a running ON_TRIGGER plan at another step it is an overrun. The input is taken
as an edge when it has been low for 10 ms and then high for 10 ms, at the end of the latter; shorter pulses are
not taken (the levels that arrive and their order among events are the model's, assumption log 15). -/
def Obligations.EdgeByExecutorState : Prop :=
  (∀ s : State, s.held = false →
    (s.executor.state = .idle → exec .planTriggerEdge s = .next
      { s with counter := countedOnce .triggerIgnored s }) ∧
    (∀ p, s.executor.plan = some p →
      (s.executor.state = .passWait → s.cfg.plans[p].startMode = .immediate →
        exec .planTriggerEdge s = .next { s with counter := countedOnce .triggerIgnored s }) ∧
      (∀ st rest,
        (s.executor.state = .armed ∨
          (s.executor.state = .passWait ∧ s.cfg.plans[p].startMode = .onTrigger)) →
        s.cfg.plans[p].steps = st :: rest → st.kind = .wait →
        exec .planTriggerEdge s = .next { s with
          executor := { waitingAt 0 st s.now s.executor with stretched := false } }) ∧
      (∀ i st, s.executor.state = .running → s.executor.step = some i →
        s.cfg.plans[p].steps[i]? = some st →
        (st.kind = .waitTrigger → ∀ next, s.cfg.plans[p].steps[i + 1]? = some next → next.kind = .wait →
          exec .planTriggerEdge s = .next { s with
            executor := waitingAt (i + 1) next s.now s.executor }) ∧
        (st.kind ≠ .waitTrigger → s.cfg.plans[p].startMode = .immediate →
          exec .planTriggerEdge s = .next { s with counter := countedOnce .triggerIgnored s })) ∧
      (∀ i st, s.executor.state = .running → s.executor.step = some i →
        s.cfg.plans[p].steps[i]? = some st → st.kind ≠ .waitTrigger →
        s.cfg.plans[p].startMode = .onTrigger →
        ∃ t, exec .planTriggerEdge s = .next t ∧
          t.events[(8 : Fin 16)] = { latched := true, item := none } ∧
          (s.cfg.plans[p].overrun = .abort → t.executor.state = .idle ∧
            t.executor.lastResult = .abortedOverrun ∧ t.counter = s.counter) ∧
          (s.cfg.plans[p].overrun = .stretch → t.executor = s.executor ∧
            t.counter = countedOnce .triggerIgnored s)))) ∧
  (∀ (high : Bool) (others : List Arrival) (s : State), s.pending = [] → FiltersOpen s →
    s.arriving = .level .planTrigger high :: others →
    step s = .next { s with
      arriving := others
      pins := { s.pins with trigger :=
        if high = s.pins.trigger.high then s.pins.trigger
        else if high = false then { high := false, since := s.now, filter := none }
        else if s.pins.trigger.since + 10 ≤ s.now then
          { high := true, since := s.now, filter := some (s.now + 10) }
        else { high := true, since := s.now, filter := none } } }) ∧
  (∀ (ends : Nat) (s : State), s.pending = [] → s.pins.trigger.filter = some ends →
    (∀ d, s.pins.reset.filter = some d → s.now < d) →
    (∀ input char others, s.arriving ≠ .char input char :: others) →
    (ends ≤ s.now → step s = exec .planTriggerEdge { s with
      pins := { s.pins with trigger := { s.pins.trigger with filter := none } } }) ∧
    (∀ ms others, s.now < ends → s.arriving = .quiet (ms + 1) :: others → spontaneous s = none →
      step s = .next { s with now := s.now + 1, arriving := .quiet ms :: others }))

/-- R181, R182: the adoption timer's expiry latches UNADOPTED for the lowest used channel left unadopted and
enters RUN: the step and refill timers start, enabled slots in LOST enter TRACK with cause START, and
every port stands in the skipping state (R63; clock: assumption log 2). -/
def Obligations.AdoptionTimerEntersRun : Prop :=
  ∀ (deadline : Nat) (s : State), s.held = false → s.partState = .adopt →
    s.adoptionTimer = some deadline →
    ∃ t, exec .adoptionTimer s = .next t ∧ t.partState = .run ∧ t.adoptionTimer = none ∧
      t.cfg = s.cfg ∧ t.now = clockAt deadline s ∧
      t.stepTimer = some (clockAt deadline s + 100) ∧
      t.admission.refillTimer = some (clockAt deadline s + 100) ∧ t.window = s.window ∧
      (∀ k : Slot, t.inputs.computers[k] = { heard := [], lost := 0 }) ∧
      t.inputs.supervisory = s.inputs.supervisory ∧ t.inputs.field = s.inputs.field ∧
      (∀ c : Chan, isUsed s c = true → s.channels[c].adopted = false →
        (∀ d : Chan, d < c → isUsed s d = true → s.channels[d].adopted = true) →
        t.events[(13 : Fin 16)] = { latched := true, item := some (.channel c) }) ∧
      (∀ k : Slot, s.cfg.computers[k].enabled = true → s.contexts[k].state = .lost →
        t.contexts[k].state = .track ∧ t.contexts[k].trackCause = some .start ∧
        t.ports[k].reportTimer =
          some (clockAt deadline s + s.cfg.computers[k].reportTimeout)) ∧
      ∀ k : Slot, s.cfg.computers[k].enabled = false → t.contexts[k] = s.contexts[k]

/-! ### Frames and records -/

/-- R183, R185, R186: the supervisory line reads back every frame that fits it, a computer line every DEMAND,
HELLO, IMAGE-OK and IMAGE-REJECT, and the field line every STATE record, whatever bytes stand before the start
byte and after the CRC, where no byte comes more than 20 ms after the one before it. A frame or record that is
not whole when such a gap comes is cut there. R187: a byte with a framing error is not heard, and its time
counts toward the gap of the next byte. -/
def Obligations.BytesReadBack : Prop :=
  (∀ (kind tag : Byte) (payload : List Byte) (noise bytes rest : List HeardByte), payload.length ≤ 250 →
      (∀ b ∈ noise, b.2 ≠ 0xA5) → (∀ b ∈ bytes.tail, b.1 ≤ 20000) →
      (bytes.map (·.2) = frameBytes kind tag payload →
        nextSupervisory (noise ++ bytes ++ rest) =
          some (.supervisoryFrameReceived kind tag payload, rest)) ∧
      (∀ late b, bytes ≠ [] → bytes.map (·.2) ++ late = frameBytes kind tag payload → late ≠ [] →
        20000 < b.1 → nextSupervisory (noise ++ bytes ++ b :: rest) = some (.supervisoryGap, b :: rest) ∧
          ∀ slot, nextComputer slot (noise ++ bytes ++ b :: rest) = some (.computerGap slot, b :: rest))) ∧
  (∀ (slot : Slot) (seq : Byte) (noise bytes rest : List HeardByte), (∀ b ∈ noise, b.2 ≠ 0xA5) →
      (∀ b ∈ bytes.tail, b.1 ≤ 20000) →
      (∀ (h : Health) (pairs : List (Nat × Nat)), 1 ≤ pairs.length → pairs.length ≤ 16 →
        (∀ p ∈ pairs, p.1 ≤ 255 ∧ p.2 ≤ 65535) →
        bytes.map (·.2) = frameBytes 0x01 seq (b1 (healthCode h) ++ b1 pairs.length ++
            (pairs.map fun p => b1 p.1 ++ b2 p.2).flatten) →
          nextComputer slot (noise ++ bytes ++ rest) = some (.demand slot seq.toNat h pairs, rest)) ∧
      (bytes.map (·.2) = frameBytes 0x02 seq [] →
        nextComputer slot (noise ++ bytes ++ rest) = some (.hello slot seq.toNat, rest)) ∧
      (∀ gen, gen ≤ 65535 → bytes.map (·.2) = frameBytes 0x03 seq (b2 gen) →
        nextComputer slot (noise ++ bytes ++ rest) = some (.imageOk slot seq.toNat gen, rest)) ∧
      (∀ gen reason, gen ≤ 65535 → reason ≤ 255 →
        bytes.map (·.2) = frameBytes 0x04 seq (b2 gen ++ b1 reason) →
        nextComputer slot (noise ++ bytes ++ rest) = some (.imageReject slot seq.toNat gen reason, rest))) ∧
  (∀ (address value : Nat) (run : ModuleRun) (noise bytes rest : List HeardByte), address ≤ 255 →
      value ≤ 65535 → (∀ b ∈ noise, b.2 ≠ 0x5A) → (∀ b ∈ bytes.tail, b.1 ≤ 20000) →
      (bytes.map (·.2) = recordBytes (byteOf address) 0x04 value
          (match run with | .running => 1 | .stopped => 2 | .fault => 3) →
        nextField (noise ++ bytes ++ rest) = some (.stateRecord address value run, rest)) ∧
      (∀ late b, bytes ≠ [] → late ≠ [] → 20000 < b.1 →
        bytes.map (·.2) ++ late = recordBytes (byteOf address) 0x04 value
          (match run with | .running => 1 | .stopped => 2 | .fault => 3) →
        nextField (noise ++ bytes ++ b :: rest) = some (.fieldGap, b :: rest))) ∧
  (∀ (before after : List LineByte) (lost : Nat),
      hear (before ++ ({ gap := lost, byte := none } :: after)) =
        hear (before ++ (match after with
          | [] => []
          | b :: more => { b with gap := lost + b.gap } :: more)))

/-! ### Invariants that every step keeps -/

/-- R108: the window law is kept by every step. -/
def Obligations.StepKeepsWindowLaw : Prop :=
  ∀ s t : State, WindowLaw s → step s = .next t → WindowLaw t

/-- R97: the failure law is kept by every step. -/
def Obligations.StepKeepsFailureLaw : Prop :=
  ∀ s t : State, FailureLaw s → step s = .next t → FailureLaw t

/-- R164: the mask flag of a non-maskable kind stays clear at every step. -/
def Obligations.StepKeepsMaskLaw : Prop :=
  ∀ s t : State, MaskLaw s → step s = .next t → MaskLaw t

/-- R27: credit stays at or below the current cap at every step. -/
def Obligations.StepKeepsCreditLaw : Prop :=
  ∀ s t : State, CreditLaw s → step s = .next t → CreditLaw t

/-- R2, R31, R38: no driven value passes its range and no entry its channel's target, at every step. -/
def Obligations.StepKeepsPlantLaw : Prop :=
  ∀ s t : State, PlantLaw s → step s = .next t → PlantLaw t

/-- R76, R68: phase, track cause and timers stay with their states at every step. -/
def Obligations.StepKeepsContextLaw : Prop :=
  ∀ s t : State, ContextLaw s → step s = .next t → ContextLaw t

/-- R156, R160, R71, R109, R31, R12, R158: no queue or list passes its capacity, and no command waits that the
port could take, at every step. -/
def Obligations.StepKeepsCapacityLaw : Prop :=
  ∀ s t : State, CapacityLaw s → step s = .next t → CapacityLaw t

/-- State.reset meets the invariants. -/
def Obligations.ResetMeetsTheLaws : Prop :=
  WindowLaw State.reset ∧ FailureLaw State.reset ∧ ContextLaw State.reset ∧ MaskLaw State.reset ∧
  CreditLaw State.reset ∧ CapacityLaw State.reset ∧ PlantLaw State.reset
end

