-- ==== Sys2Proof/Laws/State.lean ====
section
/-! SUPPORT. One lemma per field for each record update of the machine, so that no proof unfolds one. -/

namespace Sys2Proof.Laws

open Sys2Proof.Machine

/-! ### updChannel -/

@[simp] theorem updChannel_pending (c : Chan) (f : ChannelRun → ChannelRun) (s : State) :
    (updChannel c f s).pending = s.pending := rfl
@[simp] theorem updChannel_arriving (c : Chan) (f : ChannelRun → ChannelRun) (s : State) :
    (updChannel c f s).arriving = s.arriving := rfl
@[simp] theorem updChannel_inputs (c : Chan) (f : ChannelRun → ChannelRun) (s : State) :
    (updChannel c f s).inputs = s.inputs := rfl
@[simp] theorem updChannel_pins (c : Chan) (f : ChannelRun → ChannelRun) (s : State) :
    (updChannel c f s).pins = s.pins := rfl
@[simp] theorem updChannel_now (c : Chan) (f : ChannelRun → ChannelRun) (s : State) :
    (updChannel c f s).now = s.now := rfl
@[simp] theorem updChannel_partState (c : Chan) (f : ChannelRun → ChannelRun) (s : State) :
    (updChannel c f s).partState = s.partState := rfl
@[simp] theorem updChannel_commissioned (c : Chan) (f : ChannelRun → ChannelRun) (s : State) :
    (updChannel c f s).commissioned = s.commissioned := rfl
@[simp] theorem updChannel_lastReset (c : Chan) (f : ChannelRun → ChannelRun) (s : State) :
    (updChannel c f s).lastReset = s.lastReset := rfl
@[simp] theorem updChannel_held (c : Chan) (f : ChannelRun → ChannelRun) (s : State) :
    (updChannel c f s).held = s.held := rfl
@[simp] theorem updChannel_cfg (c : Chan) (f : ChannelRun → ChannelRun) (s : State) :
    (updChannel c f s).cfg = s.cfg := rfl
@[simp] theorem updChannel_store (c : Chan) (f : ChannelRun → ChannelRun) (s : State) :
    (updChannel c f s).store = s.store := rfl
@[simp] theorem updChannel_channels (c : Chan) (f : ChannelRun → ChannelRun) (s : State) :
    (updChannel c f s).channels = s.channels.set c (f s.channels[c]) := rfl
@[simp] theorem updChannel_stepTimer (c : Chan) (f : ChannelRun → ChannelRun) (s : State) :
    (updChannel c f s).stepTimer = s.stepTimer := rfl
@[simp] theorem updChannel_adoptionTimer (c : Chan) (f : ChannelRun → ChannelRun) (s : State) :
    (updChannel c f s).adoptionTimer = s.adoptionTimer := rfl
@[simp] theorem updChannel_field (c : Chan) (f : ChannelRun → ChannelRun) (s : State) :
    (updChannel c f s).field = s.field := rfl
@[simp] theorem updChannel_admission (c : Chan) (f : ChannelRun → ChannelRun) (s : State) :
    (updChannel c f s).admission = s.admission := rfl
@[simp] theorem updChannel_daylight (c : Chan) (f : ChannelRun → ChannelRun) (s : State) :
    (updChannel c f s).daylight = s.daylight := rfl
@[simp] theorem updChannel_ports (c : Chan) (f : ChannelRun → ChannelRun) (s : State) :
    (updChannel c f s).ports = s.ports := rfl
@[simp] theorem updChannel_contexts (c : Chan) (f : ChannelRun → ChannelRun) (s : State) :
    (updChannel c f s).contexts = s.contexts := rfl
@[simp] theorem updChannel_window (c : Chan) (f : ChannelRun → ChannelRun) (s : State) :
    (updChannel c f s).window = s.window := rfl
@[simp] theorem updChannel_executor (c : Chan) (f : ChannelRun → ChannelRun) (s : State) :
    (updChannel c f s).executor = s.executor := rfl
@[simp] theorem updChannel_events (c : Chan) (f : ChannelRun → ChannelRun) (s : State) :
    (updChannel c f s).events = s.events := rfl
@[simp] theorem updChannel_counter (c : Chan) (f : ChannelRun → ChannelRun) (s : State) :
    (updChannel c f s).counter = s.counter := rfl
@[simp] theorem updChannel_supervisory (c : Chan) (f : ChannelRun → ChannelRun) (s : State) :
    (updChannel c f s).supervisory = s.supervisory := rfl

/-! ### mapChannels -/

@[simp] theorem mapChannels_pending (f : Chan → ChannelRun → ChannelRun) (s : State) :
    (mapChannels f s).pending = s.pending := by simp only [mapChannels]
@[simp] theorem mapChannels_arriving (f : Chan → ChannelRun → ChannelRun) (s : State) :
    (mapChannels f s).arriving = s.arriving := by simp only [mapChannels]
@[simp] theorem mapChannels_inputs (f : Chan → ChannelRun → ChannelRun) (s : State) :
    (mapChannels f s).inputs = s.inputs := by simp only [mapChannels]
@[simp] theorem mapChannels_pins (f : Chan → ChannelRun → ChannelRun) (s : State) :
    (mapChannels f s).pins = s.pins := by simp only [mapChannels]
@[simp] theorem mapChannels_now (f : Chan → ChannelRun → ChannelRun) (s : State) :
    (mapChannels f s).now = s.now := by simp only [mapChannels]
@[simp] theorem mapChannels_partState (f : Chan → ChannelRun → ChannelRun) (s : State) :
    (mapChannels f s).partState = s.partState := by simp only [mapChannels]
@[simp] theorem mapChannels_commissioned (f : Chan → ChannelRun → ChannelRun) (s : State) :
    (mapChannels f s).commissioned = s.commissioned := by simp only [mapChannels]
@[simp] theorem mapChannels_lastReset (f : Chan → ChannelRun → ChannelRun) (s : State) :
    (mapChannels f s).lastReset = s.lastReset := by simp only [mapChannels]
@[simp] theorem mapChannels_held (f : Chan → ChannelRun → ChannelRun) (s : State) :
    (mapChannels f s).held = s.held := by simp only [mapChannels]
@[simp] theorem mapChannels_cfg (f : Chan → ChannelRun → ChannelRun) (s : State) :
    (mapChannels f s).cfg = s.cfg := by simp only [mapChannels]
@[simp] theorem mapChannels_store (f : Chan → ChannelRun → ChannelRun) (s : State) :
    (mapChannels f s).store = s.store := by simp only [mapChannels]
@[simp] theorem mapChannels_channels (f : Chan → ChannelRun → ChannelRun) (s : State) :
    (mapChannels f s).channels = Vector.ofFn fun c => f c s.channels[c] := rfl
@[simp] theorem mapChannels_stepTimer (f : Chan → ChannelRun → ChannelRun) (s : State) :
    (mapChannels f s).stepTimer = s.stepTimer := by simp only [mapChannels]
@[simp] theorem mapChannels_adoptionTimer (f : Chan → ChannelRun → ChannelRun) (s : State) :
    (mapChannels f s).adoptionTimer = s.adoptionTimer := by simp only [mapChannels]
@[simp] theorem mapChannels_field (f : Chan → ChannelRun → ChannelRun) (s : State) :
    (mapChannels f s).field = s.field := by simp only [mapChannels]
@[simp] theorem mapChannels_admission (f : Chan → ChannelRun → ChannelRun) (s : State) :
    (mapChannels f s).admission = s.admission := by simp only [mapChannels]
@[simp] theorem mapChannels_daylight (f : Chan → ChannelRun → ChannelRun) (s : State) :
    (mapChannels f s).daylight = s.daylight := by simp only [mapChannels]
@[simp] theorem mapChannels_ports (f : Chan → ChannelRun → ChannelRun) (s : State) :
    (mapChannels f s).ports = s.ports := by simp only [mapChannels]
@[simp] theorem mapChannels_contexts (f : Chan → ChannelRun → ChannelRun) (s : State) :
    (mapChannels f s).contexts = s.contexts := by simp only [mapChannels]
@[simp] theorem mapChannels_window (f : Chan → ChannelRun → ChannelRun) (s : State) :
    (mapChannels f s).window = s.window := by simp only [mapChannels]
@[simp] theorem mapChannels_executor (f : Chan → ChannelRun → ChannelRun) (s : State) :
    (mapChannels f s).executor = s.executor := by simp only [mapChannels]
@[simp] theorem mapChannels_events (f : Chan → ChannelRun → ChannelRun) (s : State) :
    (mapChannels f s).events = s.events := by simp only [mapChannels]
@[simp] theorem mapChannels_counter (f : Chan → ChannelRun → ChannelRun) (s : State) :
    (mapChannels f s).counter = s.counter := by simp only [mapChannels]
@[simp] theorem mapChannels_supervisory (f : Chan → ChannelRun → ChannelRun) (s : State) :
    (mapChannels f s).supervisory = s.supervisory := by simp only [mapChannels]

/-! ### updContext -/

@[simp] theorem updContext_pending (k : Slot) (f : Context → Context) (s : State) :
    (updContext k f s).pending = s.pending := rfl
@[simp] theorem updContext_arriving (k : Slot) (f : Context → Context) (s : State) :
    (updContext k f s).arriving = s.arriving := rfl
@[simp] theorem updContext_inputs (k : Slot) (f : Context → Context) (s : State) :
    (updContext k f s).inputs = s.inputs := rfl
@[simp] theorem updContext_pins (k : Slot) (f : Context → Context) (s : State) :
    (updContext k f s).pins = s.pins := rfl
@[simp] theorem updContext_now (k : Slot) (f : Context → Context) (s : State) :
    (updContext k f s).now = s.now := rfl
@[simp] theorem updContext_partState (k : Slot) (f : Context → Context) (s : State) :
    (updContext k f s).partState = s.partState := rfl
@[simp] theorem updContext_commissioned (k : Slot) (f : Context → Context) (s : State) :
    (updContext k f s).commissioned = s.commissioned := rfl
@[simp] theorem updContext_lastReset (k : Slot) (f : Context → Context) (s : State) :
    (updContext k f s).lastReset = s.lastReset := rfl
@[simp] theorem updContext_held (k : Slot) (f : Context → Context) (s : State) :
    (updContext k f s).held = s.held := rfl
@[simp] theorem updContext_cfg (k : Slot) (f : Context → Context) (s : State) :
    (updContext k f s).cfg = s.cfg := rfl
@[simp] theorem updContext_store (k : Slot) (f : Context → Context) (s : State) :
    (updContext k f s).store = s.store := rfl
@[simp] theorem updContext_channels (k : Slot) (f : Context → Context) (s : State) :
    (updContext k f s).channels = s.channels := rfl
@[simp] theorem updContext_stepTimer (k : Slot) (f : Context → Context) (s : State) :
    (updContext k f s).stepTimer = s.stepTimer := rfl
@[simp] theorem updContext_adoptionTimer (k : Slot) (f : Context → Context) (s : State) :
    (updContext k f s).adoptionTimer = s.adoptionTimer := rfl
@[simp] theorem updContext_field (k : Slot) (f : Context → Context) (s : State) :
    (updContext k f s).field = s.field := rfl
@[simp] theorem updContext_admission (k : Slot) (f : Context → Context) (s : State) :
    (updContext k f s).admission = s.admission := rfl
@[simp] theorem updContext_daylight (k : Slot) (f : Context → Context) (s : State) :
    (updContext k f s).daylight = s.daylight := rfl
@[simp] theorem updContext_ports (k : Slot) (f : Context → Context) (s : State) :
    (updContext k f s).ports = s.ports := rfl
@[simp] theorem updContext_contexts (k : Slot) (f : Context → Context) (s : State) :
    (updContext k f s).contexts = s.contexts.set k (f s.contexts[k]) := rfl
@[simp] theorem updContext_window (k : Slot) (f : Context → Context) (s : State) :
    (updContext k f s).window = s.window := rfl
@[simp] theorem updContext_executor (k : Slot) (f : Context → Context) (s : State) :
    (updContext k f s).executor = s.executor := rfl
@[simp] theorem updContext_events (k : Slot) (f : Context → Context) (s : State) :
    (updContext k f s).events = s.events := rfl
@[simp] theorem updContext_counter (k : Slot) (f : Context → Context) (s : State) :
    (updContext k f s).counter = s.counter := rfl
@[simp] theorem updContext_supervisory (k : Slot) (f : Context → Context) (s : State) :
    (updContext k f s).supervisory = s.supervisory := rfl

/-! ### updPort -/

@[simp] theorem updPort_pending (k : Slot) (f : Port → Port) (s : State) :
    (updPort k f s).pending = s.pending := rfl
@[simp] theorem updPort_arriving (k : Slot) (f : Port → Port) (s : State) :
    (updPort k f s).arriving = s.arriving := rfl
@[simp] theorem updPort_inputs (k : Slot) (f : Port → Port) (s : State) :
    (updPort k f s).inputs = s.inputs := rfl
@[simp] theorem updPort_pins (k : Slot) (f : Port → Port) (s : State) :
    (updPort k f s).pins = s.pins := rfl
@[simp] theorem updPort_now (k : Slot) (f : Port → Port) (s : State) :
    (updPort k f s).now = s.now := rfl
@[simp] theorem updPort_partState (k : Slot) (f : Port → Port) (s : State) :
    (updPort k f s).partState = s.partState := rfl
@[simp] theorem updPort_commissioned (k : Slot) (f : Port → Port) (s : State) :
    (updPort k f s).commissioned = s.commissioned := rfl
@[simp] theorem updPort_lastReset (k : Slot) (f : Port → Port) (s : State) :
    (updPort k f s).lastReset = s.lastReset := rfl
@[simp] theorem updPort_held (k : Slot) (f : Port → Port) (s : State) :
    (updPort k f s).held = s.held := rfl
@[simp] theorem updPort_cfg (k : Slot) (f : Port → Port) (s : State) :
    (updPort k f s).cfg = s.cfg := rfl
@[simp] theorem updPort_store (k : Slot) (f : Port → Port) (s : State) :
    (updPort k f s).store = s.store := rfl
@[simp] theorem updPort_channels (k : Slot) (f : Port → Port) (s : State) :
    (updPort k f s).channels = s.channels := rfl
@[simp] theorem updPort_stepTimer (k : Slot) (f : Port → Port) (s : State) :
    (updPort k f s).stepTimer = s.stepTimer := rfl
@[simp] theorem updPort_adoptionTimer (k : Slot) (f : Port → Port) (s : State) :
    (updPort k f s).adoptionTimer = s.adoptionTimer := rfl
@[simp] theorem updPort_field (k : Slot) (f : Port → Port) (s : State) :
    (updPort k f s).field = s.field := rfl
@[simp] theorem updPort_admission (k : Slot) (f : Port → Port) (s : State) :
    (updPort k f s).admission = s.admission := rfl
@[simp] theorem updPort_daylight (k : Slot) (f : Port → Port) (s : State) :
    (updPort k f s).daylight = s.daylight := rfl
@[simp] theorem updPort_ports (k : Slot) (f : Port → Port) (s : State) :
    (updPort k f s).ports = s.ports.set k (f s.ports[k]) := rfl
@[simp] theorem updPort_contexts (k : Slot) (f : Port → Port) (s : State) :
    (updPort k f s).contexts = s.contexts := rfl
@[simp] theorem updPort_window (k : Slot) (f : Port → Port) (s : State) :
    (updPort k f s).window = s.window := rfl
@[simp] theorem updPort_executor (k : Slot) (f : Port → Port) (s : State) :
    (updPort k f s).executor = s.executor := rfl
@[simp] theorem updPort_events (k : Slot) (f : Port → Port) (s : State) :
    (updPort k f s).events = s.events := rfl
@[simp] theorem updPort_counter (k : Slot) (f : Port → Port) (s : State) :
    (updPort k f s).counter = s.counter := rfl
@[simp] theorem updPort_supervisory (k : Slot) (f : Port → Port) (s : State) :
    (updPort k f s).supervisory = s.supervisory := rfl

/-! ### setWaitList -/

@[simp] theorem setWaitList_pending (l : List WaitEntry) (s : State) :
    (setWaitList l s).pending = s.pending := rfl
@[simp] theorem setWaitList_arriving (l : List WaitEntry) (s : State) :
    (setWaitList l s).arriving = s.arriving := rfl
@[simp] theorem setWaitList_inputs (l : List WaitEntry) (s : State) :
    (setWaitList l s).inputs = s.inputs := rfl
@[simp] theorem setWaitList_pins (l : List WaitEntry) (s : State) :
    (setWaitList l s).pins = s.pins := rfl
@[simp] theorem setWaitList_now (l : List WaitEntry) (s : State) :
    (setWaitList l s).now = s.now := rfl
@[simp] theorem setWaitList_partState (l : List WaitEntry) (s : State) :
    (setWaitList l s).partState = s.partState := rfl
@[simp] theorem setWaitList_commissioned (l : List WaitEntry) (s : State) :
    (setWaitList l s).commissioned = s.commissioned := rfl
@[simp] theorem setWaitList_lastReset (l : List WaitEntry) (s : State) :
    (setWaitList l s).lastReset = s.lastReset := rfl
@[simp] theorem setWaitList_held (l : List WaitEntry) (s : State) :
    (setWaitList l s).held = s.held := rfl
@[simp] theorem setWaitList_cfg (l : List WaitEntry) (s : State) :
    (setWaitList l s).cfg = s.cfg := rfl
@[simp] theorem setWaitList_store (l : List WaitEntry) (s : State) :
    (setWaitList l s).store = s.store := rfl
@[simp] theorem setWaitList_channels (l : List WaitEntry) (s : State) :
    (setWaitList l s).channels = s.channels := rfl
@[simp] theorem setWaitList_stepTimer (l : List WaitEntry) (s : State) :
    (setWaitList l s).stepTimer = s.stepTimer := rfl
@[simp] theorem setWaitList_adoptionTimer (l : List WaitEntry) (s : State) :
    (setWaitList l s).adoptionTimer = s.adoptionTimer := rfl
@[simp] theorem setWaitList_field (l : List WaitEntry) (s : State) :
    (setWaitList l s).field = s.field := rfl
@[simp] theorem setWaitList_admission (l : List WaitEntry) (s : State) :
    (setWaitList l s).admission = s.admission := rfl
@[simp] theorem setWaitList_daylight (l : List WaitEntry) (s : State) :
    (setWaitList l s).daylight = s.daylight := rfl
@[simp] theorem setWaitList_ports (l : List WaitEntry) (s : State) :
    (setWaitList l s).ports = s.ports := rfl
@[simp] theorem setWaitList_contexts (l : List WaitEntry) (s : State) :
    (setWaitList l s).contexts = s.contexts := rfl
@[simp] theorem setWaitList_window (l : List WaitEntry) (s : State) :
    (setWaitList l s).window = { s.window with waitList := l } := rfl
@[simp] theorem setWaitList_executor (l : List WaitEntry) (s : State) :
    (setWaitList l s).executor = s.executor := rfl
@[simp] theorem setWaitList_events (l : List WaitEntry) (s : State) :
    (setWaitList l s).events = s.events := rfl
@[simp] theorem setWaitList_counter (l : List WaitEntry) (s : State) :
    (setWaitList l s).counter = s.counter := rfl
@[simp] theorem setWaitList_supervisory (l : List WaitEntry) (s : State) :
    (setWaitList l s).supervisory = s.supervisory := rfl

/-! ### setQueue -/

@[simp] theorem setQueue_pending (q : List AdmissionEntry) (s : State) :
    (setQueue q s).pending = s.pending := rfl
@[simp] theorem setQueue_arriving (q : List AdmissionEntry) (s : State) :
    (setQueue q s).arriving = s.arriving := rfl
@[simp] theorem setQueue_inputs (q : List AdmissionEntry) (s : State) :
    (setQueue q s).inputs = s.inputs := rfl
@[simp] theorem setQueue_pins (q : List AdmissionEntry) (s : State) :
    (setQueue q s).pins = s.pins := rfl
@[simp] theorem setQueue_now (q : List AdmissionEntry) (s : State) :
    (setQueue q s).now = s.now := rfl
@[simp] theorem setQueue_partState (q : List AdmissionEntry) (s : State) :
    (setQueue q s).partState = s.partState := rfl
@[simp] theorem setQueue_commissioned (q : List AdmissionEntry) (s : State) :
    (setQueue q s).commissioned = s.commissioned := rfl
@[simp] theorem setQueue_lastReset (q : List AdmissionEntry) (s : State) :
    (setQueue q s).lastReset = s.lastReset := rfl
@[simp] theorem setQueue_held (q : List AdmissionEntry) (s : State) :
    (setQueue q s).held = s.held := rfl
@[simp] theorem setQueue_cfg (q : List AdmissionEntry) (s : State) :
    (setQueue q s).cfg = s.cfg := rfl
@[simp] theorem setQueue_store (q : List AdmissionEntry) (s : State) :
    (setQueue q s).store = s.store := rfl
@[simp] theorem setQueue_channels (q : List AdmissionEntry) (s : State) :
    (setQueue q s).channels = s.channels := rfl
@[simp] theorem setQueue_stepTimer (q : List AdmissionEntry) (s : State) :
    (setQueue q s).stepTimer = s.stepTimer := rfl
@[simp] theorem setQueue_adoptionTimer (q : List AdmissionEntry) (s : State) :
    (setQueue q s).adoptionTimer = s.adoptionTimer := rfl
@[simp] theorem setQueue_field (q : List AdmissionEntry) (s : State) :
    (setQueue q s).field = s.field := rfl
@[simp] theorem setQueue_admission (q : List AdmissionEntry) (s : State) :
    (setQueue q s).admission = { s.admission with queue := q } := rfl
@[simp] theorem setQueue_daylight (q : List AdmissionEntry) (s : State) :
    (setQueue q s).daylight = s.daylight := rfl
@[simp] theorem setQueue_ports (q : List AdmissionEntry) (s : State) :
    (setQueue q s).ports = s.ports := rfl
@[simp] theorem setQueue_contexts (q : List AdmissionEntry) (s : State) :
    (setQueue q s).contexts = s.contexts := rfl
@[simp] theorem setQueue_window (q : List AdmissionEntry) (s : State) :
    (setQueue q s).window = s.window := rfl
@[simp] theorem setQueue_executor (q : List AdmissionEntry) (s : State) :
    (setQueue q s).executor = s.executor := rfl
@[simp] theorem setQueue_events (q : List AdmissionEntry) (s : State) :
    (setQueue q s).events = s.events := rfl
@[simp] theorem setQueue_counter (q : List AdmissionEntry) (s : State) :
    (setQueue q s).counter = s.counter := rfl
@[simp] theorem setQueue_supervisory (q : List AdmissionEntry) (s : State) :
    (setQueue q s).supervisory = s.supervisory := rfl

/-! ### updExecutor -/

@[simp] theorem updExecutor_pending (f : Executor → Executor) (s : State) :
    (updExecutor f s).pending = s.pending := rfl
@[simp] theorem updExecutor_arriving (f : Executor → Executor) (s : State) :
    (updExecutor f s).arriving = s.arriving := rfl
@[simp] theorem updExecutor_inputs (f : Executor → Executor) (s : State) :
    (updExecutor f s).inputs = s.inputs := rfl
@[simp] theorem updExecutor_pins (f : Executor → Executor) (s : State) :
    (updExecutor f s).pins = s.pins := rfl
@[simp] theorem updExecutor_now (f : Executor → Executor) (s : State) :
    (updExecutor f s).now = s.now := rfl
@[simp] theorem updExecutor_partState (f : Executor → Executor) (s : State) :
    (updExecutor f s).partState = s.partState := rfl
@[simp] theorem updExecutor_commissioned (f : Executor → Executor) (s : State) :
    (updExecutor f s).commissioned = s.commissioned := rfl
@[simp] theorem updExecutor_lastReset (f : Executor → Executor) (s : State) :
    (updExecutor f s).lastReset = s.lastReset := rfl
@[simp] theorem updExecutor_held (f : Executor → Executor) (s : State) :
    (updExecutor f s).held = s.held := rfl
@[simp] theorem updExecutor_cfg (f : Executor → Executor) (s : State) :
    (updExecutor f s).cfg = s.cfg := rfl
@[simp] theorem updExecutor_store (f : Executor → Executor) (s : State) :
    (updExecutor f s).store = s.store := rfl
@[simp] theorem updExecutor_channels (f : Executor → Executor) (s : State) :
    (updExecutor f s).channels = s.channels := rfl
@[simp] theorem updExecutor_stepTimer (f : Executor → Executor) (s : State) :
    (updExecutor f s).stepTimer = s.stepTimer := rfl
@[simp] theorem updExecutor_adoptionTimer (f : Executor → Executor) (s : State) :
    (updExecutor f s).adoptionTimer = s.adoptionTimer := rfl
@[simp] theorem updExecutor_field (f : Executor → Executor) (s : State) :
    (updExecutor f s).field = s.field := rfl
@[simp] theorem updExecutor_admission (f : Executor → Executor) (s : State) :
    (updExecutor f s).admission = s.admission := rfl
@[simp] theorem updExecutor_daylight (f : Executor → Executor) (s : State) :
    (updExecutor f s).daylight = s.daylight := rfl
@[simp] theorem updExecutor_ports (f : Executor → Executor) (s : State) :
    (updExecutor f s).ports = s.ports := rfl
@[simp] theorem updExecutor_contexts (f : Executor → Executor) (s : State) :
    (updExecutor f s).contexts = s.contexts := rfl
@[simp] theorem updExecutor_window (f : Executor → Executor) (s : State) :
    (updExecutor f s).window = s.window := rfl
@[simp] theorem updExecutor_executor (f : Executor → Executor) (s : State) :
    (updExecutor f s).executor = f s.executor := rfl
@[simp] theorem updExecutor_events (f : Executor → Executor) (s : State) :
    (updExecutor f s).events = s.events := rfl
@[simp] theorem updExecutor_counter (f : Executor → Executor) (s : State) :
    (updExecutor f s).counter = s.counter := rfl
@[simp] theorem updExecutor_supervisory (f : Executor → Executor) (s : State) :
    (updExecutor f s).supervisory = s.supervisory := rfl

/-! ### placeOut -/

@[simp] theorem placeOut_pending (f : OutFrame) (s : State) :
    (placeOut f s).pending = s.pending := rfl
@[simp] theorem placeOut_arriving (f : OutFrame) (s : State) :
    (placeOut f s).arriving = s.arriving := rfl
@[simp] theorem placeOut_inputs (f : OutFrame) (s : State) :
    (placeOut f s).inputs = s.inputs := rfl
@[simp] theorem placeOut_pins (f : OutFrame) (s : State) :
    (placeOut f s).pins = s.pins := rfl
@[simp] theorem placeOut_now (f : OutFrame) (s : State) :
    (placeOut f s).now = s.now := rfl
@[simp] theorem placeOut_partState (f : OutFrame) (s : State) :
    (placeOut f s).partState = s.partState := rfl
@[simp] theorem placeOut_commissioned (f : OutFrame) (s : State) :
    (placeOut f s).commissioned = s.commissioned := rfl
@[simp] theorem placeOut_lastReset (f : OutFrame) (s : State) :
    (placeOut f s).lastReset = s.lastReset := rfl
@[simp] theorem placeOut_held (f : OutFrame) (s : State) :
    (placeOut f s).held = s.held := rfl
@[simp] theorem placeOut_cfg (f : OutFrame) (s : State) :
    (placeOut f s).cfg = s.cfg := rfl
@[simp] theorem placeOut_store (f : OutFrame) (s : State) :
    (placeOut f s).store = s.store := rfl
@[simp] theorem placeOut_channels (f : OutFrame) (s : State) :
    (placeOut f s).channels = s.channels := rfl
@[simp] theorem placeOut_stepTimer (f : OutFrame) (s : State) :
    (placeOut f s).stepTimer = s.stepTimer := rfl
@[simp] theorem placeOut_adoptionTimer (f : OutFrame) (s : State) :
    (placeOut f s).adoptionTimer = s.adoptionTimer := rfl
@[simp] theorem placeOut_field (f : OutFrame) (s : State) :
    (placeOut f s).field = s.field := rfl
@[simp] theorem placeOut_admission (f : OutFrame) (s : State) :
    (placeOut f s).admission = s.admission := rfl
@[simp] theorem placeOut_daylight (f : OutFrame) (s : State) :
    (placeOut f s).daylight = s.daylight := rfl
@[simp] theorem placeOut_ports (f : OutFrame) (s : State) :
    (placeOut f s).ports = s.ports := rfl
@[simp] theorem placeOut_contexts (f : OutFrame) (s : State) :
    (placeOut f s).contexts = s.contexts := rfl
@[simp] theorem placeOut_window (f : OutFrame) (s : State) :
    (placeOut f s).window = s.window := rfl
@[simp] theorem placeOut_executor (f : OutFrame) (s : State) :
    (placeOut f s).executor = s.executor := rfl
@[simp] theorem placeOut_events (f : OutFrame) (s : State) :
    (placeOut f s).events = s.events := rfl
@[simp] theorem placeOut_counter (f : OutFrame) (s : State) :
    (placeOut f s).counter = s.counter := rfl
@[simp] theorem placeOut_supervisory (f : OutFrame) (s : State) :
    (placeOut f s).supervisory = { s.supervisory with outgoing := s.supervisory.outgoing ++ [f] } := rfl

/-! ### leaveQueue -/

@[simp] theorem leaveQueue_pending (s : State) :
    (leaveQueue s).pending = s.pending := rfl
@[simp] theorem leaveQueue_arriving (s : State) :
    (leaveQueue s).arriving = s.arriving := rfl
@[simp] theorem leaveQueue_inputs (s : State) :
    (leaveQueue s).inputs = s.inputs := rfl
@[simp] theorem leaveQueue_pins (s : State) :
    (leaveQueue s).pins = s.pins := rfl
@[simp] theorem leaveQueue_now (s : State) :
    (leaveQueue s).now = s.now := rfl
@[simp] theorem leaveQueue_partState (s : State) :
    (leaveQueue s).partState = s.partState := rfl
@[simp] theorem leaveQueue_commissioned (s : State) :
    (leaveQueue s).commissioned = s.commissioned := rfl
@[simp] theorem leaveQueue_lastReset (s : State) :
    (leaveQueue s).lastReset = s.lastReset := rfl
@[simp] theorem leaveQueue_held (s : State) :
    (leaveQueue s).held = s.held := rfl
@[simp] theorem leaveQueue_cfg (s : State) :
    (leaveQueue s).cfg = s.cfg := rfl
@[simp] theorem leaveQueue_store (s : State) :
    (leaveQueue s).store = s.store := rfl
@[simp] theorem leaveQueue_channels (s : State) :
    (leaveQueue s).channels = s.channels := rfl
@[simp] theorem leaveQueue_stepTimer (s : State) :
    (leaveQueue s).stepTimer = s.stepTimer := rfl
@[simp] theorem leaveQueue_adoptionTimer (s : State) :
    (leaveQueue s).adoptionTimer = s.adoptionTimer := rfl
@[simp] theorem leaveQueue_field (s : State) :
    (leaveQueue s).field = s.field := rfl
@[simp] theorem leaveQueue_admission (s : State) :
    (leaveQueue s).admission = s.admission := rfl
@[simp] theorem leaveQueue_daylight (s : State) :
    (leaveQueue s).daylight = s.daylight := rfl
@[simp] theorem leaveQueue_ports (s : State) :
    (leaveQueue s).ports = s.ports := rfl
@[simp] theorem leaveQueue_contexts (s : State) :
    (leaveQueue s).contexts = s.contexts := rfl
@[simp] theorem leaveQueue_window (s : State) :
    (leaveQueue s).window = s.window := rfl
@[simp] theorem leaveQueue_executor (s : State) :
    (leaveQueue s).executor = s.executor := rfl
@[simp] theorem leaveQueue_events (s : State) :
    (leaveQueue s).events = s.events := rfl
@[simp] theorem leaveQueue_counter (s : State) :
    (leaveQueue s).counter = s.counter := rfl
@[simp] theorem leaveQueue_supervisory (s : State) :
    (leaveQueue s).supervisory = { s.supervisory with queue := s.supervisory.queue.tail } := rfl

/-! ### awaitReset -/

@[simp] theorem awaitReset_pending (s : State) :
    (awaitReset s).pending = s.pending := rfl
@[simp] theorem awaitReset_arriving (s : State) :
    (awaitReset s).arriving = s.arriving := rfl
@[simp] theorem awaitReset_inputs (s : State) :
    (awaitReset s).inputs = s.inputs := rfl
@[simp] theorem awaitReset_pins (s : State) :
    (awaitReset s).pins = s.pins := rfl
@[simp] theorem awaitReset_now (s : State) :
    (awaitReset s).now = s.now := rfl
@[simp] theorem awaitReset_partState (s : State) :
    (awaitReset s).partState = s.partState := rfl
@[simp] theorem awaitReset_commissioned (s : State) :
    (awaitReset s).commissioned = s.commissioned := rfl
@[simp] theorem awaitReset_lastReset (s : State) :
    (awaitReset s).lastReset = s.lastReset := rfl
@[simp] theorem awaitReset_held (s : State) :
    (awaitReset s).held = s.held := rfl
@[simp] theorem awaitReset_cfg (s : State) :
    (awaitReset s).cfg = s.cfg := rfl
@[simp] theorem awaitReset_store (s : State) :
    (awaitReset s).store = s.store := rfl
@[simp] theorem awaitReset_channels (s : State) :
    (awaitReset s).channels = s.channels := rfl
@[simp] theorem awaitReset_stepTimer (s : State) :
    (awaitReset s).stepTimer = s.stepTimer := rfl
@[simp] theorem awaitReset_adoptionTimer (s : State) :
    (awaitReset s).adoptionTimer = s.adoptionTimer := rfl
@[simp] theorem awaitReset_field (s : State) :
    (awaitReset s).field = s.field := rfl
@[simp] theorem awaitReset_admission (s : State) :
    (awaitReset s).admission = s.admission := rfl
@[simp] theorem awaitReset_daylight (s : State) :
    (awaitReset s).daylight = s.daylight := rfl
@[simp] theorem awaitReset_ports (s : State) :
    (awaitReset s).ports = s.ports := rfl
@[simp] theorem awaitReset_contexts (s : State) :
    (awaitReset s).contexts = s.contexts := rfl
@[simp] theorem awaitReset_window (s : State) :
    (awaitReset s).window = s.window := rfl
@[simp] theorem awaitReset_executor (s : State) :
    (awaitReset s).executor = s.executor := rfl
@[simp] theorem awaitReset_events (s : State) :
    (awaitReset s).events = s.events := rfl
@[simp] theorem awaitReset_counter (s : State) :
    (awaitReset s).counter = s.counter := rfl
@[simp] theorem awaitReset_supervisory (s : State) :
    (awaitReset s).supervisory = { s.supervisory with resetWait := .replyWaiting } := rfl

/-! ### setComputerConfig -/

@[simp] theorem setComputerConfig_pending (k : Slot) (x : ComputerConfig) (s : State) :
    (setComputerConfig k x s).pending = s.pending := rfl
@[simp] theorem setComputerConfig_arriving (k : Slot) (x : ComputerConfig) (s : State) :
    (setComputerConfig k x s).arriving = s.arriving := rfl
@[simp] theorem setComputerConfig_inputs (k : Slot) (x : ComputerConfig) (s : State) :
    (setComputerConfig k x s).inputs = s.inputs := rfl
@[simp] theorem setComputerConfig_pins (k : Slot) (x : ComputerConfig) (s : State) :
    (setComputerConfig k x s).pins = s.pins := rfl
@[simp] theorem setComputerConfig_now (k : Slot) (x : ComputerConfig) (s : State) :
    (setComputerConfig k x s).now = s.now := rfl
@[simp] theorem setComputerConfig_partState (k : Slot) (x : ComputerConfig) (s : State) :
    (setComputerConfig k x s).partState = s.partState := rfl
@[simp] theorem setComputerConfig_commissioned (k : Slot) (x : ComputerConfig) (s : State) :
    (setComputerConfig k x s).commissioned = s.commissioned := rfl
@[simp] theorem setComputerConfig_lastReset (k : Slot) (x : ComputerConfig) (s : State) :
    (setComputerConfig k x s).lastReset = s.lastReset := rfl
@[simp] theorem setComputerConfig_held (k : Slot) (x : ComputerConfig) (s : State) :
    (setComputerConfig k x s).held = s.held := rfl
@[simp] theorem setComputerConfig_cfg (k : Slot) (x : ComputerConfig) (s : State) :
    (setComputerConfig k x s).cfg = { s.cfg with computers := s.cfg.computers.set k x } := rfl
@[simp] theorem setComputerConfig_store (k : Slot) (x : ComputerConfig) (s : State) :
    (setComputerConfig k x s).store = s.store := rfl
@[simp] theorem setComputerConfig_channels (k : Slot) (x : ComputerConfig) (s : State) :
    (setComputerConfig k x s).channels = s.channels := rfl
@[simp] theorem setComputerConfig_stepTimer (k : Slot) (x : ComputerConfig) (s : State) :
    (setComputerConfig k x s).stepTimer = s.stepTimer := rfl
@[simp] theorem setComputerConfig_adoptionTimer (k : Slot) (x : ComputerConfig) (s : State) :
    (setComputerConfig k x s).adoptionTimer = s.adoptionTimer := rfl
@[simp] theorem setComputerConfig_field (k : Slot) (x : ComputerConfig) (s : State) :
    (setComputerConfig k x s).field = s.field := rfl
@[simp] theorem setComputerConfig_admission (k : Slot) (x : ComputerConfig) (s : State) :
    (setComputerConfig k x s).admission = s.admission := rfl
@[simp] theorem setComputerConfig_daylight (k : Slot) (x : ComputerConfig) (s : State) :
    (setComputerConfig k x s).daylight = s.daylight := rfl
@[simp] theorem setComputerConfig_ports (k : Slot) (x : ComputerConfig) (s : State) :
    (setComputerConfig k x s).ports = s.ports := rfl
@[simp] theorem setComputerConfig_contexts (k : Slot) (x : ComputerConfig) (s : State) :
    (setComputerConfig k x s).contexts = s.contexts := rfl
@[simp] theorem setComputerConfig_window (k : Slot) (x : ComputerConfig) (s : State) :
    (setComputerConfig k x s).window = s.window := rfl
@[simp] theorem setComputerConfig_executor (k : Slot) (x : ComputerConfig) (s : State) :
    (setComputerConfig k x s).executor = s.executor := rfl
@[simp] theorem setComputerConfig_events (k : Slot) (x : ComputerConfig) (s : State) :
    (setComputerConfig k x s).events = s.events := rfl
@[simp] theorem setComputerConfig_counter (k : Slot) (x : ComputerConfig) (s : State) :
    (setComputerConfig k x s).counter = s.counter := rfl
@[simp] theorem setComputerConfig_supervisory (k : Slot) (x : ComputerConfig) (s : State) :
    (setComputerConfig k x s).supervisory = s.supervisory := rfl

/-! ### setChannelConfig -/

@[simp] theorem setChannelConfig_pending (c : Chan) (x : ChannelConfig) (s : State) :
    (setChannelConfig c x s).pending = s.pending := rfl
@[simp] theorem setChannelConfig_arriving (c : Chan) (x : ChannelConfig) (s : State) :
    (setChannelConfig c x s).arriving = s.arriving := rfl
@[simp] theorem setChannelConfig_inputs (c : Chan) (x : ChannelConfig) (s : State) :
    (setChannelConfig c x s).inputs = s.inputs := rfl
@[simp] theorem setChannelConfig_pins (c : Chan) (x : ChannelConfig) (s : State) :
    (setChannelConfig c x s).pins = s.pins := rfl
@[simp] theorem setChannelConfig_now (c : Chan) (x : ChannelConfig) (s : State) :
    (setChannelConfig c x s).now = s.now := rfl
@[simp] theorem setChannelConfig_partState (c : Chan) (x : ChannelConfig) (s : State) :
    (setChannelConfig c x s).partState = s.partState := rfl
@[simp] theorem setChannelConfig_commissioned (c : Chan) (x : ChannelConfig) (s : State) :
    (setChannelConfig c x s).commissioned = s.commissioned := rfl
@[simp] theorem setChannelConfig_lastReset (c : Chan) (x : ChannelConfig) (s : State) :
    (setChannelConfig c x s).lastReset = s.lastReset := rfl
@[simp] theorem setChannelConfig_held (c : Chan) (x : ChannelConfig) (s : State) :
    (setChannelConfig c x s).held = s.held := rfl
@[simp] theorem setChannelConfig_cfg (c : Chan) (x : ChannelConfig) (s : State) :
    (setChannelConfig c x s).cfg = { s.cfg with channels := s.cfg.channels.set c x } := rfl
@[simp] theorem setChannelConfig_store (c : Chan) (x : ChannelConfig) (s : State) :
    (setChannelConfig c x s).store = s.store := rfl
@[simp] theorem setChannelConfig_channels (c : Chan) (x : ChannelConfig) (s : State) :
    (setChannelConfig c x s).channels = s.channels := rfl
@[simp] theorem setChannelConfig_stepTimer (c : Chan) (x : ChannelConfig) (s : State) :
    (setChannelConfig c x s).stepTimer = s.stepTimer := rfl
@[simp] theorem setChannelConfig_adoptionTimer (c : Chan) (x : ChannelConfig) (s : State) :
    (setChannelConfig c x s).adoptionTimer = s.adoptionTimer := rfl
@[simp] theorem setChannelConfig_field (c : Chan) (x : ChannelConfig) (s : State) :
    (setChannelConfig c x s).field = s.field := rfl
@[simp] theorem setChannelConfig_admission (c : Chan) (x : ChannelConfig) (s : State) :
    (setChannelConfig c x s).admission = s.admission := rfl
@[simp] theorem setChannelConfig_daylight (c : Chan) (x : ChannelConfig) (s : State) :
    (setChannelConfig c x s).daylight = s.daylight := rfl
@[simp] theorem setChannelConfig_ports (c : Chan) (x : ChannelConfig) (s : State) :
    (setChannelConfig c x s).ports = s.ports := rfl
@[simp] theorem setChannelConfig_contexts (c : Chan) (x : ChannelConfig) (s : State) :
    (setChannelConfig c x s).contexts = s.contexts := rfl
@[simp] theorem setChannelConfig_window (c : Chan) (x : ChannelConfig) (s : State) :
    (setChannelConfig c x s).window = s.window := rfl
@[simp] theorem setChannelConfig_executor (c : Chan) (x : ChannelConfig) (s : State) :
    (setChannelConfig c x s).executor = s.executor := rfl
@[simp] theorem setChannelConfig_events (c : Chan) (x : ChannelConfig) (s : State) :
    (setChannelConfig c x s).events = s.events := rfl
@[simp] theorem setChannelConfig_counter (c : Chan) (x : ChannelConfig) (s : State) :
    (setChannelConfig c x s).counter = s.counter := rfl
@[simp] theorem setChannelConfig_supervisory (c : Chan) (x : ChannelConfig) (s : State) :
    (setChannelConfig c x s).supervisory = s.supervisory := rfl

/-! ### applyPlan -/

@[simp] theorem applyPlan_pending (p : PlanNo) (r : PlanRecord) (s : State) :
    (applyPlan p r s).pending = s.pending := rfl
@[simp] theorem applyPlan_arriving (p : PlanNo) (r : PlanRecord) (s : State) :
    (applyPlan p r s).arriving = s.arriving := rfl
@[simp] theorem applyPlan_inputs (p : PlanNo) (r : PlanRecord) (s : State) :
    (applyPlan p r s).inputs = s.inputs := rfl
@[simp] theorem applyPlan_pins (p : PlanNo) (r : PlanRecord) (s : State) :
    (applyPlan p r s).pins = s.pins := rfl
@[simp] theorem applyPlan_now (p : PlanNo) (r : PlanRecord) (s : State) :
    (applyPlan p r s).now = s.now := rfl
@[simp] theorem applyPlan_partState (p : PlanNo) (r : PlanRecord) (s : State) :
    (applyPlan p r s).partState = s.partState := rfl
@[simp] theorem applyPlan_commissioned (p : PlanNo) (r : PlanRecord) (s : State) :
    (applyPlan p r s).commissioned = s.commissioned := rfl
@[simp] theorem applyPlan_lastReset (p : PlanNo) (r : PlanRecord) (s : State) :
    (applyPlan p r s).lastReset = s.lastReset := rfl
@[simp] theorem applyPlan_held (p : PlanNo) (r : PlanRecord) (s : State) :
    (applyPlan p r s).held = s.held := rfl
@[simp] theorem applyPlan_cfg (p : PlanNo) (r : PlanRecord) (s : State) :
    (applyPlan p r s).cfg = { s.cfg with plans := s.cfg.plans.set p r } := rfl
@[simp] theorem applyPlan_store (p : PlanNo) (r : PlanRecord) (s : State) :
    (applyPlan p r s).store = s.store := rfl
@[simp] theorem applyPlan_channels (p : PlanNo) (r : PlanRecord) (s : State) :
    (applyPlan p r s).channels = s.channels := rfl
@[simp] theorem applyPlan_stepTimer (p : PlanNo) (r : PlanRecord) (s : State) :
    (applyPlan p r s).stepTimer = s.stepTimer := rfl
@[simp] theorem applyPlan_adoptionTimer (p : PlanNo) (r : PlanRecord) (s : State) :
    (applyPlan p r s).adoptionTimer = s.adoptionTimer := rfl
@[simp] theorem applyPlan_field (p : PlanNo) (r : PlanRecord) (s : State) :
    (applyPlan p r s).field = s.field := rfl
@[simp] theorem applyPlan_admission (p : PlanNo) (r : PlanRecord) (s : State) :
    (applyPlan p r s).admission = s.admission := rfl
@[simp] theorem applyPlan_daylight (p : PlanNo) (r : PlanRecord) (s : State) :
    (applyPlan p r s).daylight = s.daylight := rfl
@[simp] theorem applyPlan_ports (p : PlanNo) (r : PlanRecord) (s : State) :
    (applyPlan p r s).ports = s.ports := rfl
@[simp] theorem applyPlan_contexts (p : PlanNo) (r : PlanRecord) (s : State) :
    (applyPlan p r s).contexts = s.contexts := rfl
@[simp] theorem applyPlan_window (p : PlanNo) (r : PlanRecord) (s : State) :
    (applyPlan p r s).window = s.window := rfl
@[simp] theorem applyPlan_executor (p : PlanNo) (r : PlanRecord) (s : State) :
    (applyPlan p r s).executor = s.executor := rfl
@[simp] theorem applyPlan_events (p : PlanNo) (r : PlanRecord) (s : State) :
    (applyPlan p r s).events = s.events := rfl
@[simp] theorem applyPlan_counter (p : PlanNo) (r : PlanRecord) (s : State) :
    (applyPlan p r s).counter = s.counter := rfl
@[simp] theorem applyPlan_supervisory (p : PlanNo) (r : PlanRecord) (s : State) :
    (applyPlan p r s).supervisory = s.supervisory := rfl

/-! ### beginWrite -/

@[simp] theorem beginWrite_pending (s : State) :
    (beginWrite s).pending = s.pending := rfl
@[simp] theorem beginWrite_arriving (s : State) :
    (beginWrite s).arriving = s.arriving := rfl
@[simp] theorem beginWrite_inputs (s : State) :
    (beginWrite s).inputs = s.inputs := rfl
@[simp] theorem beginWrite_pins (s : State) :
    (beginWrite s).pins = s.pins := rfl
@[simp] theorem beginWrite_now (s : State) :
    (beginWrite s).now = s.now := rfl
@[simp] theorem beginWrite_partState (s : State) :
    (beginWrite s).partState = s.partState := rfl
@[simp] theorem beginWrite_commissioned (s : State) :
    (beginWrite s).commissioned = s.commissioned := rfl
@[simp] theorem beginWrite_lastReset (s : State) :
    (beginWrite s).lastReset = s.lastReset := rfl
@[simp] theorem beginWrite_held (s : State) :
    (beginWrite s).held = s.held := rfl
@[simp] theorem beginWrite_cfg (s : State) :
    (beginWrite s).cfg = s.cfg := rfl
@[simp] theorem beginWrite_store (s : State) :
    (beginWrite s).store = { s.store with
      valid := false, writing := some { config := s.cfg, commissioned := s.commissioned } } := rfl
@[simp] theorem beginWrite_channels (s : State) :
    (beginWrite s).channels = s.channels := rfl
@[simp] theorem beginWrite_stepTimer (s : State) :
    (beginWrite s).stepTimer = s.stepTimer := rfl
@[simp] theorem beginWrite_adoptionTimer (s : State) :
    (beginWrite s).adoptionTimer = s.adoptionTimer := rfl
@[simp] theorem beginWrite_field (s : State) :
    (beginWrite s).field = s.field := rfl
@[simp] theorem beginWrite_admission (s : State) :
    (beginWrite s).admission = s.admission := rfl
@[simp] theorem beginWrite_daylight (s : State) :
    (beginWrite s).daylight = s.daylight := rfl
@[simp] theorem beginWrite_ports (s : State) :
    (beginWrite s).ports = s.ports := rfl
@[simp] theorem beginWrite_contexts (s : State) :
    (beginWrite s).contexts = s.contexts := rfl
@[simp] theorem beginWrite_window (s : State) :
    (beginWrite s).window = s.window := rfl
@[simp] theorem beginWrite_executor (s : State) :
    (beginWrite s).executor = s.executor := rfl
@[simp] theorem beginWrite_events (s : State) :
    (beginWrite s).events = s.events := rfl
@[simp] theorem beginWrite_counter (s : State) :
    (beginWrite s).counter = s.counter := rfl
@[simp] theorem beginWrite_supervisory (s : State) :
    (beginWrite s).supervisory = s.supervisory := rfl

/-! ### clampCredit -/

@[simp] theorem clampCredit_pending (s : State) :
    (clampCredit s).pending = s.pending := rfl
@[simp] theorem clampCredit_arriving (s : State) :
    (clampCredit s).arriving = s.arriving := rfl
@[simp] theorem clampCredit_inputs (s : State) :
    (clampCredit s).inputs = s.inputs := rfl
@[simp] theorem clampCredit_pins (s : State) :
    (clampCredit s).pins = s.pins := rfl
@[simp] theorem clampCredit_now (s : State) :
    (clampCredit s).now = s.now := rfl
@[simp] theorem clampCredit_partState (s : State) :
    (clampCredit s).partState = s.partState := rfl
@[simp] theorem clampCredit_commissioned (s : State) :
    (clampCredit s).commissioned = s.commissioned := rfl
@[simp] theorem clampCredit_lastReset (s : State) :
    (clampCredit s).lastReset = s.lastReset := rfl
@[simp] theorem clampCredit_held (s : State) :
    (clampCredit s).held = s.held := rfl
@[simp] theorem clampCredit_cfg (s : State) :
    (clampCredit s).cfg = s.cfg := rfl
@[simp] theorem clampCredit_store (s : State) :
    (clampCredit s).store = s.store := rfl
@[simp] theorem clampCredit_channels (s : State) :
    (clampCredit s).channels = s.channels := rfl
@[simp] theorem clampCredit_stepTimer (s : State) :
    (clampCredit s).stepTimer = s.stepTimer := rfl
@[simp] theorem clampCredit_adoptionTimer (s : State) :
    (clampCredit s).adoptionTimer = s.adoptionTimer := rfl
@[simp] theorem clampCredit_field (s : State) :
    (clampCredit s).field = s.field := rfl
@[simp] theorem clampCredit_admission (s : State) :
    (clampCredit s).admission = { s.admission with credit := min s.admission.credit (currentCap s) } := rfl
@[simp] theorem clampCredit_daylight (s : State) :
    (clampCredit s).daylight = s.daylight := rfl
@[simp] theorem clampCredit_ports (s : State) :
    (clampCredit s).ports = s.ports := rfl
@[simp] theorem clampCredit_contexts (s : State) :
    (clampCredit s).contexts = s.contexts := rfl
@[simp] theorem clampCredit_window (s : State) :
    (clampCredit s).window = s.window := rfl
@[simp] theorem clampCredit_executor (s : State) :
    (clampCredit s).executor = s.executor := rfl
@[simp] theorem clampCredit_events (s : State) :
    (clampCredit s).events = s.events := rfl
@[simp] theorem clampCredit_counter (s : State) :
    (clampCredit s).counter = s.counter := rfl
@[simp] theorem clampCredit_supervisory (s : State) :
    (clampCredit s).supervisory = s.supervisory := rfl

/-! ### refillCredit -/

@[simp] theorem refillCredit_pending (s : State) :
    (refillCredit s).pending = s.pending := rfl
@[simp] theorem refillCredit_arriving (s : State) :
    (refillCredit s).arriving = s.arriving := rfl
@[simp] theorem refillCredit_inputs (s : State) :
    (refillCredit s).inputs = s.inputs := rfl
@[simp] theorem refillCredit_pins (s : State) :
    (refillCredit s).pins = s.pins := rfl
@[simp] theorem refillCredit_now (s : State) :
    (refillCredit s).now = s.now := rfl
@[simp] theorem refillCredit_partState (s : State) :
    (refillCredit s).partState = s.partState := rfl
@[simp] theorem refillCredit_commissioned (s : State) :
    (refillCredit s).commissioned = s.commissioned := rfl
@[simp] theorem refillCredit_lastReset (s : State) :
    (refillCredit s).lastReset = s.lastReset := rfl
@[simp] theorem refillCredit_held (s : State) :
    (refillCredit s).held = s.held := rfl
@[simp] theorem refillCredit_cfg (s : State) :
    (refillCredit s).cfg = s.cfg := rfl
@[simp] theorem refillCredit_store (s : State) :
    (refillCredit s).store = s.store := rfl
@[simp] theorem refillCredit_channels (s : State) :
    (refillCredit s).channels = s.channels := rfl
@[simp] theorem refillCredit_stepTimer (s : State) :
    (refillCredit s).stepTimer = s.stepTimer := rfl
@[simp] theorem refillCredit_adoptionTimer (s : State) :
    (refillCredit s).adoptionTimer = s.adoptionTimer := rfl
@[simp] theorem refillCredit_field (s : State) :
    (refillCredit s).field = s.field := rfl
@[simp] theorem refillCredit_admission (s : State) :
    (refillCredit s).admission = { s.admission with
      credit := min (currentCap s) (s.admission.credit + s.cfg.budget.refill) } := rfl
@[simp] theorem refillCredit_daylight (s : State) :
    (refillCredit s).daylight = s.daylight := rfl
@[simp] theorem refillCredit_ports (s : State) :
    (refillCredit s).ports = s.ports := rfl
@[simp] theorem refillCredit_contexts (s : State) :
    (refillCredit s).contexts = s.contexts := rfl
@[simp] theorem refillCredit_window (s : State) :
    (refillCredit s).window = s.window := rfl
@[simp] theorem refillCredit_executor (s : State) :
    (refillCredit s).executor = s.executor := rfl
@[simp] theorem refillCredit_events (s : State) :
    (refillCredit s).events = s.events := rfl
@[simp] theorem refillCredit_counter (s : State) :
    (refillCredit s).counter = s.counter := rfl
@[simp] theorem refillCredit_supervisory (s : State) :
    (refillCredit s).supervisory = s.supervisory := rfl

/-! ### restartRefill -/

@[simp] theorem restartRefill_pending (s : State) :
    (restartRefill s).pending = s.pending := rfl
@[simp] theorem restartRefill_arriving (s : State) :
    (restartRefill s).arriving = s.arriving := rfl
@[simp] theorem restartRefill_inputs (s : State) :
    (restartRefill s).inputs = s.inputs := rfl
@[simp] theorem restartRefill_pins (s : State) :
    (restartRefill s).pins = s.pins := rfl
@[simp] theorem restartRefill_now (s : State) :
    (restartRefill s).now = s.now := rfl
@[simp] theorem restartRefill_partState (s : State) :
    (restartRefill s).partState = s.partState := rfl
@[simp] theorem restartRefill_commissioned (s : State) :
    (restartRefill s).commissioned = s.commissioned := rfl
@[simp] theorem restartRefill_lastReset (s : State) :
    (restartRefill s).lastReset = s.lastReset := rfl
@[simp] theorem restartRefill_held (s : State) :
    (restartRefill s).held = s.held := rfl
@[simp] theorem restartRefill_cfg (s : State) :
    (restartRefill s).cfg = s.cfg := rfl
@[simp] theorem restartRefill_store (s : State) :
    (restartRefill s).store = s.store := rfl
@[simp] theorem restartRefill_channels (s : State) :
    (restartRefill s).channels = s.channels := rfl
@[simp] theorem restartRefill_stepTimer (s : State) :
    (restartRefill s).stepTimer = s.stepTimer := rfl
@[simp] theorem restartRefill_adoptionTimer (s : State) :
    (restartRefill s).adoptionTimer = s.adoptionTimer := rfl
@[simp] theorem restartRefill_field (s : State) :
    (restartRefill s).field = s.field := rfl
@[simp] theorem restartRefill_admission (s : State) :
    (restartRefill s).admission = { s.admission with refillTimer := some (s.now + Config.refillPeriod) } := rfl
@[simp] theorem restartRefill_daylight (s : State) :
    (restartRefill s).daylight = s.daylight := rfl
@[simp] theorem restartRefill_ports (s : State) :
    (restartRefill s).ports = s.ports := rfl
@[simp] theorem restartRefill_contexts (s : State) :
    (restartRefill s).contexts = s.contexts := rfl
@[simp] theorem restartRefill_window (s : State) :
    (restartRefill s).window = s.window := rfl
@[simp] theorem restartRefill_executor (s : State) :
    (restartRefill s).executor = s.executor := rfl
@[simp] theorem restartRefill_events (s : State) :
    (restartRefill s).events = s.events := rfl
@[simp] theorem restartRefill_counter (s : State) :
    (restartRefill s).counter = s.counter := rfl
@[simp] theorem restartRefill_supervisory (s : State) :
    (restartRefill s).supervisory = s.supervisory := rfl

/-! ### queueSet -/

@[simp] theorem queueSet_pending (c : Chan) (v : Nat) (s : State) :
    (queueSet c v s).pending = s.pending := rfl
@[simp] theorem queueSet_arriving (c : Chan) (v : Nat) (s : State) :
    (queueSet c v s).arriving = s.arriving := rfl
@[simp] theorem queueSet_inputs (c : Chan) (v : Nat) (s : State) :
    (queueSet c v s).inputs = s.inputs := rfl
@[simp] theorem queueSet_pins (c : Chan) (v : Nat) (s : State) :
    (queueSet c v s).pins = s.pins := rfl
@[simp] theorem queueSet_now (c : Chan) (v : Nat) (s : State) :
    (queueSet c v s).now = s.now := rfl
@[simp] theorem queueSet_partState (c : Chan) (v : Nat) (s : State) :
    (queueSet c v s).partState = s.partState := rfl
@[simp] theorem queueSet_commissioned (c : Chan) (v : Nat) (s : State) :
    (queueSet c v s).commissioned = s.commissioned := rfl
@[simp] theorem queueSet_lastReset (c : Chan) (v : Nat) (s : State) :
    (queueSet c v s).lastReset = s.lastReset := rfl
@[simp] theorem queueSet_held (c : Chan) (v : Nat) (s : State) :
    (queueSet c v s).held = s.held := rfl
@[simp] theorem queueSet_cfg (c : Chan) (v : Nat) (s : State) :
    (queueSet c v s).cfg = s.cfg := rfl
@[simp] theorem queueSet_store (c : Chan) (v : Nat) (s : State) :
    (queueSet c v s).store = s.store := rfl
@[simp] theorem queueSet_channels (c : Chan) (v : Nat) (s : State) :
    (queueSet c v s).channels = s.channels := rfl
@[simp] theorem queueSet_stepTimer (c : Chan) (v : Nat) (s : State) :
    (queueSet c v s).stepTimer = s.stepTimer := rfl
@[simp] theorem queueSet_adoptionTimer (c : Chan) (v : Nat) (s : State) :
    (queueSet c v s).adoptionTimer = s.adoptionTimer := rfl
@[simp] theorem queueSet_admission (c : Chan) (v : Nat) (s : State) :
    (queueSet c v s).admission = s.admission := rfl
@[simp] theorem queueSet_daylight (c : Chan) (v : Nat) (s : State) :
    (queueSet c v s).daylight = s.daylight := rfl
@[simp] theorem queueSet_ports (c : Chan) (v : Nat) (s : State) :
    (queueSet c v s).ports = s.ports := rfl
@[simp] theorem queueSet_contexts (c : Chan) (v : Nat) (s : State) :
    (queueSet c v s).contexts = s.contexts := rfl
@[simp] theorem queueSet_window (c : Chan) (v : Nat) (s : State) :
    (queueSet c v s).window = s.window := rfl
@[simp] theorem queueSet_executor (c : Chan) (v : Nat) (s : State) :
    (queueSet c v s).executor = s.executor := rfl
@[simp] theorem queueSet_events (c : Chan) (v : Nat) (s : State) :
    (queueSet c v s).events = s.events := rfl
@[simp] theorem queueSet_counter (c : Chan) (v : Nat) (s : State) :
    (queueSet c v s).counter = s.counter := rfl
@[simp] theorem queueSet_supervisory (c : Chan) (v : Nat) (s : State) :
    (queueSet c v s).supervisory = s.supervisory := rfl

/-! ### setReception -/

@[simp] theorem setReception_pending (i : Input) (r : Reception) (s : State) :
    (setReception i r s).pending = s.pending := rfl
@[simp] theorem setReception_arriving (i : Input) (r : Reception) (s : State) :
    (setReception i r s).arriving = s.arriving := rfl
@[simp] theorem setReception_now (i : Input) (r : Reception) (s : State) :
    (setReception i r s).now = s.now := rfl
@[simp] theorem setReception_partState (i : Input) (r : Reception) (s : State) :
    (setReception i r s).partState = s.partState := rfl
@[simp] theorem setReception_commissioned (i : Input) (r : Reception) (s : State) :
    (setReception i r s).commissioned = s.commissioned := rfl
@[simp] theorem setReception_lastReset (i : Input) (r : Reception) (s : State) :
    (setReception i r s).lastReset = s.lastReset := rfl
@[simp] theorem setReception_held (i : Input) (r : Reception) (s : State) :
    (setReception i r s).held = s.held := rfl
@[simp] theorem setReception_cfg (i : Input) (r : Reception) (s : State) :
    (setReception i r s).cfg = s.cfg := rfl
@[simp] theorem setReception_store (i : Input) (r : Reception) (s : State) :
    (setReception i r s).store = s.store := rfl
@[simp] theorem setReception_channels (i : Input) (r : Reception) (s : State) :
    (setReception i r s).channels = s.channels := rfl
@[simp] theorem setReception_stepTimer (i : Input) (r : Reception) (s : State) :
    (setReception i r s).stepTimer = s.stepTimer := rfl
@[simp] theorem setReception_adoptionTimer (i : Input) (r : Reception) (s : State) :
    (setReception i r s).adoptionTimer = s.adoptionTimer := rfl
@[simp] theorem setReception_field (i : Input) (r : Reception) (s : State) :
    (setReception i r s).field = s.field := rfl
@[simp] theorem setReception_admission (i : Input) (r : Reception) (s : State) :
    (setReception i r s).admission = s.admission := rfl
@[simp] theorem setReception_daylight (i : Input) (r : Reception) (s : State) :
    (setReception i r s).daylight = s.daylight := rfl
@[simp] theorem setReception_ports (i : Input) (r : Reception) (s : State) :
    (setReception i r s).ports = s.ports := rfl
@[simp] theorem setReception_contexts (i : Input) (r : Reception) (s : State) :
    (setReception i r s).contexts = s.contexts := rfl
@[simp] theorem setReception_window (i : Input) (r : Reception) (s : State) :
    (setReception i r s).window = s.window := rfl
@[simp] theorem setReception_executor (i : Input) (r : Reception) (s : State) :
    (setReception i r s).executor = s.executor := rfl
@[simp] theorem setReception_events (i : Input) (r : Reception) (s : State) :
    (setReception i r s).events = s.events := rfl
@[simp] theorem setReception_counter (i : Input) (r : Reception) (s : State) :
    (setReception i r s).counter = s.counter := rfl
@[simp] theorem setReception_supervisory (i : Input) (r : Reception) (s : State) :
    (setReception i r s).supervisory = s.supervisory := rfl
@[simp] theorem setReception_inputs_supervisory (r : Reception) (s : State) :
    (setReception .supervisory r s).inputs = { s.inputs with supervisory := r } := rfl
@[simp] theorem setReception_inputs_computer (k : Slot) (r : Reception) (s : State) :
    (setReception (.computer k) r s).inputs =
      { s.inputs with computers := s.inputs.computers.set k r } := rfl
@[simp] theorem setReception_inputs_field (r : Reception) (s : State) :
    (setReception .field r s).inputs = { s.inputs with field := r } := rfl
@[simp] theorem setReception_pins (i : Input) (r : Reception) (s : State) :
    (setReception i r s).pins = s.pins := rfl

/-! ### filterTaken, setLevel, putBack

Each reaches one field only. -/

theorem filterTaken_eq (pin : Pin) (s : State) :
    filterTaken pin s = { s with pins := (filterTaken pin s).pins } := by cases pin <;> rfl
@[simp] theorem filterTaken_trigger (s : State) : (filterTaken .planTrigger s).pins =
    { s.pins with trigger := { s.pins.trigger with filter := none } } := rfl
@[simp] theorem filterTaken_reset (s : State) : (filterTaken .resetLine s).pins =
    { s.pins with reset := { s.pins.reset with filter := none } } := rfl
theorem setLevel_eq (pin : Pin) (high : Bool) (s : State) :
    (setLevel pin high s).1 = { s with pins := (setLevel pin high s).1.pins } := by cases pin <;> rfl
@[simp] theorem setLevel_trigger (high : Bool) (s : State) : (setLevel .planTrigger high s).1.pins =
    { s.pins with trigger := triggerAt high s.now s.pins.trigger } := rfl
@[simp] theorem setLevel_reset (high : Bool) (s : State) : (setLevel .resetLine high s).1.pins =
    { s.pins with reset := resetAt high s.now s.pins.reset } := rfl
@[simp] theorem putBack_arriving (a : Arrival) (s : State) :
    (putBack a s).arriving = a :: s.arriving := rfl
theorem putBack_eq (a : Arrival) (s : State) :
    putBack a s = { s with arriving := a :: s.arriving } := rfl

/-! ### updCount -/

@[simp] theorem updCount_pending (b : Bore) (f : Nat → Nat) (s : State) :
    (updCount b f s).pending = s.pending := by cases b <;> rfl
@[simp] theorem updCount_arriving (b : Bore) (f : Nat → Nat) (s : State) :
    (updCount b f s).arriving = s.arriving := by cases b <;> rfl
@[simp] theorem updCount_inputs (b : Bore) (f : Nat → Nat) (s : State) :
    (updCount b f s).inputs = s.inputs := by cases b <;> rfl
@[simp] theorem updCount_pins (b : Bore) (f : Nat → Nat) (s : State) :
    (updCount b f s).pins = s.pins := by cases b <;> rfl
@[simp] theorem updCount_now (b : Bore) (f : Nat → Nat) (s : State) :
    (updCount b f s).now = s.now := by cases b <;> rfl
@[simp] theorem updCount_partState (b : Bore) (f : Nat → Nat) (s : State) :
    (updCount b f s).partState = s.partState := by cases b <;> rfl
@[simp] theorem updCount_commissioned (b : Bore) (f : Nat → Nat) (s : State) :
    (updCount b f s).commissioned = s.commissioned := by cases b <;> rfl
@[simp] theorem updCount_lastReset (b : Bore) (f : Nat → Nat) (s : State) :
    (updCount b f s).lastReset = s.lastReset := by cases b <;> rfl
@[simp] theorem updCount_held (b : Bore) (f : Nat → Nat) (s : State) :
    (updCount b f s).held = s.held := by cases b <;> rfl
@[simp] theorem updCount_cfg (b : Bore) (f : Nat → Nat) (s : State) :
    (updCount b f s).cfg = s.cfg := by cases b <;> rfl
@[simp] theorem updCount_store (b : Bore) (f : Nat → Nat) (s : State) :
    (updCount b f s).store = s.store := by cases b <;> rfl
@[simp] theorem updCount_channels (b : Bore) (f : Nat → Nat) (s : State) :
    (updCount b f s).channels = s.channels := by cases b <;> rfl
@[simp] theorem updCount_stepTimer (b : Bore) (f : Nat → Nat) (s : State) :
    (updCount b f s).stepTimer = s.stepTimer := by cases b <;> rfl
@[simp] theorem updCount_adoptionTimer (b : Bore) (f : Nat → Nat) (s : State) :
    (updCount b f s).adoptionTimer = s.adoptionTimer := by cases b <;> rfl
@[simp] theorem updCount_field (b : Bore) (f : Nat → Nat) (s : State) :
    (updCount b f s).field = s.field := by cases b <;> rfl
@[simp] theorem updCount_admission (b : Bore) (f : Nat → Nat) (s : State) :
    (updCount b f s).admission = s.admission := by cases b <;> rfl
@[simp] theorem updCount_daylight (b : Bore) (f : Nat → Nat) (s : State) :
    (updCount b f s).daylight = s.daylight := by cases b <;> rfl
@[simp] theorem updCount_ports (b : Bore) (f : Nat → Nat) (s : State) :
    (updCount b f s).ports = s.ports := by cases b <;> rfl
@[simp] theorem updCount_contexts (b : Bore) (f : Nat → Nat) (s : State) :
    (updCount b f s).contexts = s.contexts := by cases b <;> rfl
@[simp] theorem updCount_executor (b : Bore) (f : Nat → Nat) (s : State) :
    (updCount b f s).executor = s.executor := by cases b <;> rfl
@[simp] theorem updCount_events (b : Bore) (f : Nat → Nat) (s : State) :
    (updCount b f s).events = s.events := by cases b <;> rfl
@[simp] theorem updCount_counter (b : Bore) (f : Nat → Nat) (s : State) :
    (updCount b f s).counter = s.counter := by cases b <;> rfl
@[simp] theorem updCount_supervisory (b : Bore) (f : Nat → Nat) (s : State) :
    (updCount b f s).supervisory = s.supervisory := by cases b <;> rfl

/-! ### Inside the changed records -/

@[simp] theorem updChannel_same (c : Chan) (f : ChannelRun → ChannelRun) (s : State) :
    (updChannel c f s).channels[c] = f s.channels[c] := by simp

theorem updChannel_other (c d : Chan) (f : ChannelRun → ChannelRun) (s : State) (h : d ≠ c) :
    (updChannel c f s).channels[d] = s.channels[d] := by
  have : c.val ≠ d.val := fun e => h (Fin.ext e.symm)
  simp [this]

@[simp] theorem mapChannels_get (f : Chan → ChannelRun → ChannelRun) (s : State) (c : Chan) :
    (mapChannels f s).channels[c] = f c s.channels[c] := by simp

@[simp] theorem updContext_same (k : Slot) (f : Context → Context) (s : State) :
    (updContext k f s).contexts[k] = f s.contexts[k] := by simp

theorem updContext_other (k j : Slot) (f : Context → Context) (s : State) (h : j ≠ k) :
    (updContext k f s).contexts[j] = s.contexts[j] := by
  have : k.val ≠ j.val := fun e => h (Fin.ext e.symm)
  simp [this]

@[simp] theorem updPort_same (k : Slot) (f : Port → Port) (s : State) :
    (updPort k f s).ports[k] = f s.ports[k] := by simp

theorem updPort_other (k j : Slot) (f : Port → Port) (s : State) (h : j ≠ k) :
    (updPort k f s).ports[j] = s.ports[j] := by
  have : k.val ≠ j.val := fun e => h (Fin.ext e.symm)
  simp [this]

/-- The whole channel record after a change of one: what the changed channel and every other hold. -/
theorem updChannel_get (c d : Chan) (f : ChannelRun → ChannelRun) (s : State) :
    (updChannel c f s).channels[d] = if d = c then f s.channels[d] else s.channels[d] := by
  by_cases h : d = c
  · subst h; simp
  · simp only [if_neg h]; exact updChannel_other c d f s h

theorem updContext_get (k j : Slot) (f : Context → Context) (s : State) :
    (updContext k f s).contexts[j] = if j = k then f s.contexts[j] else s.contexts[j] := by
  by_cases h : j = k
  · subst h; simp
  · simp only [if_neg h]; exact updContext_other k j f s h

theorem updPort_get (k j : Slot) (f : Port → Port) (s : State) :
    (updPort k f s).ports[j] = if j = k then f s.ports[j] else s.ports[j] := by
  by_cases h : j = k
  · subst h; simp
  · simp only [if_neg h]; exact updPort_other k j f s h

@[simp] theorem updCount_same (b : Bore) (f : Nat → Nat) (s : State) :
    countOf (updCount b f s) b = f (countOf s b) := by cases b <;> rfl

theorem updCount_other (b c : Bore) (f : Nat → Nat) (s : State) (h : c ≠ b) :
    countOf (updCount b f s) c = countOf s c := by cases b <;> cases c <;> first | rfl | exact absurd rfl h

@[simp] theorem updCount_waitList (b : Bore) (f : Nat → Nat) (s : State) :
    (updCount b f s).window.waitList = s.window.waitList := by cases b <;> rfl

end Sys2Proof.Laws
end

