-- ==== Sys2Proof/Laws/Plant.lean ====
section
/-! SUPPORT. What the operations of the channel table and the admission unit can move: driven values,
modes, targets and start-confirm timers of channels, the admission queue and credit, the SET records that
wait, and the event counter. Every other piece of state stays (`PlantMoves`). -/

namespace Sys2Proof.Laws

open Sys2Proof.Machine

/-- Of a channel record everything stays but the driven value, mode, target and start-confirm timer. -/
structure FlagsStay (a b : ChannelRun) : Prop where
  adopted : b.adopted = a.adopted
  demand : b.demand = a.demand
  forced : b.forced = a.forced
  matchCount : b.matchCount = a.matchCount
  driveFault : b.driveFault = a.driveFault
  runState : b.runState = a.runState

theorem FlagsStay.refl (a : ChannelRun) : FlagsStay a a := ⟨rfl, rfl, rfl, rfl, rfl, rfl⟩

theorem FlagsStay.trans {a b c : ChannelRun} (h : FlagsStay a b) (g : FlagsStay b c) : FlagsStay a c :=
  ⟨g.1.trans h.1, g.2.trans h.2, g.3.trans h.3, g.4.trans h.4, g.5.trans h.5, g.6.trans h.6⟩

/-- What an operation of the plant leaves as it is. -/
structure PlantMoves (s t : State) : Prop where
  pending : t.pending = s.pending
  arriving : t.arriving = s.arriving
  inputs : t.inputs = s.inputs
  pins : t.pins = s.pins
  now : t.now = s.now
  partState : t.partState = s.partState
  commissioned : t.commissioned = s.commissioned
  lastReset : t.lastReset = s.lastReset
  held : t.held = s.held
  cfg : t.cfg = s.cfg
  store : t.store = s.store
  stepTimer : t.stepTimer = s.stepTimer
  adoptionTimer : t.adoptionTimer = s.adoptionTimer
  daylight : t.daylight = s.daylight
  ports : t.ports = s.ports
  contexts : t.contexts = s.contexts
  window : t.window = s.window
  executor : t.executor = s.executor
  events : t.events = s.events
  supervisory : t.supervisory = s.supervisory
  answer : t.field.window = s.field.window
  period : t.field.period = s.field.period
  next : t.field.next = s.field.next
  line : t.field.line = s.field.line
  feed : t.admission.feed = s.admission.feed
  refillTimer : t.admission.refillTimer = s.admission.refillTimer
  flags : ∀ c : Chan, FlagsStay s.channels[c] t.channels[c]

theorem PlantMoves.refl (s : State) : PlantMoves s s := by
  constructor <;> first | rfl | exact fun c => FlagsStay.refl _

theorem PlantMoves.trans {s t u : State} (h : PlantMoves s t) (g : PlantMoves t u) : PlantMoves s u where
  pending := g.pending.trans h.pending
  arriving := g.arriving.trans h.arriving
  inputs := g.inputs.trans h.inputs
  pins := g.pins.trans h.pins
  now := g.now.trans h.now
  partState := g.partState.trans h.partState
  commissioned := g.commissioned.trans h.commissioned
  lastReset := g.lastReset.trans h.lastReset
  held := g.held.trans h.held
  cfg := g.cfg.trans h.cfg
  store := g.store.trans h.store
  stepTimer := g.stepTimer.trans h.stepTimer
  adoptionTimer := g.adoptionTimer.trans h.adoptionTimer
  daylight := g.daylight.trans h.daylight
  ports := g.ports.trans h.ports
  contexts := g.contexts.trans h.contexts
  window := g.window.trans h.window
  executor := g.executor.trans h.executor
  events := g.events.trans h.events
  supervisory := g.supervisory.trans h.supervisory
  answer := g.answer.trans h.answer
  period := g.period.trans h.period
  next := g.next.trans h.next
  line := g.line.trans h.line
  feed := g.feed.trans h.feed
  refillTimer := g.refillTimer.trans h.refillTimer
  flags c := (h.flags c).trans (g.flags c)

/-- A fold of operations moves what each of them moves. -/
theorem foldl_moves {α : Type} {R : State → State → Prop} (refl : ∀ s, R s s)
    (trans : ∀ {s t u}, R s t → R t u → R s u) (f : State → α → State) (h : ∀ s a, R s (f s a)) :
    ∀ (l : List α) (s : State), R s (l.foldl f s)
  | [], s => refl s
  | a :: l, s => trans (h s a) (foldl_moves refl trans f h l (f s a))

theorem foldl_plant {α : Type} (f : State → α → State) (h : ∀ s a, PlantMoves s (f s a)) (l : List α)
    (s : State) : PlantMoves s (l.foldl f s) :=
  foldl_moves PlantMoves.refl PlantMoves.trans f h l s

/-! ### The single changes -/

theorem updChannel_plant (c : Chan) (f : ChannelRun → ChannelRun) (s : State)
    (h : FlagsStay s.channels[c] (f s.channels[c])) : PlantMoves s (updChannel c f s) := by
  constructor <;> first
    | rfl
    | (intro d
       rw [updChannel_get]
       split
       · next e => subst e; exact h
       · exact FlagsStay.refl _)

theorem setQueue_plant (q : List AdmissionEntry) (s : State) : PlantMoves s (setQueue q s) := by
  constructor <;> first | rfl | exact fun c => FlagsStay.refl _

theorem queueSet_plant (c : Chan) (v : Nat) (s : State) : PlantMoves s (queueSet c v s) := by
  constructor <;> first | rfl | exact fun d => FlagsStay.refl _

/-- A count (R169): the counter rises by 1 up to 255 where the source is selected, else nothing changes. -/
theorem count_eq (source : CounterSource) (s : State) :
    count source s = { s with counter :=
      if s.cfg.counterSource = source ∧ source ≠ .none then min 255 (s.counter + 1) else s.counter } := by
  unfold count; split <;> rfl

theorem count_plant (source : CounterSource) (s : State) : PlantMoves s (count source s) := by
  rw [count_eq]; constructor <;> first | rfl | exact fun d => FlagsStay.refl _

theorem clampCredit_plant (s : State) : PlantMoves s (clampCredit s) := by
  constructor <;> first | rfl | exact fun d => FlagsStay.refl _

theorem refillCredit_plant (s : State) : PlantMoves s (refillCredit s) := by
  constructor <;> first | rfl | exact fun d => FlagsStay.refl _

theorem spendCredit_plant (n : Nat) (s : State) :
    PlantMoves s { s with admission := { s.admission with credit := n } } := by
  constructor <;> first | rfl | exact fun d => FlagsStay.refl _

/-! ### The admission unit -/

theorem withdraw_plant (c : Chan) (s : State) : PlantMoves s (withdraw c s) := setQueue_plant _ s

theorem overwriteWanted_plant (c : Chan) (w : Nat) (s : State) : PlantMoves s (overwriteWanted c w s) :=
  setQueue_plant _ s

theorem putRequest_plant (c : Chan) (w : Nat) (s : State) : PlantMoves s (putRequest c w s) := by
  unfold putRequest; split
  · exact overwriteWanted_plant c w s
  · exact setQueue_plant _ s

theorem applyGrant_plant (c : Chan) (g : Nat) (s : State) : PlantMoves s (applyGrant c g s) := by
  unfold applyGrant
  exact ((spendCredit_plant _ s).trans (updChannel_plant _ _ _ ⟨rfl, rfl, rfl, rfl, rfl, rfl⟩)).trans
    (queueSet_plant _ _ _)

theorem serveQueue_plant : ∀ (q : List AdmissionEntry) (s : State), PlantMoves s (serveQueue q s)
  | [], s => setQueue_plant [] s
  | e :: rest, s => by
    unfold serveQueue
    split
    · dsimp only
      split
      · exact (applyGrant_plant _ _ s).trans (serveQueue_plant rest _)
      · exact ((applyGrant_plant _ _ s).trans (setQueue_plant _ _)).trans (count_plant _ _)
    · exact setQueue_plant _ s

theorem serve_plant (s : State) : PlantMoves s (serve s) := serveQueue_plant _ s

/-! ### The channel table -/

theorem followTarget_plant (c : Chan) (s : State) : PlantMoves s (followTarget c s) := by
  unfold followTarget
  split
  · exact withdraw_plant c s
  · dsimp only
    split
    · exact withdraw_plant c s
    · split
      · split
        · exact (overwriteWanted_plant _ _ s).trans (serve_plant _)
        · exact PlantMoves.refl s
      · exact PlantMoves.refl s

theorem deriveFrom_plant (was : Option ChannelMode) (c : Chan) (s : State) :
    PlantMoves s (deriveFrom was c s) :=
  (updChannel_plant c _ s ⟨rfl, rfl, rfl, rfl, rfl, rfl⟩).trans (followTarget_plant c _)

theorem derive_plant (c : Chan) (s : State) : PlantMoves s (derive c s) := deriveFrom_plant _ c s

theorem deriveEach_plant (cs : List Chan) (s : State) : PlantMoves s (deriveEach cs s) :=
  foldl_plant _ (fun s c => derive_plant c s) cs s

theorem deriveOwned_plant (k : Slot) (s : State) : PlantMoves s (deriveOwned k s) := deriveEach_plant _ s

theorem deriveDaylight_plant (s : State) : PlantMoves s (deriveDaylight s) := deriveEach_plant _ s

theorem fall_plant (c : Chan) (s : State) : PlantMoves s (fall c s) := by
  unfold fall
  dsimp only
  split
  · split
    · exact (updChannel_plant c _ s ⟨rfl, rfl, rfl, rfl, rfl, rfl⟩).trans (queueSet_plant _ _ _)
    · exact PlantMoves.refl s
  · exact PlantMoves.refl s

theorem fallAll_plant (s : State) : PlantMoves s (fallAll s) := foldl_plant _ (fun s c => fall_plant c s) _ s

theorem requestAll_plant (s : State) : PlantMoves s (requestAll s) := by
  unfold requestAll
  dsimp only
  have h := foldl_plant (fun t c => putRequest c ((riseWanted s c).getD 0) t)
    (fun t c => putRequest_plant c _ t) (allChannels.filter fun c => (riseWanted s c).isSome) s
  split
  · exact h
  · exact h.trans (serve_plant _)

/-! ### Credit and queue -/

/-- No serving raises credit (R36, R37). -/
theorem serveQueue_credit_le : ∀ (q : List AdmissionEntry) (s : State),
    (serveQueue q s).admission.credit ≤ s.admission.credit
  | [], s => Nat.le_refl _
  | e :: rest, s => by
    have step : ∀ g, (applyGrant e.channel g s).admission.credit ≤ s.admission.credit := fun g => by
      simp [applyGrant, queueSet]
    unfold serveQueue
    split
    · dsimp only
      split
      · exact (serveQueue_credit_le rest _).trans (step _)
      · rw [count_eq]; exact step _
    · exact Nat.le_refl _

/-- A serving touches no channel without an entry (R35). -/
theorem serveQueue_other : ∀ (q : List AdmissionEntry) (s : State) (c : Chan),
    (∀ e ∈ q, e.channel ≠ c) → (serveQueue q s).channels[c] = s.channels[c]
  | [], s, c, _ => rfl
  | e :: rest, s, c, h => by
    have grant : ∀ g, (applyGrant e.channel g s).channels[c] = s.channels[c] := fun g => by
      have hc : c ≠ e.channel := fun hc => h e (by simp) hc.symm
      simp only [applyGrant, queueSet_channels]
      rw [updChannel_get, if_neg hc]
    unfold serveQueue
    split
    · dsimp only
      split
      · rw [serveQueue_other rest _ c fun x hx => h x (by simp [hx])]; exact grant _
      · rw [count_eq]; exact grant _
    · rfl

theorem serve_credit_le (s : State) : (serve s).admission.credit ≤ s.admission.credit :=
  serveQueue_credit_le _ s

end Sys2Proof.Laws
end

