-- ==== Sys2Proof/Laws/Computers.lean ====
section
/-! SUPPORT. What the operations of the ports, the handover controller, the window unit and the executor
can move: everything that the plant's operations move, contexts, ports, the window unit, the executor,
events, the counter, demands, match counts, and notices on the outgoing list (`ComputerMoves`). -/

namespace Sys2Proof.Laws

open Sys2Proof.Machine Sys2Proof.Safety

/-- Of a channel record its adopted flag, forced value, drive fault and run state stay. -/
structure FieldFlagsStay (a b : ChannelRun) : Prop where
  adopted : b.adopted = a.adopted
  forced : b.forced = a.forced
  driveFault : b.driveFault = a.driveFault
  runState : b.runState = a.runState

theorem FieldFlagsStay.refl (a : ChannelRun) : FieldFlagsStay a a := ⟨rfl, rfl, rfl, rfl⟩

theorem FieldFlagsStay.trans {a b c : ChannelRun} (h : FieldFlagsStay a b) (g : FieldFlagsStay b c) :
    FieldFlagsStay a c :=
  ⟨g.1.trans h.1, g.2.trans h.2, g.3.trans h.3, g.4.trans h.4⟩

/-- What an operation of the computers' side leaves as it is. -/
structure ComputerMoves (s t : State) : Prop where
  pending : t.pending = s.pending
  arriving : t.arriving = s.arriving
  inputs : t.inputs = s.inputs
  pins : t.pins = s.pins
  now : t.now = s.now
  partState : t.partState = s.partState
  commissioned : t.commissioned = s.commissioned
  lastReset : t.lastReset = s.lastReset
  held : t.held = s.held
  cfg : t.cfg = s.cfg
  store : t.store = s.store
  stepTimer : t.stepTimer = s.stepTimer
  adoptionTimer : t.adoptionTimer = s.adoptionTimer
  daylight : t.daylight = s.daylight
  answer : t.field.window = s.field.window
  period : t.field.period = s.field.period
  next : t.field.next = s.field.next
  line : t.field.line = s.field.line
  feed : t.admission.feed = s.admission.feed
  refillTimer : t.admission.refillTimer = s.admission.refillTimer
  queue : t.supervisory.queue = s.supervisory.queue
  checkErrors : t.supervisory.checkErrors = s.supervisory.checkErrors
  gapErrors : t.supervisory.gapErrors = s.supervisory.gapErrors
  formatErrors : t.supervisory.formatErrors = s.supervisory.formatErrors
  overflows : t.supervisory.overflows = s.supervisory.overflows
  resetWait : t.supervisory.resetWait = s.supervisory.resetWait
  outLine : t.supervisory.line = s.supervisory.line
  replies : repliesOf t.supervisory.outgoing = repliesOf s.supervisory.outgoing
  flags : ∀ c : Chan, FieldFlagsStay s.channels[c] t.channels[c]

theorem ComputerMoves.refl (s : State) : ComputerMoves s s := by
  constructor <;> first | rfl | exact fun c => FieldFlagsStay.refl _

theorem ComputerMoves.trans {s t u : State} (h : ComputerMoves s t) (g : ComputerMoves t u) :
    ComputerMoves s u where
  pending := g.pending.trans h.pending
  arriving := g.arriving.trans h.arriving
  inputs := g.inputs.trans h.inputs
  pins := g.pins.trans h.pins
  now := g.now.trans h.now
  partState := g.partState.trans h.partState
  commissioned := g.commissioned.trans h.commissioned
  lastReset := g.lastReset.trans h.lastReset
  held := g.held.trans h.held
  cfg := g.cfg.trans h.cfg
  store := g.store.trans h.store
  stepTimer := g.stepTimer.trans h.stepTimer
  adoptionTimer := g.adoptionTimer.trans h.adoptionTimer
  daylight := g.daylight.trans h.daylight
  answer := g.answer.trans h.answer
  period := g.period.trans h.period
  next := g.next.trans h.next
  line := g.line.trans h.line
  feed := g.feed.trans h.feed
  refillTimer := g.refillTimer.trans h.refillTimer
  queue := g.queue.trans h.queue
  checkErrors := g.checkErrors.trans h.checkErrors
  gapErrors := g.gapErrors.trans h.gapErrors
  formatErrors := g.formatErrors.trans h.formatErrors
  overflows := g.overflows.trans h.overflows
  resetWait := g.resetWait.trans h.resetWait
  outLine := g.outLine.trans h.outLine
  replies := g.replies.trans h.replies
  flags c := (h.flags c).trans (g.flags c)

/-- What the plant's operations move, these may move. -/
theorem PlantMoves.computer {s t : State} (h : PlantMoves s t) : ComputerMoves s t := by
  constructor <;> first
    | exact h.pending | exact h.arriving | exact h.inputs | exact h.pins | exact h.now | exact h.partState
    | exact h.commissioned | exact h.lastReset
    | exact h.held | exact h.cfg | exact h.store | exact h.stepTimer | exact h.adoptionTimer
    | exact h.daylight | exact h.answer | exact h.period | exact h.next | exact h.line
    | exact h.feed | exact h.refillTimer
    | exact fun c => ⟨(h.flags c).1, (h.flags c).3, (h.flags c).5, (h.flags c).6⟩
    | rw [h.supervisory]

theorem foldl_computer {α : Type} (f : State → α → State) (h : ∀ s a, ComputerMoves s (f s a))
    (l : List α) (s : State) : ComputerMoves s (l.foldl f s) :=
  foldl_moves ComputerMoves.refl ComputerMoves.trans f h l s

/-! ### The single changes -/

theorem updContext_moves (k : Slot) (f : Context → Context) (s : State) :
    ComputerMoves s (updContext k f s) := by
  constructor <;> first | rfl | exact fun c => FieldFlagsStay.refl _

theorem updPort_moves (k : Slot) (f : Port → Port) (s : State) : ComputerMoves s (updPort k f s) := by
  constructor <;> first | rfl | exact fun c => FieldFlagsStay.refl _

theorem setWaitList_moves (l : List WaitEntry) (s : State) : ComputerMoves s (setWaitList l s) := by
  constructor <;> first | rfl | exact fun c => FieldFlagsStay.refl _

theorem updCount_moves (b : Bore) (f : Nat → Nat) (s : State) : ComputerMoves s (updCount b f s) := by
  cases b <;> constructor <;> first | rfl | exact fun c => FieldFlagsStay.refl _

theorem updExecutor_moves (f : Executor → Executor) (s : State) : ComputerMoves s (updExecutor f s) := by
  constructor <;> first | rfl | exact fun c => FieldFlagsStay.refl _

theorem updChannel_moves (c : Chan) (f : ChannelRun → ChannelRun) (s : State)
    (h : FieldFlagsStay s.channels[c] (f s.channels[c])) : ComputerMoves s (updChannel c f s) := by
  constructor <;> first
    | rfl
    | (intro d
       rw [updChannel_get]
       split
       · next e => subst e; exact h
       · exact FieldFlagsStay.refl _)

theorem mapChannels_moves (f : Chan → ChannelRun → ChannelRun) (s : State)
    (h : ∀ c ch, FieldFlagsStay ch (f c ch)) : ComputerMoves s (mapChannels f s) := by
  constructor <;> first
    | (intro c; rw [mapChannels_get]; exact h _ _)
    | simp

/-! ### Events, counts and notices -/

theorem count_moves (source : CounterSource) (s : State) : ComputerMoves s (count source s) :=
  (count_plant source s).computer

/-- Replacing a waiting EVENT notice leaves the replies (R166). -/
theorem repliesOf_renewed (n : List (EventKind × Option Item)) (l : List OutFrame) :
    repliesOf (l.map fun f => if isNotice f then .eventNotice n else f) = repliesOf l := by
  induction l with
  | nil => rfl
  | cons f l ih =>
    have e : ∀ (g : OutFrame) (l : List OutFrame), repliesOf (g :: l) = repliesOf [g] ++ repliesOf l :=
      fun g l => List.filter_append [g] l
    rw [List.map_cons, e, e f l, ih]
    cases f <;> rfl

theorem repliesOf_append (l m : List OutFrame) : repliesOf (l ++ m) = repliesOf l ++ repliesOf m :=
  List.filter_append l m

theorem callNotice_moves (s : State) : ComputerMoves s (callNotice s) := by
  unfold callNotice
  dsimp only
  split
  · constructor <;> first | rfl | exact fun c => FieldFlagsStay.refl _ | exact repliesOf_renewed _ _
  · constructor <;> first
      | rfl
      | exact fun c => FieldFlagsStay.refl _
      | (rw [placeOut_supervisory, repliesOf_append]; exact List.append_nil _)

theorem setEvents_moves (v : Vector Latch 16) (s : State) : ComputerMoves s { s with events := v } := by
  constructor <;> first | rfl | exact fun c => FieldFlagsStay.refl _

theorem latch_moves (k : EventKind) (item : Option Item) (s : State) : ComputerMoves s (latch k item s) := by
  unfold latch
  dsimp only
  split
  · exact setEvents_moves _ s
  · exact (setEvents_moves _ s).trans (callNotice_moves _)

/-- A report of an event (R165): the event set, and at most the outgoing list. -/
theorem callNotice_events (s : State) : (callNotice s).events = s.events := by
  unfold callNotice; dsimp only; split <;> rfl

theorem latch_events (k : EventKind) (item : Option Item) (s : State) :
    (latch k item s).events = s.events.set (eventIndex k) { latched := true, item } := by
  unfold latch
  dsimp only
  split
  · rfl
  · exact callNotice_events _

/-- Of everything but the event set and the outgoing list a report changes nothing. -/
theorem latch_eq (k : EventKind) (item : Option Item) (s : State) :
    latch k item s = { s with
      events := s.events.set (eventIndex k) { latched := true, item }
      supervisory := { s.supervisory with outgoing := (latch k item s).supervisory.outgoing } } := by
  unfold latch callNotice placeOut
  dsimp only
  split
  · rfl
  · split <;> rfl

theorem latch_latched (k : EventKind) (item : Option Item) (s : State) :
    (latch k item s).events[eventIndex k] = { latched := true, item } := by
  rw [latch_events]; simp

theorem latch_contexts (k : EventKind) (item : Option Item) (s : State) :
    (latch k item s).contexts = s.contexts := by rw [latch_eq]

theorem latch_ports (k : EventKind) (item : Option Item) (s : State) :
    (latch k item s).ports = s.ports := by rw [latch_eq]

theorem latch_window (k : EventKind) (item : Option Item) (s : State) :
    (latch k item s).window = s.window := by rw [latch_eq]

theorem latch_executor (k : EventKind) (item : Option Item) (s : State) :
    (latch k item s).executor = s.executor := by rw [latch_eq]

theorem latch_channels (k : EventKind) (item : Option Item) (s : State) :
    (latch k item s).channels = s.channels := by rw [latch_eq]

theorem latch_admission (k : EventKind) (item : Option Item) (s : State) :
    (latch k item s).admission = s.admission := by rw [latch_eq]

theorem placeMark_moves (plan : PlanNo) (pass step code : Nat) (s : State) :
    ComputerMoves s (placeMark plan pass step code s) := by
  unfold placeMark
  split
  · constructor <;> first
      | rfl
      | exact fun c => FieldFlagsStay.refl _
      | (rw [placeOut_supervisory, repliesOf_append]; exact List.append_nil _)
  · constructor <;> first | rfl | exact fun c => FieldFlagsStay.refl _

/-! ### Ports and contexts -/

theorem sendOrder_moves (k : Slot) (o : Order) (s : State) : ComputerMoves s (sendOrder k o s) :=
  updPort_moves k _ s

theorem startReport_moves (k : Slot) (s : State) : ComputerMoves s (startReport k s) := updPort_moves k _ s

theorem stopReport_moves (k : Slot) (s : State) : ComputerMoves s (stopReport k s) := updPort_moves k _ s

theorem clearExpectation_moves (k : Slot) (s : State) : ComputerMoves s (clearExpectation k s) :=
  updPort_moves k _ s

theorem clearDemands_moves (k : Slot) (s : State) : ComputerMoves s (clearDemands k s) :=
  mapChannels_moves _ s fun c ch => by split <;> exact ⟨rfl, rfl, rfl, rfl⟩

theorem clearMatches_moves (k : Slot) (s : State) : ComputerMoves s (clearMatches k s) :=
  mapChannels_moves _ s fun c ch => by split <;> exact ⟨rfl, rfl, rfl, rfl⟩

theorem forget_moves (k : Slot) (new : ComputerState) (s : State) : ComputerMoves s (forget k new s) := by
  unfold forget
  split
  · exact (clearDemands_moves k s).trans (clearExpectation_moves k _)
  · exact (clearDemands_moves k s).trans (clearExpectation_moves k _)
  · exact clearExpectation_moves k s
  · exact ComputerMoves.refl s

theorem linkEnters_moves (k : Slot) (old new : ComputerState) (s : State) :
    ComputerMoves s (linkEnters k old new s) := by
  unfold linkEnters
  split
  · split
    · exact ComputerMoves.refl s
    · exact startReport_moves k s
  · exact stopReport_moves k s

theorem deriveOwned_moves (k : Slot) (s : State) : ComputerMoves s (deriveOwned k s) :=
  (deriveOwned_plant k s).computer

theorem deriveEach_moves (cs : List Chan) (s : State) : ComputerMoves s (deriveEach cs s) :=
  (deriveEach_plant cs s).computer

theorem changeState_moves (k : Slot) (new : ComputerState) (phase : Option JoinPhase)
    (f : Context → Context) (s : State) : ComputerMoves s (changeState k new phase f s) :=
  ((updContext_moves k _ s).trans (forget_moves k new _)).trans (linkEnters_moves k _ new _)

theorem enterSettle_moves (k : Slot) (s : State) : ComputerMoves s (enterSettle k s) :=
  (changeState_moves k _ _ _ s).trans (deriveOwned_moves k _)

theorem enterTrack_moves (k : Slot) (cause : TrackCause) (zero : Bool) (s : State) :
    ComputerMoves s (enterTrack k cause zero s) := by
  unfold enterTrack
  dsimp only
  split
  · exact ((changeState_moves k _ _ _ s).trans (clearMatches_moves k _)).trans (deriveOwned_moves k _)
  · exact (changeState_moves k _ _ _ s).trans (deriveOwned_moves k _)

theorem enterLost_moves (k : Slot) (s : State) : ComputerMoves s (enterLost k s) :=
  (changeState_moves k _ _ _ s).trans (deriveOwned_moves k _)

theorem sendRestart_moves (k : Slot) (s : State) : ComputerMoves s (sendRestart k s) := sendOrder_moves k _ s

theorem issueImage_moves (k : Slot) (s : State) : ComputerMoves s (issueImage k s) :=
  (updContext_moves k _ s).trans (sendOrder_moves k _ _)

theorem startImageTimer_moves (k : Slot) (s : State) : ComputerMoves s (startImageTimer k s) :=
  updContext_moves k _ s

theorem enterImage_moves (k : Slot) (s : State) : ComputerMoves s (enterImage k s) :=
  (((changeState_moves k _ _ _ s).trans (deriveOwned_moves k _)).trans (issueImage_moves k _)).trans
    (startImageTimer_moves k _)

theorem selfRestart_moves (k : Slot) (s : State) : ComputerMoves s (selfRestart k s) := by
  unfold selfRestart
  split
  · exact (sendOrder_moves k _ s).trans (enterImage_moves k _)
  · exact enterImage_moves k s

theorem orderTaken_moves (k : Slot) (s : State) : ComputerMoves s (orderTaken k s) := by
  have restart : ComputerMoves s (enterSettle k (sendRestart k s)) :=
    (sendRestart_moves k s).trans (enterSettle_moves k _)
  unfold orderTaken
  split
  · exact ((sendOrder_moves k _ s).trans (sendRestart_moves k _)).trans (enterSettle_moves k _)
  · exact ((updContext_moves k _ s).trans (sendRestart_moves k _)).trans (enterSettle_moves k _)
  · exact restart
  · exact restart
  · exact restart
  · exact restart
  · exact ComputerMoves.refl s
  · exact ComputerMoves.refl s

theorem pauseSlot_moves (k : Slot) (s : State) : ComputerMoves s (pauseSlot k s) := by
  have rest : ∀ t, ComputerMoves t (deriveOwned k (changeState k .paused none id (sendOrder k .pause t))) :=
    fun t => ((sendOrder_moves k _ t).trans (changeState_moves k _ _ _ _)).trans (deriveOwned_moves k _)
  unfold pauseSlot
  dsimp only
  split
  · exact (sendOrder_moves k _ s).trans (rest _)
  · exact rest s

theorem resumeSlot_moves (k : Slot) (s : State) : ComputerMoves s (resumeSlot k s) :=
  (sendOrder_moves k _ s).trans (enterTrack_moves k _ _ _)

/-! ### The restart window unit -/

theorem noteIssued_moves (k : Slot) (s : State) : ComputerMoves s (noteIssued k s) := by
  unfold noteIssued
  split
  · split
    · exact updExecutor_moves (fun x => { x with watch := { x.watch with ordered := true } }) s
    · exact ComputerMoves.refl s
  · exact ComputerMoves.refl s

theorem issueOrder_moves (k : Slot) (s : State) : ComputerMoves s (issueOrder k s) := by
  unfold issueOrder
  split
  · exact ((((setWaitList_moves _ s).trans (updContext_moves k _ _)).trans (updCount_moves _ _ _)).trans
      (orderTaken_moves k _)).trans (noteIssued_moves k _)
  · exact ComputerMoves.refl s

theorem serveEntries_moves (b : Bore) (l : List WaitEntry) (s : State) :
    ComputerMoves s (serveEntries b l s) := by
  refine foldl_computer _ (fun s e => ?_) l s
  split
  · exact issueOrder_moves _ s
  · exact ComputerMoves.refl s

theorem serveBore_moves (b : Bore) (s : State) : ComputerMoves s (serveBore b s) := serveEntries_moves b _ s

theorem takeRequest_moves (r : Requester) (k : Slot) (s : State) : ComputerMoves s (takeRequest r k s) := by
  unfold takeRequest
  split
  · exact ComputerMoves.refl s
  · exact setWaitList_moves _ s
  · exact ComputerMoves.refl s
  · exact issueOrder_moves k s
  · exact (setWaitList_moves _ s).trans (latch_moves _ _ _)

theorem dropRecovery_moves (k : Slot) (s : State) : ComputerMoves s (dropRecovery k s) := setWaitList_moves _ s

theorem dropEntry_moves (k : Slot) (s : State) : ComputerMoves s (dropEntry k s) := setWaitList_moves _ s

theorem dropPlan_moves (p : PlanNo) (s : State) : ComputerMoves s (dropPlan p s) := setWaitList_moves _ s

theorem releaseWindow_moves (k : Slot) (s : State) : ComputerMoves s (releaseWindow k s) := by
  unfold releaseWindow
  dsimp only
  split
  · exact (((dropRecovery_moves k s).trans (updContext_moves k _ _)).trans (updCount_moves _ _ _)).trans
      (serveBore_moves _ _)
  · exact dropRecovery_moves k s

/-! ### The plan executor -/

theorem awaitStep_moves (st : PlanStep) (s : State) : ComputerMoves s (awaitStep st s).1 := by
  unfold awaitStep
  exact updExecutor_moves (fun x => { x with stepTimer := timeoutDeadline s st.timeout }) s

theorem startRestart_moves (p : PlanNo) (k : Slot) (st : PlanStep) (s : State) :
    ComputerMoves s (startRestart p k st s).1 := by
  unfold startRestart
  dsimp only
  split
  · dsimp only
    exact (takeRequest_moves _ k s).trans (updExecutor_moves _ _)
  · exact ((takeRequest_moves _ k s).trans (updExecutor_moves _ _)).trans (awaitStep_moves st _)

theorem startPause_moves (k : Slot) (s : State) : ComputerMoves s (startPause k s).1 := by
  unfold startPause
  split
  · exact pauseSlot_moves k s
  · exact ComputerMoves.refl s

theorem startResume_moves (k : Slot) (st : PlanStep) (s : State) :
    ComputerMoves s (startResume k st s).1 := by
  unfold startResume
  split
  · exact ((resumeSlot_moves k s).trans (updExecutor_moves _ _)).trans (awaitStep_moves st _)
  · exact ComputerMoves.refl s

theorem startAction_moves (p : PlanNo) (i : Nat) (st : PlanStep) (s : State) :
    ComputerMoves s (startAction p i st s).1 := by
  unfold startAction
  split
  · split
    · exact startRestart_moves p _ st s
    · exact ComputerMoves.refl s
  · split
    · exact startPause_moves _ s
    · exact ComputerMoves.refl s
  · split
    · exact startResume_moves _ st s
    · exact ComputerMoves.refl s
  · dsimp only
    exact updExecutor_moves _ s
  · exact awaitStep_moves st s
  · split
    · exact ComputerMoves.refl s
    · exact awaitStep_moves st s
  · exact (updExecutor_moves _ s).trans (placeMark_moves _ _ _ _ _)

theorem startStep_moves (p : PlanNo) (i : Nat) (st : PlanStep) (s : State) :
    ComputerMoves s (startStep p i st s).1 :=
  (updExecutor_moves _ s).trans (startAction_moves p i st _)

theorem noteFailure_moves (st : PlanStep) (s : State) : ComputerMoves s (noteFailure st s) :=
  (updExecutor_moves _ s).trans (latch_moves _ _ _)

theorem endPlan_moves (p : PlanNo) (result : PlanResult) (s : State) :
    ComputerMoves s (endPlan p result s) :=
  (((updExecutor_moves _ s).trans (dropPlan_moves p _)).trans (updExecutor_moves _ _)).trans
    (latch_moves _ _ _)

theorem runSteps_moves (p : PlanNo) (onFail : OnFail) (onEnd : State → State)
    (h : ∀ s, ComputerMoves s (onEnd s)) :
    ∀ (l : List (PlanStep × Nat)) (s : State), ComputerMoves s (runSteps p onFail onEnd l s)
  | [], s => h s
  | (st, i) :: rest, s => by
    have first := startStep_moves p i st s
    unfold runSteps
    split
    · next e => rw [e] at first; exact first
    · next e => rw [e] at first; exact first.trans (runSteps_moves p onFail onEnd h rest _)
    · next e =>
      rw [e] at first
      split
      · exact (first.trans (noteFailure_moves st _)).trans (runSteps_moves p _ onEnd h rest _)
      · exact (first.trans (noteFailure_moves st _)).trans (endPlan_moves p _ _)

theorem countPass_moves (s : State) : ComputerMoves s (countPass s) := updExecutor_moves _ s

theorem enterPassWait_moves (s : State) : ComputerMoves s (enterPassWait s) := updExecutor_moves _ s

theorem freshPassEnd_moves (p : PlanNo) (r : PlanRecord) (s : State) :
    ComputerMoves s (freshPassEnd p r s) := by
  unfold freshPassEnd
  dsimp only
  refine (countPass_moves s).trans ?_
  split
  · exact endPlan_moves p _ _
  · split
    · exact enterPassWait_moves _
    · split
      · exact (enterPassWait_moves _).trans (updExecutor_moves _ _)
      · exact enterPassWait_moves _

theorem startPass_moves (p : PlanNo) (r : PlanRecord) (s : State) : ComputerMoves s (startPass p r s) :=
  (updExecutor_moves _ s).trans (runSteps_moves p _ _ (freshPassEnd_moves p r) _ _)

theorem passEnd_moves (p : PlanNo) (r : PlanRecord) (s : State) : ComputerMoves s (passEnd p r s) := by
  unfold passEnd
  dsimp only
  refine (countPass_moves s).trans ?_
  split
  · exact endPlan_moves p _ _
  · split
    · exact enterPassWait_moves _
    · split
      · exact (updExecutor_moves _ _).trans (startPass_moves p r _)
      · split
        · exact startPass_moves p r _
        · exact enterPassWait_moves _

theorem completeStep_moves (p : PlanNo) (r : PlanRecord) (i : Nat) (s : State) :
    ComputerMoves s (completeStep p r i s) :=
  (updExecutor_moves _ s).trans (runSteps_moves p _ _ (passEnd_moves p r) _ _)

theorem failStep_moves (p : PlanNo) (r : PlanRecord) (i : Nat) (st : PlanStep) (s : State) :
    ComputerMoves s (failStep p r i st s) := by
  unfold failStep
  split
  · exact (noteFailure_moves st s).trans (runSteps_moves p _ _ (passEnd_moves p r) _ _)
  · exact (noteFailure_moves st s).trans (endPlan_moves p _ _)

theorem noteControl_moves (k : Slot) (cause : Option TrackCause) (s : State) :
    ComputerMoves s (noteControl k cause s) := by
  unfold noteControl
  split
  · split
    · exact completeStep_moves _ _ _ s
    · exact ComputerMoves.refl s
  · exact ComputerMoves.refl s

theorem noteFault_moves (k : Slot) (s : State) : ComputerMoves s (noteFault k s) := by
  unfold noteFault
  split
  · split
    · exact failStep_moves _ _ _ _ s
    · exact ComputerMoves.refl s
  · exact ComputerMoves.refl s

theorem noteCredit_moves (s : State) : ComputerMoves s (noteCredit s) := by
  unfold noteCredit
  split
  · split
    · exact completeStep_moves _ _ _ s
    · exact ComputerMoves.refl s
  · exact ComputerMoves.refl s

theorem stepExpired_moves (s : State) : ComputerMoves s (stepExpired s) := by
  unfold stepExpired
  dsimp only
  refine ComputerMoves.trans (t := updExecutor (fun x => { x with stepTimer := none }) s)
    (updExecutor_moves _ s) ?_
  split
  · split
    · exact completeStep_moves _ _ _ _
    · exact failStep_moves _ _ _ _ _
  · exact ComputerMoves.refl _

theorem passExpired_moves (s : State) : ComputerMoves s (passExpired s) := by
  unfold passExpired
  dsimp only
  refine ComputerMoves.trans (t := updExecutor (fun x => { x with passTimer := none }) s)
    (updExecutor_moves _ s) ?_
  split
  · exact ComputerMoves.refl _
  · split
    · exact (updExecutor_moves _ _).trans (startPass_moves _ _ _)
    · split
      · exact (latch_moves _ _ _).trans (endPlan_moves _ _ _)
      · exact (latch_moves _ _ _).trans (updExecutor_moves _ _)
    · exact ComputerMoves.refl _
    · exact ComputerMoves.refl _

theorem takeEdge_moves (s : State) : ComputerMoves s (takeEdge s) := by
  unfold takeEdge
  split
  · exact startPass_moves _ _ s
  · dsimp only
    split
    · split
      · exact completeStep_moves _ _ _ s
      · split
        · exact (latch_moves _ _ s).trans (endPlan_moves _ _ _)
        · exact (latch_moves _ _ s).trans (count_moves _ _)
        · exact count_moves _ s
    · exact count_moves _ s
  · split
    · exact startPass_moves _ _ s
    · exact count_moves _ s
  · exact count_moves _ s

theorem startPlan_moves (p : PlanNo) (s : State) : ComputerMoves s (startPlan p s) := by
  unfold startPlan
  dsimp only
  split
  · exact (updExecutor_moves _ s).trans (updExecutor_moves _ _)
  · exact ((updExecutor_moves _ s).trans (updExecutor_moves _ _)).trans (startPass_moves _ _ _)

theorem endExecuting_moves (result : PlanResult) (s : State) : ComputerMoves s (endExecuting result s) := by
  unfold endExecuting
  split
  · exact endPlan_moves _ _ s
  · exact ComputerMoves.refl s

theorem stopAtPassEnd_moves (s : State) : ComputerMoves s (stopAtPassEnd s) := by
  unfold stopAtPassEnd
  split
  · exact updExecutor_moves _ s
  · exact endExecuting_moves _ s

/-! ### Outcomes of a computer's change -/

theorem enterControl_moves (k : Slot) (s : State) : ComputerMoves s (enterControl k s) :=
  ((((((changeState_moves k _ _ _ s).trans (sendOrder_moves k _ _)).trans (updContext_moves k _ _)).trans
    (releaseWindow_moves k _)).trans (latch_moves _ _ _)).trans (deriveOwned_moves k _)).trans
    (noteControl_moves k _ _)

theorem requestRecovery_moves (k : Slot) (s : State) : ComputerMoves s (requestRecovery k s) :=
  takeRequest_moves _ k s

theorem enterFault_moves (k : Slot) (s : State) : ComputerMoves s (enterFault k s) :=
  ((((changeState_moves k _ _ _ s).trans (deriveOwned_moves k _)).trans (releaseWindow_moves k _)).trans
    (latch_moves _ _ _)).trans (noteFault_moves k _)

theorem failAttempt_moves (k : Slot) (s : State) : ComputerMoves s (failAttempt k s) := by
  unfold failAttempt
  dsimp only
  split
  · exact ((updContext_moves k _ s).trans (latch_moves _ _ _)).trans (enterFault_moves k _)
  · split
    · exact ((updContext_moves k _ s).trans (latch_moves _ _ _)).trans
        ((sendRestart_moves k _).trans (enterSettle_moves k _))
    · exact ((updContext_moves k _ s).trans (latch_moves _ _ _)).trans
        ((enterLost_moves k _).trans (requestRecovery_moves k _))

theorem judgeChannel_moves (c : Chan) (s : State) : ComputerMoves s (judgeChannel c s) := by
  unfold judgeChannel
  split
  · exact updChannel_moves c _ s ⟨rfl, rfl, rfl, rfl⟩
  · exact (updChannel_moves c _ s ⟨rfl, rfl, rfl, rfl⟩).trans (count_moves _ _)

theorem judge_moves (k : Slot) (s : State) : ComputerMoves s (judge k s) :=
  foldl_computer _ (fun s c => judgeChannel_moves c s) _ s

theorem expectAfter_moves (k : Slot) (seq : Nat) (s : State) : ComputerMoves s (expectAfter k seq s) :=
  updPort_moves k _ s

theorem takePair_moves (k : Slot) (p : Nat × Nat) (s : State) : ComputerMoves s (takePair k p s) := by
  unfold takePair
  split
  · exact updChannel_moves _ _ s ⟨rfl, rfl, rfl, rfl⟩
  · exact count_moves _ s

theorem takePairs_moves (k : Slot) (pairs : List (Nat × Nat)) (s : State) :
    ComputerMoves s (takePairs k pairs s) :=
  foldl_computer _ (fun s p => takePair_moves k p s) _ s

theorem takeBreak_moves (k : Slot) (s : State) : ComputerMoves s (takeBreak k s) := by
  unfold takeBreak
  dsimp only
  split
  · exact latch_moves _ _ s
  · exact (latch_moves _ _ s).trans ((sendOrder_moves k _ _).trans (enterTrack_moves k _ _ _))
  · exact (latch_moves _ _ s).trans <|
      ((sendOrder_moves k _ _).trans (enterTrack_moves k _ _ _)).trans (requestRecovery_moves k _)

theorem controllerTakes_moves (k : Slot) (h : Health) (s : State) :
    ComputerMoves s (controllerTakes k h s) := by
  unfold controllerTakes
  dsimp only
  refine (updContext_moves k (fun x => { x with lastHealth := some h }) s).trans ?_
  split
  · refine (judge_moves k _).trans ?_
    split
    · exact enterControl_moves k _
    · exact ComputerMoves.refl _
  · split
    · split
      · exact ComputerMoves.refl _
      · exact takeBreak_moves k _
    · exact ComputerMoves.refl _

theorem acceptReport_moves (k : Slot) (seq : Nat) (h : Health) (pairs : List (Nat × Nat)) (s : State) :
    ComputerMoves s (acceptReport k seq h pairs s) := by
  have gap : ComputerMoves s (if isGap s k seq then count .reportGaps s else s) := by
    split
    · exact count_moves _ s
    · exact ComputerMoves.refl s
  exact ((((gap.trans (expectAfter_moves k seq _)).trans (takePairs_moves k pairs _)).trans
    (startReport_moves k _)).trans (controllerTakes_moves k h _)).trans (deriveEach_moves _ _)

theorem reportInLost_moves (k : Slot) (seq : Nat) (h : Health) (pairs : List (Nat × Nat)) (s : State) :
    ComputerMoves s (reportInLost k seq h pairs s) := by
  unfold reportInLost
  dsimp only
  split
  · exact ((enterTrack_moves k _ _ s).trans (acceptReport_moves k seq h pairs _)).trans
      (requestRecovery_moves k _)
  · exact (enterTrack_moves k _ _ s).trans (acceptReport_moves k seq h pairs _)

theorem helloInJoin_moves (k : Slot) (s : State) : ComputerMoves s (helloInJoin k s) :=
  ((updContext_moves k _ s).trans (issueImage_moves k _)).trans (startImageTimer_moves k _)

theorem enterHello_moves (k : Slot) (s : State) : ComputerMoves s (enterHello k s) :=
  (changeState_moves k _ _ _ s).trans (deriveOwned_moves k _)

theorem reportMissed_moves (k : Slot) (s : State) : ComputerMoves s (reportMissed k s) := by
  unfold reportMissed
  split
  · split
    · exact failAttempt_moves k s
    · exact enterLost_moves k s
  · exact (enterLost_moves k s).trans (latch_moves _ _ _)
  · exact ComputerMoves.refl s

theorem rearmReport_moves (k : Slot) (s : State) : ComputerMoves s (rearmReport k s) := by
  unfold rearmReport
  split
  · exact startReport_moves k s
  · exact ComputerMoves.refl s

theorem vacate_moves (k : Slot) (s : State) : ComputerMoves s (vacate k s) :=
  ((changeState_moves k _ _ _ s).trans (dropEntry_moves k _)).trans (deriveOwned_moves k _)

end Sys2Proof.Laws
end

