-- ==== Sys2Proof/Laws/Operations.lean ====
section
/-! SUPPORT. What each shared operation of the port, the clock, the ports and the contexts does, said once:
the taking of a command, expiries, readings of indexes, changes of a computer's state, restart requests. -/

namespace Sys2Proof.Laws

open Sys2Proof.Machine Sys2Proof.Safety

/-! ### Events and timers -/

theorem whenLive_live (f : State → State) (s : State) (h : s.held = false) :
    whenLive f s = .next (f s) := by simp [whenLive, h]

theorem whenLive_held (f : State → State) (s : State) (h : s.held = true) :
    whenLive f s = .next s := by simp [whenLive, h]

@[simp] theorem expire_none (f : State → State) (s : State) : expire none f s = s := rfl

@[simp] theorem expire_some (d : Nat) (f : State → State) (s : State) :
    expire (some d) f s = f { s with now := clockAt d s } := rfl

/-! ### Taking a command (R158, R159) -/

/-- A command that the port takes has left the queue, its reply stands at the back of the outgoing list, and
its effect is made on that state. -/
theorem takeCommand_taken (kind tag : Byte) (payload : List Byte) (answer : State → Answer) (s : State)
    (h : Taken kind tag payload s) :
    takeCommand { kind, tag, payload } answer s = .next
      ((answer (leaveQueue s)).effect (replied kind tag (answer (leaveQueue s)).code
        (answer (leaveQueue s)).detail (answer (leaveQueue s)).data s)) := by
  obtain ⟨live, wait, room, head⟩ := h
  have free : portFree s = true := by
    simp only [portFree, wait, beq_self_eq_true, Bool.true_and, decide_eq_true_eq]
    exact room
  unfold takeCommand
  rw [whenLive_live _ _ live, if_pos ⟨free, head⟩]
  rfl

/-- A command that finds the port unable to take it, or another command before it, joins the queue or is
discarded there (R157). -/
theorem takeCommand_arrives (f : CommandFrame) (answer : State → Answer) (s : State)
    (live : s.held = false)
    (later : portFree s = false ∨ (s.supervisory.queue ≠ [] ∧ s.supervisory.queue.head? ≠ some f)) :
    takeCommand f answer s = .next (receiveFrame f s) := by
  unfold takeCommand
  rw [whenLive_live _ _ live, if_neg]
  rintro ⟨free, empty | head⟩
  · rcases later with busy | ⟨busy, -⟩
    · simp [busy] at free
    · exact busy empty
  · rcases later with busy | ⟨-, other⟩
    · simp [busy] at free
    · exact other head

theorem takeCommand_held (f : CommandFrame) (answer : State → Answer) (s : State)
    (h : s.held = true) : takeCommand f answer s = .next s := whenLive_held _ _ h

/-- A frame that is received changes no block but the port and the counter. -/
theorem receiveFrame_eq (f : CommandFrame) (s : State) : receiveFrame f s =
    if s.supervisory.queue.length < 4 then
      { s with supervisory := { s.supervisory with queue := s.supervisory.queue ++ [f] } }
    else { s with
      counter := countedOnce .framesDiscarded s
      supervisory := { s.supervisory with overflows := min 65535 (s.supervisory.overflows + 1) } } := by
  unfold receiveFrame
  split
  · rw [if_pos ‹_›]
  · rw [if_neg ‹_›, count_eq]; rfl

/-- Whatever row a command comes by, its answer is the one of its kind. -/
theorem exec_commandOf (kind tag : Byte) (payload : List Byte) (s : State) :
    exec (commandOf kind tag payload) s =
      takeCommand { kind, tag, payload } (answerOf { kind, tag, payload }) s := by
  obtain ⟨n, h⟩ : ∃ n, kind.toNat = n := ⟨_, rfl⟩
  have lt : n < 256 := h ▸ kind.isLt
  obtain rfl : kind = BitVec.ofNat 8 n := by rw [← h]; simp
  clear h
  interval_cases n <;> rfl

/-- A frame that arrives at the empty queue of a free port is taken (R158). -/
theorem arrive_taken (f : CommandFrame) (s : State) (free : portFree s = true)
    (empty : s.supervisory.queue = []) : arrive f s = answerCommand f (answerOf f) s := by
  unfold arrive; rw [if_pos ⟨free, empty⟩]

/-- Any other frame joins the queue or is discarded there (R157). -/
theorem arrive_joins (f : CommandFrame) (s : State)
    (later : portFree s = false ∨ s.supervisory.queue ≠ []) : arrive f s = receiveFrame f s := by
  unfold arrive; rw [if_neg]
  rintro ⟨free, empty⟩
  rcases later with busy | busy
  · simp [busy] at free
  · exact busy empty

@[simp] theorem takeHead_empty (s : State) (h : s.supervisory.queue = []) : takeHead s = s := by
  unfold takeHead; rw [h]

theorem takeHead_taken (f : CommandFrame) (rest : List CommandFrame) (s : State)
    (h : s.supervisory.queue = f :: rest) (free : portFree s = true) :
    takeHead s = answerCommand f (answerOf f) s := by
  unfold takeHead; rw [h]; exact if_pos free

theorem takeHead_busy (s : State) (busy : portFree s = false) : takeHead s = s := by
  unfold takeHead
  split
  · rfl
  · rw [if_neg (by simp [busy])]

@[simp] theorem replyBeingSent_eq (s : State) :
    (replyBeingSent s = true) = (s.supervisory.resetWait = .replySending) := by simp [replyBeingSent]

/-! ### Answers -/

@[simp] theorem refuse_effect (code : ResultCode) : (refuse code).effect = id := rfl
@[simp] theorem refuse_code (code : ResultCode) : (refuse code).code = code := rfl
@[simp] theorem refuse_detail (code : ResultCode) : (refuse code).detail = .absent := rfl
@[simp] theorem refuse_data (code : ResultCode) : (refuse code).data = [] := rfl
@[simp] theorem accept_effect (f : State → State) : (accept f).effect = f := rfl
@[simp] theorem accept_code (f : State → State) : (accept f).code = .ok := rfl
@[simp] theorem accept_detail (f : State → State) : (accept f).detail = .absent := rfl
@[simp] theorem accept_data (f : State → State) : (accept f).data = [] := rfl

theorem takeCommand_refused (kind tag : Byte) (payload : List Byte) (answer : State → Answer)
    (code : ResultCode) (s : State) (h : Taken kind tag payload s)
    (a : answer (leaveQueue s) = refuse code) :
    takeCommand { kind, tag, payload } answer s = .next (refused kind tag code s) := by
  rw [takeCommand_taken _ _ _ _ _ h, a]; rfl

theorem takeCommand_accepted (kind tag : Byte) (payload : List Byte) (answer : State → Answer)
    (f : State → State) (s : State) (h : Taken kind tag payload s)
    (a : answer (leaveQueue s) = accept f) :
    takeCommand { kind, tag, payload } answer s = .next (f (repliedOk kind tag s)) := by
  rw [takeCommand_taken _ _ _ _ _ h, a]; rfl

theorem asOrder_run (s : State) (a : Answer) (h : s.partState = .run) : asOrder s a = a := by
  simp [asOrder, h]

theorem asOrder_adopt (s : State) (a : Answer) (h : s.partState = .adopt) :
    asOrder s a = refuse .adopting := by simp [asOrder, h]

theorem asOrder_unconfigured (s : State) (a : Answer) (h : s.partState = .unconfigured) :
    asOrder s a = refuse .unconfigured := by simp [asOrder, h]

theorem asConfiguration_adopt (s : State) (a : Answer) (h : s.partState = .adopt) :
    asConfiguration s a = refuse .adopting := by simp [asConfiguration, h]

theorem asConfiguration_open (s : State) (a : Answer) (h : Configurable s) : asConfiguration s a = a := by
  rcases h with h | h <;> simp [asConfiguration, h]

/-! ### Indexes and numbers -/

theorem byteOf_toNat (n : Nat) (h : n ≤ 255) : (byteOf n).toNat = n := by
  simp [byteOf]; omega

@[simp] theorem readSlot_byteOf (k : Slot) : readSlot (byteOf k.val) = some k := by
  have : (byteOf k.val).toNat = k.val := byteOf_toNat _ (by omega)
  unfold readSlot; simp [this]

@[simp] theorem readChan_byteOf (c : Chan) : readChan (byteOf c.val) = some c := by
  have : (byteOf c.val).toNat = c.val := byteOf_toNat _ (by omega)
  unfold readChan; simp [this]

@[simp] theorem readPlanNo_byteOf (p : PlanNo) : readPlanNo (byteOf p.val) = some p := by
  have : (byteOf p.val).toNat = p.val := byteOf_toNat _ (by omega)
  unfold readPlanNo; simp [this]

theorem readSlot_above (b : Byte) (h : 7 < b.toNat) : readSlot b = none := by
  unfold readSlot; rw [dif_neg (by omega)]

theorem readChan_above (b : Byte) (h : 47 < b.toNat) : readChan b = none := by
  unfold readChan; rw [dif_neg (by omega)]

theorem readPlanNo_above (b : Byte) (h : 7 < b.toNat) : readPlanNo b = none := by
  unfold readPlanNo; rw [dif_neg (by omega)]

/-- A number of two bytes reads back. -/
theorem word_wordBytes (n : Nat) (h : n ≤ 65535) : word (byteOf (n / 256)) (byteOf n) = n := by
  simp [word, byteOf]; omega

theorem word_le (hi lo : Byte) : word hi lo ≤ 65535 := by
  have := hi.isLt; have := lo.isLt; simp only [word]; omega

/-! ### A computer's change of state (R78) -/

theorem linkEnters_contexts (k : Slot) (old new : ComputerState) (s : State) :
    (linkEnters k old new s).contexts = s.contexts := by
  unfold linkEnters; split
  · split <;> rfl
  · rfl

theorem forget_contexts (k : Slot) (new : ComputerState) (s : State) :
    (forget k new s).contexts = s.contexts := by
  unfold forget; split <;> simp [clearExpectation, clearDemands]

theorem changeState_contexts (k : Slot) (new : ComputerState) (phase : Option JoinPhase)
    (f : Context → Context) (s : State) :
    (changeState k new phase f s).contexts =
      s.contexts.set k (f (contextEnters new phase s.contexts[k])) := by
  unfold changeState
  rw [linkEnters_contexts, forget_contexts, updContext_contexts]

theorem linkEnters_window (k : Slot) (old new : ComputerState) (s : State) :
    (linkEnters k old new s).window = s.window ∧ (linkEnters k old new s).executor = s.executor ∧
    (linkEnters k old new s).channels = s.channels ∧ (linkEnters k old new s).events = s.events := by
  unfold linkEnters; split
  · split <;> exact ⟨rfl, rfl, rfl, rfl⟩
  · exact ⟨rfl, rfl, rfl, rfl⟩

theorem forget_window (k : Slot) (new : ComputerState) (s : State) :
    (forget k new s).window = s.window ∧ (forget k new s).executor = s.executor ∧
    (forget k new s).events = s.events ∧ (forget k new s).admission = s.admission := by
  unfold forget; split <;> simp [clearExpectation, clearDemands]

/-- A change of a computer's state reaches neither the window unit nor the executor nor the events. -/
theorem changeState_others (k : Slot) (new : ComputerState) (phase : Option JoinPhase)
    (f : Context → Context) (s : State) :
    (changeState k new phase f s).window = s.window ∧
    (changeState k new phase f s).executor = s.executor ∧
    (changeState k new phase f s).events = s.events := by
  unfold changeState
  dsimp only
  obtain ⟨w, e, -, v⟩ := linkEnters_window k s.contexts[k].state new
    (forget k new (updContext k (fun x => f (contextEnters new phase x)) s))
  obtain ⟨w', e', v', -⟩ := forget_window k new (updContext k (fun x => f (contextEnters new phase x)) s)
  exact ⟨w.trans w', e.trans e', v.trans v'⟩

theorem enterSettle_contexts (k : Slot) (s : State) :
    (enterSettle k s).contexts = s.contexts.set k { contextEnters .settle none s.contexts[k] with
      settleTimer := some (s.now + settleSeconds s.cfg.computers[k].settleCode * 1000) } := by
  unfold enterSettle
  rw [(deriveOwned_plant k _).contexts, changeState_contexts]
  rfl

theorem enterLost_contexts (k : Slot) (s : State) :
    (enterLost k s).contexts = s.contexts.set k (contextEnters .lost none s.contexts[k]) := by
  unfold enterLost
  rw [(deriveOwned_plant k _).contexts, changeState_contexts]
  rfl

theorem enterTrack_contexts (k : Slot) (cause : TrackCause) (zero : Bool) (s : State) :
    (enterTrack k cause zero s).contexts = s.contexts.set k { contextEnters .track none s.contexts[k] with
      trackCause := some cause
      activeStyle := s.cfg.computers[k].style
      trackTimer := if s.cfg.computers[k].trackTimeout = 0 then none
        else some (s.now + s.cfg.computers[k].trackTimeout * 1000) } := by
  unfold enterTrack
  dsimp only
  rw [(deriveOwned_plant k _).contexts]
  split
  · simp only [clearMatches, mapChannels_contexts, changeState_contexts]; rfl
  · rw [changeState_contexts]; rfl

/-- An order of a slot leaves every other port (R71). -/
theorem sendOrder_other (k j : Slot) (o : Order) (s : State) (h : j ≠ k) :
    (sendOrder k o s).ports[j] = s.ports[j] := updPort_other k j _ s h

/-- An order that is no IMAGE joins the back of a send list that has room (R71). -/
theorem sendOrder_room (k : Slot) (o : Order) (s : State) (h : isImage o = false)
    (room : s.ports[k].sendList.length < 8) :
    (sendOrder k o s).ports[k] = { s.ports[k] with sendList := s.ports[k].sendList ++ [o] } := by
  simp only [sendOrder, updPort_same, h, Bool.false_and, Bool.false_eq_true, if_false]
  exact if_pos room

/-! ### Restart requests (R110 to R112) -/

theorem requestRow_inProgress (k : Slot) (s : State) (h : s.contexts[k].inProgress = true) :
    requestRow s k = .inProgress := by
  unfold requestRow; rw [if_pos h]

theorem requestRow_waiting (k : Slot) (s : State) (h : s.contexts[k].inProgress = false)
    (w : isWaiting s k = true) : requestRow s k = .waiting := by
  unfold requestRow; rw [if_neg (by rw [h]; decide), if_pos w]

theorem requestRow_vacant (k : Slot) (s : State) (h : s.contexts[k].inProgress = false)
    (w : isWaiting s k = false) (v : s.contexts[k].state = .vacant) : requestRow s k = .vacant := by
  unfold requestRow; rw [if_neg (by rw [h]; decide), if_neg (by rw [w]; decide), if_pos v]

/-- No order is issued for a slot whose flag is set (R111). -/
theorem issueOrder_flagged (k : Slot) (s : State) (h : s.contexts[k].inProgress = true) :
    issueOrder k s = s := by
  unfold issueOrder
  rw [if_neg]
  unfold canIssue
  rw [h]; simp

/-! ### The queue and the step -/

theorem step_front (i : Instr) (rest : List Instr) (s : State) :
    step { s with pending := i :: rest } = exec i { s with pending := rest } := rfl

theorem step_idle (s : State) (h : s.pending = []) : step s = idle s := by
  simp [step, h]

/-- With nothing waiting and no character to come the part acts of its own accord. -/
theorem step_own (s : State) (h : s.pending = []) (quiet : s.arriving = []) : step s = ownAct s := by
  rw [step_idle s h, idle, quiet]

/-! ### Reception (R62, R63, R157, R186) -/

/-- The next arrival is taken where nothing waits. -/
theorem step_arrival (a : Arrival) (rest : List Arrival) (s : State) (h : s.pending = [])
    (first : s.arriving = a :: rest) : step s = takeArrival a { s with arriving := rest } := by
  rw [step_idle s h, idle, first]

/-- Where the part does not listen a character changes nothing. -/
theorem takeArrival_deaf (i : Input) (c : LineByte) (s : State) (deaf : listensAt s i = false) :
    takeArrival (.char i c) s = .next s := by
  simp [takeArrival, takeIn, hearAt, deaf]

/-- A character that brings no row changes the reception only. -/
theorem takeArrival_quiet (i : Input) (c : LineByte) (r : Reception) (s : State)
    (live : listensAt s i = true) (heard : hearChar i c (receptionAt s i) = (r, none)) :
    takeArrival (.char i c) s = .next (setReception i r s) := by
  simp [takeArrival, takeIn, hearAt, live, heard]

/-- A character that brings a row has it run, on the reception that it leaves. -/
theorem takeArrival_row (i : Input) (c : LineByte) (r : Reception) (row : Instr) (s : State)
    (live : listensAt s i = true) (heard : hearChar i c (receptionAt s i) = (r, some row)) :
    takeArrival (.char i c) s = exec row (setReception i r s) := by
  simp [takeArrival, takeIn, hearAt, live, heard]

/-- A byte with a framing error takes time only (R187). -/
theorem hearChar_lost (i : Input) (gap : Nat) (r : Reception) :
    hearChar i { gap, byte := none } r = ({ r with lost := r.lost + gap }, none) := rfl

/-- A byte that ends nothing joins what has been heard from the start byte on. -/
theorem hearChar_joins (i : Input) (gap : Nat) (b : Byte) (r : Reception)
    (h : nextRow i (fromStart i (r.heard ++ [(r.lost + gap, b)])) = none) :
    hearChar i { gap, byte := some b } r =
      ({ heard := fromStart i (r.heard ++ [(r.lost + gap, b)]), lost := 0 }, none) := by
  simp [hearChar, h]

/-- A byte that ends a frame or record brings its row; what is left is heard from the next start byte on. -/
theorem hearChar_ends (i : Input) (gap : Nat) (b : Byte) (r : Reception) (row : Instr)
    (rest : List HeardByte)
    (h : nextRow i (fromStart i (r.heard ++ [(r.lost + gap, b)])) = some (row, rest)) :
    hearChar i { gap, byte := some b } r = ({ heard := fromStart i rest, lost := 0 }, some row) := by
  simp [hearChar, h]

/-- Bytes that begin with the start byte are kept whole. -/
theorem fromStart_start (i : Input) (g : Nat) (bytes : List HeardByte) :
    fromStart i ((g, startByte i) :: bytes) = (g, startByte i) :: bytes := by
  simp [fromStart]

/-! ### The discrete inputs (R187) -/

/-- A level that finds no filter run out is taken. -/
theorem takeArrival_level (pin : Pin) (high : Bool) (s t : State) (h : pinEvent s = none)
    (set : setLevel pin high s = (t, none)) : takeArrival (.level pin high) s = .next t := by
  simp only [takeArrival, takeIn, h, set]

/-- A level that releases the reset line has that row run. -/
theorem takeArrival_releases (pin : Pin) (high : Bool) (i : Instr) (s t : State) (h : pinEvent s = none)
    (set : setLevel pin high s = (t, some i)) : takeArrival (.level pin high) s = exec i t := by
  simp only [takeArrival, takeIn, h, set]

/-- A level that finds a filter run out waits behind the event that the filter brings. -/
theorem takeArrival_filtered (pin : Pin) (high : Bool) (i : Instr) (s t : State)
    (h : pinEvent s = some (i, t)) :
    takeArrival (.level pin high) s = exec i (putBack (.level pin high) t) := by
  simp only [takeArrival, takeIn, h]

/-- A quiet time passes by the millisecond where the part comes to nothing of its own accord. -/
theorem takeArrival_passes (n : Nat) (s : State) (h : ownEvent s = none) :
    takeArrival (.quiet n) s = .next (quietPasses n s) := by
  simp only [takeArrival, takeIn, h]

/-- No filter has run out. -/
theorem pinEvent_none (s : State) (r : isDue s.now s.pins.reset.filter = false)
    (t : isDue s.now s.pins.trigger.filter = false) : pinEvent s = none := by
  simp [pinEvent, r, t]

/-- A level that does not change starts and ends no filter. -/
theorem triggerAt_same (now : Nat) (p : TriggerInput) : triggerAt p.high now p = p := if_pos rfl

theorem resetAt_same (now : Nat) (p : ResetInput) : resetAt p.high now p = p := if_pos rfl

/-- A rise after 10 ms at low begins the filter, a sooner one does not. -/
theorem triggerAt_rise (now : Nat) (p : TriggerInput) (low : p.high = false) :
    triggerAt true now p =
      { high := true, since := now
        filter := if p.since + 10 ≤ now then some (now + 10) else none } := by
  simp [triggerAt, low, Config.filterTime]

theorem triggerAt_fall (now : Nat) (p : TriggerInput) (high : p.high = true) :
    triggerAt false now p = { high := false, since := now, filter := none } := by
  simp [triggerAt, high]

theorem resetAt_rise (now : Nat) (p : ResetInput) (low : p.high = false) :
    resetAt true now p = { high := true, filter := some (now + 10) } := by
  simp [resetAt, low, Config.filterTime]

theorem resetAt_fall (now : Nat) (p : ResetInput) (high : p.high = true) :
    resetAt false now p = { high := false, filter := none } := by
  simp [resetAt, high]

end Sys2Proof.Laws
end

