-- ==== Sys2Proof/Tests/Slice0.lean ====
section
/-! SUPPORT. Tests on small states: what `wellFormed` refuses, the CRC and the record shells, single steps
of the manual's worked examples, and for each statement with hypotheses a state and operands that meet
them. Expected values are the manual's own. -/

namespace Sys2Proof.Tests

open Sys2Proof.Machine Sys2Proof.Safety

/-! ### WellFormed -/

/-- A payload one byte longer than a frame can carry. -/
def tooLong : List Byte := List.replicate 251 0

/-- Each command whose payload is too long is refused. -/
theorem test_wellFormed_payloads :
    ([.setComputer 0 tooLong, .setChannel 0 tooLong, .setBudget 0 tooLong, .setWindow 0 tooLong,
      .setDaylight 0 tooLong, .setPlan 0 tooLong, .setEventMask 0 tooLong, .setCounterSource 0 tooLong,
      .storeConfig 0 tooLong, .commission 0 tooLong, .restart 0 tooLong, .cancelRestart 0 tooLong,
      .pause 0 tooLong, .resume 0 tooLong, .force 0 tooLong, .unforce 0 tooLong, .clearFault 0 tooLong,
      .planStart 0 tooLong, .planStop 0 tooLong, .luminance 0 tooLong, .feed 0 tooLong,
      .resetPart 0 tooLong, .getComputer 0 tooLong, .getChannel 0 tooLong, .getBudget 0 tooLong,
      .getWaitList 0 tooLong, .getPlanStatus 0 tooLong, .getDaylight 0 tooLong, .readEvents 0 tooLong,
      .readCounter 0 tooLong, .identify 0 tooLong, .unknownCommand 0x2F 0 tooLong,
      .supervisoryFrameReceived 0x2F 0 tooLong] : List Instr).all (!wellFormed ·) = true := by
  decide +kernel

/-- A kind of the table is no unknown command. -/
theorem test_wellFormed_unknown_kind :
    wellFormed (.unknownCommand 0x2F 0 []) = true ∧ wellFormed (.unknownCommand 0x30 0 []) = false := by
  decide

/-- Each range of a DEMAND. -/
theorem test_wellFormed_demand :
    wellFormed (.demand 7 255 .good [(255, 65535)]) = true ∧
    ([.demand 0 256 .good [(0, 0)], .demand 0 0 .good [], .demand 0 0 .good (List.replicate 17 (0, 0)),
      .demand 0 0 .good [(256, 0)], .demand 0 0 .good [(0, 65536)]] : List Instr).all
      (!wellFormed ·) = true := by decide

/-- Each range of the other computer messages and of a STATE record. -/
theorem test_wellFormed_messages :
    ([.hello 0 256, .imageOk 0 256 0, .imageOk 0 0 65536, .imageReject 0 256 0 0,
      .imageReject 0 0 65536 0, .imageReject 0 0 0 256, .stateRecord 256 0 .running,
      .stateRecord 0 65536 .running] : List Instr).all (!wellFormed ·) = true := by decide

/-! ### Bytes -/

/-- The CRC of R183 over the ASCII digits 1 to 9 (the check value of this CRC, known from outside the
manual). -/
theorem test_crc_check_value :
    crc16 [0x31, 0x32, 0x33, 0x34, 0x35, 0x36, 0x37, 0x38, 0x39] = 0x29B1 := by decide +kernel

/-- These bytes, each in time. -/
def prompt (bytes : List Byte) : List HeardByte := bytes.map fun b => (90, b)

/-- A record whose CRC holds is a STATE record; with one bit of its value flipped it is discarded. -/
theorem test_record_checks :
    nextField (prompt (recordBytes 12 0x04 400 1)) = some (.stateRecord 12 400 .running, []) ∧
    nextField (prompt ((recordBytes 12 0x04 400 1).set 4 0x91)) = some (.fieldRecordDiscard, []) := by
  decide +kernel

/-- A gap of 20 ms cuts no record, one of more does, and the port skips on from there (R186). -/
theorem test_gap_cuts :
    nextField ((prompt (recordBytes 12 0x04 400 1)).set 3 (20000, 0x01)) =
      some (.stateRecord 12 400 .running, []) ∧
    nextField (prompt [0x5A, 12, 0x04] ++ [(20001, 0x01)]) = some (.fieldGap, [(20001, 0x01)]) := by
  decide +kernel

/-- A byte with a framing error is not heard, and its time counts toward the gap (R187). -/
theorem test_framing_error :
    hear [⟨0, some 0x5A⟩, ⟨15000, none⟩, ⟨6000, some 12⟩] = [(0, 0x5A), (21000, 12)] := by decide

/-- No word of the table spells a command. -/
theorem test_no_word_spells_a_command (nbits w : Nat) :
    decodeTableWord nbits w = none ∧ State.reset.withFetchWord nbits w = State.reset := ⟨rfl, rfl⟩

/-! ### A part in RUN -/

/-- Slots 0, 1, 2 and 7 are enabled; channels 20 and 21 are those of example 2.C, channel 30 and the
daylight table those of example 3.A, with slot 7 as its owner. -/
def runConfig : WorkingConfig :=
  { factoryConfig with
    computers := (((factoryConfig.computers.set 0 { factoryComputer with enabled := true }).set 1
      { factoryComputer with enabled := true, breakPolicy := .ignore }).set 2
      { factoryComputer with enabled := true, pausePolicy := .clear }).set 7
      { factoryComputer with
        enabled := true, role := .light, bore := .two, trackTimeout := 600, settleCode := 7 }
    channels := (((((factoryConfig.channels.set 0
      { factoryChannel with owner := some 0, slewRate := 400, weight := 5, startCost := 1500 }).set 20
      { factoryChannel with bore := .two, slewRate := 500, weight := 3, fallbackKind := .fixed }).set 21
      { factoryChannel with
        bore := .two, slewRate := 500, weight := 3, startCost := 1000, fallbackKind := .fixed }).set 30
      { factoryChannel with
        kind := .light, bore := .two, owner := some 7, slewRate := 500, fallbackKind := .daylight
        zoneFactor := 800 }).set 46
      { factoryChannel with kind := .light, fallbackKind := .fixed, fallbackValue := 250 }).set 47
      { factoryChannel with kind := .light, bore := .two, owner := some 7 }
    budget := { bothCap := 4000, singleCap := 900, refill := 300 }
    limit2 := 4
    daylight :=
      { stages := [⟨0, 100⟩, ⟨400, 250⟩, ⟨1200, 450⟩, ⟨3000, 700⟩, ⟨6000, 1000⟩], hysteresis := 200 }
    plans := ((factoryConfig.plans.set 0
      { factoryPlan with steps := [{ kind := .wait, operand := 5, timeout := 0 }] }).set 1
      { factoryPlan with
        steps := [{ kind := .wait, operand := 5, timeout := 0 }, { kind := .mark, operand := 9, timeout := 0 }]
        startMode := .onTrigger }).set 2
      { factoryPlan with
        steps := [{ kind := .restart, operand := 7, timeout := 3600 }]
        startMode := .onTrigger, overrun := .stretch } }

/-- A channel that is adopted at a value and stands at its target. -/
def resting (d : Nat) (mode : ChannelMode) : ChannelRun :=
  { resetChannel with driven := some d, adopted := true, mode, target := some d }

/-- Slot 0 is in CONTROL, slot 1 in TRACK, slot 2 in SETTLE with its restart in progress, slot 7 in LOST;
channels 46 and 47 are unadopted. -/
def run : State :=
  { State.reset with
    now := 1000
    partState := .run
    commissioned := true
    cfg := runConfig
    channels := (((State.reset.channels.set 0
      { resting 400 .follow with demand := some 400 }).set 20
      { resting 200 .forced with forced := some 600, target := some 600 }).set 21
      (resting 0 .fallback)).set 30 (resting 560 .fallback)
    stepTimer := some 1100
    admission := { credit := 3000, feed := .both, refillTimer := some 1050, queue := [] }
    daylight :=
      { stage := 3, luminance := some 3100, readAt := some 500, ageTimer := some 60500, stale := false }
    ports := ((State.reset.ports.set 0 { resetPort with reportTimer := some 2000 }).set 1
      { resetPort with reportTimer := some 2000 }).set 2 { resetPort with sendSequence := 255 }
    contexts := (((State.reset.contexts.set 0
      { resetContext factoryComputer with state := .control, trackCause := some .start }).set 1
      { resetContext factoryComputer with state := .track, trackCause := some .rejoin }).set 2
      { resetContext factoryComputer with
        state := .settle, inProgress := true, failures := 5, settleTimer := some 5000 }).set 7
      { resetContext factoryComputer with state := .lost }
    window := { count1 := 1, count2 := 0, waitList := [] } }

/-- The part before COMMISSION, with the same configuration. -/
def stopped : State := { State.reset with cfg := runConfig }

/-- The part in ADOPT, its adoption timer and its answer period running. -/
def adopting : State :=
  { run with
    partState := .adopt, adoptionTimer := some 3000, stepTimer := none
    field := { resetField with period := some 1500 } }

/-- Slot 7 in JOIN phase IMAGE of generation 65535, its restart in progress, five failures behind it. -/
def joining : State :=
  updContext 7 (fun x => { x with
    state := .join, phase := some .image, generation := 65535, inProgress := true, failures := 5
    imageTimer := some 3000 }) run

/-- The entry of a recovery request for slot 1. -/
def waitingEntry : WaitEntry := { slot := 1, source := .recovery, plan := none, mark := true, since := 900 }

/-- Slot 1 waits for a restart in the full window of bore 1. -/
def waiting : State := { run with window := { run.window with waitList := [waitingEntry] } }

/-- Fifteen frames stand in the outgoing list and this command at the head of the queue. -/
def crowded (f : CommandFrame) : State :=
  { run with supervisory := { resetSupervisory with
      queue := [f, { kind := 0x58, tag := 9, payload := [] }]
      outgoing := .eventNotice [] :: List.replicate 14 (.reply 0x58 0 .ok .absent []) } }

/-- The executor at a step of a plan. -/
def executing (p : PlanNo) (i : Nat) : State :=
  { run with executor := { resetExecutor with
      state := .running, plan := some p, step := some i, stepTimer := some 6000, passTimer := some 7000 } }

/-- Channel 20 waits for 50 pm in the admission queue. -/
def entry20 : AdmissionEntry :=
  { channel := 20, wanted := 50, joined := 1000, reported := false, starvation := some 11000 }

/-- A part with something in every list. -/
def busy : State :=
  { waiting with
    pending := [.stepTimer]
    admission := { waiting.admission with queue := [entry20] }
    store := { neverWritten with writing := some { config := runConfig, commissioned := true } }
    supervisory := { resetSupervisory with
      queue := [{ kind := 0x30, tag := 1, payload := [7] }, { kind := 0x58, tag := 9, payload := [] }]
      outgoing := .eventNotice [] :: List.replicate 15 (.reply 0x58 0 .ok .absent []) }
    executor := (executing 0 0).executor }

/-- The executor at a step of plan 3, which is this record, or between its passes. -/
def planning (r : PlanRecord) (st : ExecutorState) (i : Nat) : State :=
  { run with
    cfg := { runConfig with plans := runConfig.plans.set 3 r }
    executor := { resetExecutor with
      state := st, plan := some 3, step := some i, stepTimer := some 6000, passTimer := some 7000 } }

/-- A step of a plan. -/
def stepOf (kind : StepKind) (operand : Nat) : PlanStep := { kind, operand, timeout := 10 }

/-- The executor at step 0 of plan 3, which is this record. -/
def atStep (r : PlanRecord) (s : State) : State :=
  { s with
    cfg := { s.cfg with plans := s.cfg.plans.set 3 r }
    executor := { resetExecutor with state := .running, plan := some 3, step := some 0 } }

/-- A plan of this step and a WAIT, its failures skipped. -/
def planOf (st : PlanStep) : PlanRecord := { factoryPlan with steps := [st, stepOf .wait 7], onFail := .skip }

/-- The discrete inputs stand so, and these arrivals come next. -/
def pinned (trigger : TriggerInput) (reset : ResetInput) (arriving : List Arrival) : State :=
  { run with pins := { trigger, reset }, arriving }

/-- What `FiltersOpen` asks, as a test. -/
theorem filtersOpen (s : State) (t : s.pins.trigger.filter.all (s.now < ·) = true)
    (r : s.pins.reset.filter.all (s.now < ·) = true) : FiltersOpen s := by
  rintro d (h | h) <;> simp_all

/-- These bytes are in progress at an input and this character comes next. -/
def hearing (i : Input) (bytes : List Byte) (c : LineByte) (s : State) : State :=
  { setReception i { heard := prompt bytes, lost := 0 } s with arriving := [.char i c] }

/-- The state after a row that answers next. -/
def after (i : Instr) (s : State) : State :=
  match exec i s with
  | .next t => t
  | _ => s

/-! ### Worked examples -/

/-- Example 2.C, step expiry: channel 20 is granted 50, charge 150. -/
theorem test_example_2C_step :
    (after .stepTimer run).admission.credit = 2850 ∧
    (after .stepTimer run).channels[(20 : Fin 48)].driven = some 250 ∧
    (after .stepTimer run).admission.queue = [] := by decide +kernel

/-- Example 2.C, refill after FEED BOTH: head 21 starts for 1150, head 20 has a partial grant of 16. -/
theorem test_example_2C_refill :
    let s := { run with
      channels := (run.channels.set 20 { resting 300 .forced with target := some 600 }).set 21
        { resting 0 .forced with target := some 400 }
      admission := { run.admission with
        credit := 900
        queue := [{ entry20 with channel := 21, reported := true }, { entry20 with reported := true }] } }
    (after .refillTimer s).admission.credit = 2 ∧
    (after .refillTimer s).admission.queue.map (fun e => (e.channel, e.wanted, e.reported)) =
      [(20, 34, false)] ∧
    (after .refillTimer s).channels[(20 : Fin 48)].driven = some 316 ∧
    (after .refillTimer s).channels[(21 : Fin 48)].driven = some 50 ∧
    (after .refillTimer s).channels[(21 : Fin 48)].startConfirm = some 6050 := by decide +kernel

/-- Example 3.A: LUMINANCE 2850 holds stage 3 within the hysteresis, 2700 takes it to 2 and channel 30's
target to 360. -/
theorem test_example_3A_luminance :
    (after (.luminance 1 (b2 2850)) run).daylight.stage = 3 ∧
    (after (.luminance 1 (b2 2700)) run).daylight.stage = 2 ∧
    (after (.luminance 1 (b2 2700)) run).channels[(30 : Fin 48)].target = some 360 := by decide +kernel

/-- Example 3.B: the new table keeps stage 1 for the stored reading 200 and raises channel 30's target to
400. -/
theorem test_example_3B_set_daylight :
    let s := { run with
      channels := run.channels.set 30 (resting 200 .fallback)
      daylight := { run.daylight with stage := 1, luminance := some 200 } }
    let t := after (.setDaylight 1 (daylightPayload
      { stages := [⟨0, 200⟩, ⟨300, 500⟩, ⟨2000, 900⟩], hysteresis := 150 })) s
    t.daylight.stage = 1 ∧ t.channels[(30 : Fin 48)].target = some 400 := by decide +kernel

/-- Section 12.1, start of the plan: REVOKE (ORDER) then RESTART are sent and the demand is forgotten. -/
theorem test_restart_from_control :
    let s := { run with cfg := { run.cfg with limit1 := 2 } }
    (after (.restart 1 [0]) s).ports[(0 : Fin 8)].sendList = [.revoke .order, .restart 2] ∧
    (after (.restart 1 [0]) s).contexts[(0 : Fin 8)].state = .settle ∧
    (after (.restart 1 [0]) s).channels[(0 : Fin 48)].demand = none ∧
    (after (.restart 1 [0]) s).channels[(0 : Fin 48)].mode = .hold := by decide +kernel

/-- R97: the seventh failure takes a slot to FAULT, frees its bore's window and latches COMPUTER_FAULT. -/
theorem test_seventh_failure :
    let s := updContext 2 (fun x => { x with
      state := .join, phase := some .hello, failures := 6, settleTimer := none
      helloTimer := some 5000 }) run
    (after (.helloTimer 2) s).contexts[(2 : Fin 8)].state = .fault ∧
    (after (.helloTimer 2) s).contexts[(2 : Fin 8)].failures = 7 ∧
    (after (.helloTimer 2) s).window.count1 = 0 ∧
    (after (.helloTimer 2) s).events[(3 : Fin 16)].latched = true := by decide +kernel

/-- A step takes the front of the queue; IDENTIFY's data are laid out as spec/11 gives (R171). -/
theorem test_step_takes_the_front :
    ∃ t, step { run with pending := [.identify 1 []] } = .next t ∧ t.pending = [] ∧
      repliesOf t.supervisory.outgoing = [.reply 0x58 1 .ok .absent
        [240, 3, 2, 1, 0, 0, 0, 0, 0, 0, 0, 0, 0, 0, 0, 0, 0]] := ⟨_, rfl, by decide +kernel⟩

/-- Five frames that arrive at a free port are five commands taken, with five replies (R158). -/
theorem test_arrivals_are_taken :
    let frame : Instr := .supervisoryFrameReceived 0x58 1 []
    let t := after frame (after frame (after frame (after frame (after frame run))));
    t.supervisory.queue = [] ∧ t.supervisory.overflows = 0 ∧ t.supervisory.outgoing.length = 5 := by
  decide +kernel

/-- A frame that leaves a list of 16 lets the waiting RESTART be taken, before any later command (R158). -/
theorem test_sending_lets_a_command_in :
    (after .supervisoryFrameSent busy).supervisory.queue.map (·.kind) = [0x58] ∧
    (after .supervisoryFrameSent busy).supervisory.outgoing.length = 16 ∧
    (after .supervisoryFrameSent busy).contexts[(7 : Fin 8)].state = .settle := by decide +kernel

/-- Slot 7 is about to hear the last byte of a HELLO. -/
def helloHeard (s : State) : State := hearing (.computer 7) (frameBytes 0x02 5 []).dropLast
  { gap := 90, byte := (frameBytes 0x02 5 []).getLast? } s

/-- The state after a step that answers next. -/
def stepped (s : State) : State :=
  match step s with
  | .next t => t
  | _ => s

/-- The last byte of a HELLO brings its row in RUN; in ADOPT the byte is skipped (R62, R63). -/
theorem test_hello_is_heard :
    (stepped (helloHeard run)).contexts[(7 : Fin 8)].state = .join ∧
    (stepped (helloHeard run)).inputs.computers[(7 : Fin 8)] = skipping ∧
    stepped (helloHeard adopting) = { helloHeard adopting with arriving := [] } := by decide +kernel

/-- A frame begun before entry to RUN is dropped, so that its last byte then brings nothing (R63). -/
theorem test_entry_to_run_drops_a_frame :
    let t := after .adoptionTimer (helloHeard adopting);
    t.partState = .run ∧ stepped t = { t with arriving := [] } := by decide +kernel

/-- R187: 10 ms at low and then 10 ms at high are an edge, a shorter time of either is not; a fall that comes
with the end of the filter finds the edge taken first. -/
theorem test_trigger_filter :
    triggerAt true 1010 { high := false, since := 1000, filter := none } =
      { high := true, since := 1010, filter := some 1020 } ∧
    triggerAt true 1009 { high := false, since := 1000, filter := none } =
      { high := true, since := 1009, filter := none } ∧
    triggerAt false 1019 { high := true, since := 1010, filter := some 1020 } =
      { high := false, since := 1019, filter := none } ∧
    (let s := pinned { high := true, since := 990, filter := some 1000 } { high := false, filter := none }
        [.level .planTrigger false];
      (stepped { s with cfg := { s.cfg with counterSource := .triggerIgnored } }).counter = 1 ∧
      (stepped s).arriving = [.level .planTrigger false]) := by decide +kernel

/-- R175, R187: the line is asserted once it has been high for 10 ms, and its fall releases the part. -/
theorem test_reset_filter :
    let high := pinned { high := false, since := 0, filter := none } { high := true, filter := some 1000 }
      [.level .resetLine false];
    (stepped high).held = true ∧ (stepped high).lastReset = .line ∧
    (stepped (stepped high)).held = false ∧ (stepped (stepped high)).arriving = [] := by decide +kernel

/-- R165, R166: the first report of an unmasked kind places a notice or brings the waiting one up to date, and a
masked or already latched kind places none. -/
theorem test_notice :
    let s := { run with cfg := { run.cfg with mask := Vector.replicate 16 false } }
    let notice : OutFrame := .eventNotice [(.daylightStale, none)]
    let latched : Latch := { latched := true, item := none }
    let noticed := { resetSupervisory with outgoing := [.eventNotice [], .planMark 0 1 0 7] }
    let masked := { s.cfg with mask := Vector.replicate 16 true };
    (after .ageTimer s).supervisory.outgoing = [notice] ∧
    (after .ageTimer { s with supervisory := noticed }).supervisory.outgoing =
      [notice, .planMark 0 1 0 7] ∧
    (after .ageTimer { s with cfg := masked }).supervisory.outgoing = [] ∧
    (after .ageTimer { s with events := s.events.set 12 latched }).supervisory.outgoing = [] := by
  decide +kernel

/-- The COMMAND reset waits for the frames before the RESET-PART reply and for its last byte (R163). -/
theorem test_command_reset_waits :
    let s := after (.resetPart 1 []) (after (.identify 1 []) run)
    (after .commandReset s).partState = .run ∧
    (after .commandReset (after .supervisoryFrameSent s)).partState = .run ∧
    (after .commandReset (after .supervisoryFrameSent (after .supervisoryFrameSent s))).partState =
      .adopt := by decide +kernel

/-! ### Witnesses

For each statement with hypotheses, a state and operands that meet them together, each clause on its
own where its clauses exclude each other. -/

/-- A row that answers next. -/
def completes (i : Instr) (s : State) : Prop := ∃ t, exec i s = .next t

theorem witness_StepRunsFront : busy.pending = .stepTimer :: [] := rfl

theorem witness_OnlyTheirRowsChange :
    (completes .planTriggerEdge run ∧ mayReset .planTriggerEdge = false ∧
      configures (rowMeant .planTriggerEdge) = false ∧ actsOnStore (rowMeant .planTriggerEdge) = false ∧
      movesPart (rowMeant .planTriggerEdge) = false ∧
      ∀ tag payload, rowMeant .planTriggerEdge ≠ .commission tag payload) ∧
    (let i : Instr := .supervisoryFrameReceived 0x39 1 [0, 0];
      completes i run ∧ mayReset i = false ∧ rowMeant i = .luminance 1 [0, 0]) ∧
    (completes .supervisoryFrameSent run ∧ run.supervisory.queue = [] ∧
      run.supervisory.resetWait ≠ .replySending) :=
  ⟨⟨⟨_, rfl⟩, rfl, rfl, rfl, rfl, nofun⟩, ⟨⟨_, rfl⟩, rfl, rfl⟩, ⟨_, rfl⟩, rfl, nofun⟩

theorem witness_BlocksKeepToTheirRows :
    (completes .stepTimer run ∧ rowOfPlant .stepTimer = true) ∧
    (completes (.settleTimer 2) run ∧ rowOfComputers (.settleTimer 2) = true) :=
  ⟨⟨⟨_, rfl⟩, rfl⟩, ⟨_, rfl⟩, rfl⟩

theorem witness_TakenCommandHasOneReply :
    Taken 0x30 1 [7] run ∧ Taken 0x30 1 [7] (crowded { kind := 0x30, tag := 1, payload := [7] }) := by
  decide

theorem witness_FrameLevelRefusals :
    (commandKinds.contains 0x2F = false ∧ Taken 0x2F 1 [] run) ∧
    (fixedLength 0x30 = some 1 ∧ ([] : List Byte).length ≠ 1 ∧ Taken 0x30 1 [] run) ∧
    (Taken 0x14 1 [] run ∧ ([] : List Byte).length ≠ 3 + 4 * (([] : List Byte).headD 0).toNat) ∧
    (Taken 0x14 1 [1, 0, 0] run ∧
      ([1, 0, 0] : List Byte).length ≠ 3 + 4 * (([1, 0, 0] : List Byte).headD 0).toNat) ∧
    (Taken 0x15 1 (List.replicate 7 0) run ∧ (List.replicate 7 (0 : Byte)).length < 8) ∧
    (Taken 0x15 1 [0, 0, 0, 0, 0, 0, 0, 1] run ∧
      ([0, 0, 0, 0, 0, 0, 0, 1] : List Byte).length ≠
        8 + 5 * ((([0, 0, 0, 0, 0, 0, 0, 1] : List Byte).drop 7).headD 0).toNat) := by decide

theorem witness_OrdersCheckIndexThenPartState :
    (topIndex 0x30 = some 7 ∧ fixedLength 0x30 = some ([8] : List Byte).length ∧
      7 < (([8] : List Byte).headD 0).toNat ∧ Taken 0x30 1 [8] stopped) ∧
    (topIndex 0x34 = some 47 ∧ fixedLength 0x34 = some ([48, 0, 0] : List Byte).length ∧
      47 < (([48, 0, 0] : List Byte).headD 0).toNat ∧ Taken 0x34 1 [48, 0, 0] adopting) ∧
    (plainOrders.contains 0x30 = true ∧ fixedLength 0x30 = some ([7] : List Byte).length ∧
      topIndex 0x30 = some 7 ∧ (([7] : List Byte).headD 0).toNat ≤ 7 ∧
      (Taken 0x30 1 [7] stopped ∧ stopped.partState = .unconfigured) ∧
      (Taken 0x30 1 [7] adopting ∧ adopting.partState = .adopt)) ∧
    (plainOrders.contains 0x39 = true ∧ fixedLength 0x39 = some ([255, 255] : List Byte).length ∧
      topIndex 0x39 = none ∧ Taken 0x39 1 [255, 255] adopting) := by decide

theorem witness_SettingsWaitForAdoption :
    adopting.partState = .adopt ∧
    (Taken 0x12 1 (List.replicate 6 0) adopting ∧ unindexedSettings.contains 0x12 = true ∧
      fixedLength 0x12 = some (List.replicate 6 (0 : Byte)).length) ∧
    (Taken 0x10 1 (7 :: List.replicate 12 0) adopting ∧ (7 :: List.replicate 12 (0 : Byte)).length = 13 ∧
      (7 : Byte).toNat ≤ 7) ∧
    (Taken 0x11 1 (47 :: List.replicate 14 0) adopting ∧ (47 :: List.replicate 14 (0 : Byte)).length = 15 ∧
      (47 : Byte).toNat ≤ 47) ∧
    (Taken 0x14 1 [0, 0, 0] adopting ∧ ([0, 0, 0] : List Byte).length = 3 + 4 * (0 : Byte).toNat) ∧
    (Taken 0x15 1 [7, 0, 0, 0, 0, 0, 0, 0] adopting ∧
      ([7, 0, 0, 0, 0, 0, 0, 0] : List Byte).length = 8 + 5 * (0 : Byte).toNat ∧ (7 : Byte).toNat ≤ 7) := by
  decide

/-- Slot 7 in PAUSED. -/
def pausedRun : State := updContext 7 (fun x => { x with state := .paused }) run

/-- A configuration for slot 7 that keeps enabled, role and bore. -/
def newComputer : ComputerConfig :=
  { enabled := true, role := .light, bore := .two, reportTimeout := 5000, settleCode := 7
    trackTimeout := 600, requiredMatches := 15, style := .meet, breakPolicy := .restart
    pausePolicy := .clear }

theorem witness_SetComputerTakesEffect :
    (computerRanges newComputer = true ∧ newComputer.enabled = run.cfg.computers[(7 : Fin 8)].enabled ∧
      newComputer.role = run.cfg.computers[(7 : Fin 8)].role ∧
      newComputer.bore = run.cfg.computers[(7 : Fin 8)].bore ∧ Configurable run ∧
      Taken 0x10 1 (computerPayload 7 newComputer) run) ∧
    (computerRanges { factoryComputer with enabled := true } = true ∧ factoryComputer.enabled = false ∧
      (run.cfg.computers[(3 : Fin 8)] = factoryComputer ∧ run.contexts[(3 : Fin 8)].state = .vacant ∧
        run.partState = .run ∧ Taken 0x10 1 (computerPayload 3 { factoryComputer with enabled := true }) run) ∧
      (stopped.cfg.computers[(3 : Fin 8)] = factoryComputer ∧ stopped.partState = .unconfigured ∧
        Taken 0x10 1 (computerPayload 3 { factoryComputer with enabled := true }) stopped)) ∧
    (∀ s ∈ [stopped, run, pausedRun, updContext 7 (fun x => { x with state := .fault }) run],
      s.cfg.computers[(7 : Fin 8)].enabled = true ∧
      computerRanges { s.cfg.computers[(7 : Fin 8)] with enabled := false } = true ∧
      (s.partState = .unconfigured ∨ (s.partState = .run ∧ (s.contexts[(7 : Fin 8)].state = .lost ∨
        s.contexts[(7 : Fin 8)].state = .paused ∨ s.contexts[(7 : Fin 8)].state = .fault))) ∧
      Taken 0x10 1 (computerPayload 7 { s.cfg.computers[(7 : Fin 8)] with enabled := false }) s) ∧
    (owns run 7 30 = true ∧ run.channels[(30 : Fin 48)].adopted = true ∧
      run.channels[(30 : Fin 48)].forced = none) ∧
    (∀ count2 ∈ ([0, 4] : List Nat),
      let s := updContext 1 (fun x => { x with state := .lost })
        { waiting with window := { waiting.window with count2 } };
      let new := { s.cfg.computers[(1 : Fin 8)] with bore := .two };
      computerRanges new = true ∧ .two ≠ s.cfg.computers[(1 : Fin 8)].bore ∧ s.partState = .run ∧
      s.contexts[(1 : Fin 8)].state = .lost ∧ s.contexts[(1 : Fin 8)].inProgress = false ∧
      isWaiting s 1 = true ∧ s.ports[(1 : Fin 8)].sendList.length < 8 ∧
      (∀ c : Chan, owns s 1 c = true →
        roleMatches new.role s.cfg.channels[c].kind = true ∧ s.cfg.channels[c].bore = .two) ∧
      Taken 0x10 1 (computerPayload 1 new) s ∧
      (if count2 = 4 then limitOf s .two ≤ countOf s .two
        else countOf s .two < limitOf s .two ∧ boreWaits s .two = false)) := by
  refine ⟨?_, ?_, ?_, ?_, ?_⟩ <;> decide +kernel

/-- The refusals of SET-COMPUTER: each field just out of its range, a slot under control, and an owned channel
of another kind or bore. -/
theorem witness_SetComputerTakesEffect_refusals :
    ((8 :: List.replicate 12 (0 : Byte)).length = 13 ∧ Taken 0x10 1 (8 :: List.replicate 12 0) adopting ∧
      7 < byteAt (8 :: List.replicate 12 0) 0) ∧
    (∀ field ∈ ([(1, 2), (2, 2), (3, 0), (3, 3), (4, 0), (4, 255), (5, 1), (6, 8), (8, 9), (7, 255), (9, 0),
        (9, 16), (10, 2), (11, 3), (12, 2)] : List (Nat × Byte)),
      let p := (computerPayload 7 { newComputer with trackTimeout := 10 }).set field.1 field.2;
      p.length = 13 ∧ Taken 0x10 1 p run ∧ Configurable run ∧ byteAt p 0 ≤ 7 ∧ computerRefused p) ∧
    (let new := { run.cfg.computers[(0 : Fin 8)] with enabled := false };
      computerRanges new = true ∧ run.partState = .run ∧ Taken 0x10 1 (computerPayload 0 new) run ∧
      leavesFallback run (some 0) = false ∧ new.enabled ≠ run.cfg.computers[(0 : Fin 8)].enabled) ∧
    (∀ new ∈ [{ run.cfg.computers[(7 : Fin 8)] with role := .vent },
        { run.cfg.computers[(7 : Fin 8)] with bore := .one }],
      computerRanges new = true ∧ run.partState = .run ∧ Taken 0x10 1 (computerPayload 7 new) run ∧
      leavesFallback run (some 7) = true ∧
      (new.role ≠ run.cfg.computers[(7 : Fin 8)].role ∨ new.bore ≠ run.cfg.computers[(7 : Fin 8)].bore) ∧
      owns run 7 30 = true ∧ (run.cfg.channels[(30 : Fin 48)].bore ≠ new.bore ∨
        run.cfg.channels[(30 : Fin 48)].kind ≠ (match new.role with | .vent => .fan | .light => .light))) := by
  unfold computerRefused
  refine ⟨?_, ?_, ?_, ?_⟩ <;> decide +kernel

/-- A record for channel 47 that keeps what a SET-CHANNEL in RUN would derive anew. -/
def newChannel : ChannelConfig :=
  { factoryChannel with kind := .light, bore := .two, owner := some 7, tolerance := 100, weight := 255 }

/-- A record for channel 30 with another zone factor. -/
def newFallback : ChannelConfig := { runConfig.channels[(30 : Fin 48)] with zoneFactor := 1000 }

/-- The role and the bore of a record agree with its owner's. -/
abbrev OwnerAgrees (new : ChannelConfig) : Prop := ∀ k : Slot, new.owner = some k →
  roleMatches run.cfg.computers[k].role new.kind = true ∧ run.cfg.computers[k].bore = new.bore

theorem witness_SetChannelReplaces :
    (channelRanges newChannel = true ∧ stopped.partState = .unconfigured ∧
      Taken 0x11 1 (channelPayload 47 newChannel) stopped) ∧
    (∀ new : ChannelConfig, (new = newChannel ∨ new = { newChannel with slewRate := 1000 }) →
      channelRanges new = true ∧ run.partState = .run ∧ OwnerAgrees new ∧
      Taken 0x11 1 (channelPayload 47 new) run ∧ usedConfig new = true ∧
      new.owner = run.cfg.channels[(47 : Fin 48)].owner ∧
      new.fallbackKind = run.cfg.channels[(47 : Fin 48)].fallbackKind ∧
      new.fallbackValue = run.cfg.channels[(47 : Fin 48)].fallbackValue ∧
      new.zoneFactor = run.cfg.channels[(47 : Fin 48)].zoneFactor) ∧
    (∀ new : ChannelConfig, (new = newFallback ∨ new = { newFallback with owner := none } ∨
        new = { newFallback with fallbackKind := .hold }) →
      channelRanges new = true ∧ run.partState = .run ∧ OwnerAgrees new ∧
      Taken 0x11 1 (channelPayload 30 new) run ∧ usedConfig new = true ∧
      new.zoneFactor ≠ run.cfg.channels[(30 : Fin 48)].zoneFactor ∧ leavesFallback run new.owner = true) ∧
    (usedConfig run.cfg.channels[(30 : Fin 48)] = true ∧
      leavesFallback run run.cfg.channels[(30 : Fin 48)].owner = true ∧
      run.channels[(30 : Fin 48)].adopted = true ∧ run.channels[(30 : Fin 48)].forced = none ∧
      run.channels[(30 : Fin 48)].mode = .fallback ∧ run.admission.queue = []) ∧
    (channelRanges factoryChannel = true ∧ OwnerAgrees factoryChannel ∧
      Taken 0x11 1 (channelPayload 30 factoryChannel) run ∧ usedConfig factoryChannel = false) := by
  refine ⟨by decide +kernel, ?_, ?_, by decide +kernel, by decide +kernel⟩
  · rintro new (rfl | rfl) <;> decide +kernel
  · rintro new (rfl | rfl | rfl) <;> decide +kernel

/-- The refusals of SET-CHANNEL: each field just out of its range, an owner under control, and a record that
disagrees with its owner. -/
theorem witness_SetChannelReplaces_refusals :
    ((48 :: List.replicate 14 (0 : Byte)).length = 15 ∧ Taken 0x11 1 (48 :: List.replicate 14 0) adopting ∧
      47 < byteAt (48 :: List.replicate 14 0) 0) ∧
    (∀ field ∈ ([(1, 2), (2, 0), (2, 3), (3, 8), (4, 4), (6, 101), (8, 118), (10, 3), (11, 4), (13, 4)] :
        List (Nat × Byte)),
      let p := (channelPayload 47 newChannel).set field.1 field.2;
      p.length = 15 ∧ Taken 0x11 1 p run ∧ Configurable run ∧ byteAt p 0 ≤ 47 ∧ channelRefused p) ∧
    (let p := channelPayload 47 { factoryChannel with fallbackKind := .daylight };
      p.length = 15 ∧ Taken 0x11 1 p run ∧ channelRefused p) ∧
    (let new := { newChannel with owner := some 0 };
      channelRanges new = true ∧ run.partState = .run ∧ Taken 0x11 1 (channelPayload 47 new) run ∧
      new.owner ≠ run.cfg.channels[(47 : Fin 48)].owner ∧ leavesFallback run new.owner = false) ∧
    (∀ new ∈ [{ newChannel with bore := .one }, { newChannel with kind := .fan }],
      channelRanges new = true ∧ run.partState = .run ∧ Taken 0x11 1 (channelPayload 47 new) run ∧
      new.owner = run.cfg.channels[(47 : Fin 48)].owner ∧ new.owner = some 7 ∧
      (run.cfg.computers[(7 : Fin 8)].bore ≠ new.bore ∨
        new.kind ≠ (match run.cfg.computers[(7 : Fin 8)].role with | .vent => .fan | .light => .light))) := by
  unfold channelRefused
  refine ⟨?_, ?_, ?_, ?_, ?_⟩ <;> decide +kernel

theorem witness_SetBudgetSetsCredit :
    let b : BudgetConfig := { bothCap := 60000, singleCap := 60000, refill := 6000 }
    let payload := b2 b.bothCap ++ b2 b.singleCap ++ b2 b.refill
    budgetRanges b = true ∧
    (Taken 0x12 1 payload stopped ∧ stopped.partState = .unconfigured) ∧
    (Taken 0x12 1 payload run ∧ run.partState = .run) ∧
    ∀ x ∈ ([(60001, 0, 0), (60001, 60001, 0), (60000, 60000, 6001), (0, 1, 0)] : List (Nat × Nat × Nat)),
      let p := b2 x.1 ++ b2 x.2.1 ++ b2 x.2.2;
      p.length = 6 ∧ Configurable run ∧ Taken 0x12 1 p run ∧
      (60000 < numberAt p 0 ∨ 60000 < numberAt p 2 ∨ 6000 < numberAt p 4 ∨ numberAt p 0 < numberAt p 2) := by
  decide +kernel

theorem witness_SetWindowReplaces :
    (Taken 0x13 1 (b1 1 ++ b1 4) run ∧ Configurable run ∧
      (run.partState = .run → run.window.count1 ≤ 1 ∧ run.window.count2 ≤ 4) ∧
      1 ≤ run.cfg.limit1 ∧ 4 ≤ run.cfg.limit2) ∧
    (Taken 0x13 1 (b1 1 ++ b1 1) { run with window := { run.window with count1 := 2 } } ∧ 1 < 2) ∧
    (Taken 0x13 1 (b1 2 ++ b1 4) waiting ∧ waiting.partState = .run ∧ waiting.window.count1 ≤ 2 ∧
      waiting.window.count2 ≤ 4 ∧ (waiting.window.waitList.map (·.slot)).Nodup ∧
      (∀ e ∈ waiting.window.waitList, waiting.contexts[e.slot].inProgress = false ∧
        waiting.contexts[e.slot].state ≠ .vacant ∧ waiting.contexts[e.slot].state ≠ .settle) ∧
      limitOf waiting .one < 2 ∧ 4 ≤ limitOf waiting .two) ∧
    (Taken 0x13 1 (b1 4 ++ b1 4) stopped ∧ stopped.partState = .unconfigured ∧ NoneWaiting stopped ∧
      stopped.cfg.limit1 < 4) ∧
    (∀ x ∈ ([(0, 1), (5, 1), (1, 0), (1, 5)] : List (Nat × Nat)),
      Configurable run ∧ Taken 0x13 1 [byteOf x.1, byteOf x.2] run ∧
      ((byteOf x.1).toNat = 0 ∨ 4 < (byteOf x.1).toNat ∨ (byteOf x.2).toNat = 0 ∨
        4 < (byteOf x.2).toNat)) := by
  refine ⟨?_, ?_, ?_, ?_, ?_⟩ <;> decide +kernel

theorem witness_SetDaylightReplaces :
    daylightRanges run.cfg.daylight = true ∧
    (stopped.partState = .unconfigured ∧ Taken 0x14 1 (daylightPayload run.cfg.daylight) stopped) ∧
    (run.partState = .run ∧ Taken 0x14 1 (daylightPayload run.cfg.daylight) run) ∧
    followsDaylight run 30 ∧
    (∀ d ∈ ([⟨[], 0⟩, ⟨List.replicate 9 ⟨0, 0⟩, 0⟩, ⟨[⟨1, 0⟩], 0⟩, ⟨[⟨0, 0⟩], 10001⟩, ⟨[⟨0, 1001⟩], 0⟩,
        ⟨[⟨0, 0⟩, ⟨65001, 0⟩], 0⟩, ⟨[⟨0, 0⟩, ⟨9, 0⟩, ⟨9, 0⟩], 0⟩] : List DaylightConfig),
      (daylightPayload d).length = 3 + 4 * byteAt (daylightPayload d) 0 ∧ Configurable run ∧
      Taken 0x14 1 (daylightPayload d) run ∧ daylightRefused (daylightPayload d)) := by
  unfold followsDaylight daylightRefused
  refine ⟨?_, ?_, ?_, ?_, ?_⟩ <;> decide +kernel

/-- A record at the ends of the ranges of R123 to R125. -/
def newPlan : PlanRecord :=
  { steps := [⟨.restart, 7, 3600⟩, ⟨.wait, 65535, 0⟩, ⟨.waitTrigger, 65535, 0⟩, ⟨.awaitCredit, 60000, 0⟩,
      ⟨.mark, 255, 0⟩]
    passCount := 15, passPeriod := 3600, startMode := .onTrigger, onFail := .abort, overrun := .stretch }

theorem witness_SetPlanReplaces :
    (planAcceptable newPlan = true ∧ Configurable run ∧ isExecuting 7 run = false ∧
      Taken 0x15 1 (planPayload 7 newPlan) run) ∧
    (8 ≤ (8 :: List.replicate 7 (0 : Byte)).length ∧
      (8 :: List.replicate 7 (0 : Byte)).length = 8 + 5 * byteAt (8 :: List.replicate 7 0) 7 ∧
      Taken 0x15 1 (8 :: List.replicate 7 0) adopting ∧ 7 < byteAt (8 :: List.replicate 7 0) 0) ∧
    (let s := executing 7 0;
      Taken 0x15 1 (planPayload 7 newPlan) s ∧ byteAt (planPayload 7 newPlan) 0 = (7 : PlanNo).val ∧
      s.partState = .run ∧ s.executor.state ≠ .idle ∧ s.executor.plan = some 7) ∧
    (∀ r ∈ [{ newPlan with steps := List.replicate 25 (stepOf .wait 1) }, { newPlan with passCount := 16 },
        { newPlan with passPeriod := 3601 }],
      (planPayload 7 r).length = 8 + 5 * byteAt (planPayload 7 r) 7 ∧ Configurable run ∧
      run.executor.state = .idle ∧ Taken 0x15 1 (planPayload 7 r) run ∧ settingsRefused (planPayload 7 r)) ∧
    (∀ st ∈ [⟨.restart, 8, 0⟩, ⟨.wait, 0, 0⟩, ⟨.awaitCredit, 60001, 0⟩, ⟨.mark, 256, 0⟩, ⟨.wait, 1, 3601⟩],
      let p := planPayload 7 { newPlan with steps := [stepOf .wait 1, st] };
      p.length = 8 + 5 * byteAt p 7 ∧ Taken 0x15 1 p run ∧ ¬ settingsRefused p ∧ 1 < byteAt p 7 ∧
      stepRefused p 1 ∧ ∀ j < 1, ¬ stepRefused p j) := by
  unfold settingsRefused stepRefused
  refine ⟨?_, ?_, ?_, ?_, ?_⟩ <;> decide +kernel

theorem witness_EventUnitSettings :
    (Configurable run ∧ Taken 0x16 1 [255, 255] run) ∧
    (adopting.partState = .adopt ∧ Taken 0x16 1 [255, 255] adopting) ∧
    (Configurable run ∧ Taken 0x17 1 [9] run ∧ readCounterSource 9 = some .mismatches ∧
      (9 : Byte).toNat ≤ 9) ∧
    (Configurable run ∧ Taken 0x17 1 [10] run ∧ 9 < (10 : Byte).toNat) := by decide

theorem witness_StoreWritesTheSnapshot :
    (Configurable run ∧ Taken 0x18 1 [] run ∧ run.store.writing = none) ∧
    (let s := { run with store := busy.store };
      Configurable s ∧ Taken 0x18 1 [] s ∧ s.store.writing.isSome = true) ∧
    (adopting.partState = .adopt ∧ Taken 0x18 1 [] adopting) ∧
    (busy.held = false ∧ busy.store.writing = some { config := runConfig, commissioned := true }) := by
  decide +kernel

theorem witness_CommissionEntersAdopt :
    (stopped.partState = .unconfigured ∧ Taken 0x19 1 [] stopped ∧
      (∀ c : Chan, channelConsistent stopped c = true) ∧
      stopped.cfg.budget.singleCap ≤ stopped.cfg.budget.bothCap ∧ ∃ c : Chan, isUsed stopped c = true) ∧
    (let s := { stopped with cfg := { stopped.cfg with
        channels := stopped.cfg.channels.set 47 { newChannel with bore := .one } } };
      s.partState = .unconfigured ∧ Taken 0x19 1 [] s ∧ channelConsistent s 47 = false ∧
      ∀ d : Chan, d < 47 → channelConsistent s d = true) ∧
    (let s := { stopped with cfg := { stopped.cfg with budget := ⟨0, 1, 0⟩ } };
      s.partState = .unconfigured ∧ Taken 0x19 1 [] s ∧ (∀ c : Chan, channelConsistent s c = true) ∧
      s.cfg.budget.bothCap < s.cfg.budget.singleCap) := by decide +kernel

/-- Slot 1 in this state, and a window of bore 1 with room for it. -/
def restartable (st : ComputerState) : State :=
  updContext 1 (fun x => { x with
    state := st, phase := if st = .join then some .hello else none, failures := if st = .fault then 7 else 2 })
    { run with cfg := { run.cfg with limit1 := 2 } }

theorem witness_RestartIsIssued :
    ∀ st ∈ ([.lost, .paused, .track, .join, .control, .fault] : List ComputerState),
    (restartable st).partState = .run ∧ (restartable st).contexts[(1 : Fin 8)].inProgress = false ∧
    (restartable st).contexts[(1 : Fin 8)].state = st ∧ st ≠ .vacant ∧ st ≠ .settle ∧
    NoneWaiting (restartable st) ∧
    countOf (restartable st) (boreOf (restartable st) 1) <
      limitOf (restartable st) (boreOf (restartable st) 1) ∧
    (restartable st).ports[(1 : Fin 8)].sendList.length < 7 ∧ Taken 0x30 1 (b1 1) (restartable st) ∧
    NoPlan (restartable st) ∧
    (let queued := { outcome := some .queued, ordered := false, resumed := false };
      let s := { atStep (planOf (stepOf .restart 1)) (restartable st) with executor :=
        { (atStep (planOf (stepOf .restart 1)) (restartable st)).executor with watch := queued } };
      Taken 0x30 1 (b1 1) s ∧ RunsStep 3 0 (stepOf .restart 1) s ∧ NoneWaiting s ∧
      s.executor.watch.outcome = some .queued) := by
  decide +kernel

theorem witness_WaitingRestarts :
    (Taken 0x30 1 (b1 2) run ∧ run.contexts[(2 : Fin 8)].inProgress = true) ∧
    (Taken 0x30 1 (b1 6) run ∧ run.contexts[(6 : Fin 8)].inProgress = false ∧ isWaiting run 6 = false ∧
      run.contexts[(6 : Fin 8)].state = .vacant) ∧
    (Taken 0x30 1 (b1 0) run ∧ run.contexts[(0 : Fin 8)].inProgress = false ∧ isWaiting run 0 = false ∧
      run.contexts[(0 : Fin 8)].state ≠ .vacant ∧ limitOf run (boreOf run 0) ≤ countOf run (boreOf run 0)) ∧
    (Taken 0x31 1 (b1 1) waiting ∧ isWaiting waiting 1 = true) ∧
    (Taken 0x31 1 (b1 2) run ∧ isWaiting run 2 = false ∧ run.contexts[(2 : Fin 8)].inProgress = true) ∧
    (Taken 0x31 1 (b1 7) run ∧ isWaiting run 7 = false ∧ run.contexts[(7 : Fin 8)].inProgress = false) := by
  decide

theorem witness_JoinedEntryIsRaised :
    (waiting.contexts[(1 : Fin 8)].inProgress = false ∧ ∃ e ∈ waiting.window.waitList, e.slot = 1) ∧
    waitingEntry.source = .recovery ∧ { waitingEntry with source := .plan, plan := some 7 }.source = .plan ∧
    { waitingEntry with source := .supervisor }.source = .supervisor := by decide

/-- Slot 7 in PAUSED. -/
theorem witness_PauseAndResume :
    (Taken 0x32 1 (b1 0) run ∧ pausable run.contexts[(0 : Fin 8)] = true ∧
      run.ports[(0 : Fin 8)].sendList.length < 7) ∧
    (Taken 0x32 1 (b1 2) run ∧ pausable run.contexts[(2 : Fin 8)] = false) ∧
    (Taken 0x33 1 (b1 7) pausedRun ∧ pausedRun.contexts[(7 : Fin 8)].state = .paused ∧
      pausedRun.ports[(7 : Fin 8)].sendList.length < 8) ∧
    (Taken 0x33 1 (b1 7) run ∧ run.contexts[(7 : Fin 8)].state ≠ .paused) := by decide

/-- Channel 0 forced at 900 against its owner's demand. -/
def forcedRun : State :=
  updChannel 0 (fun ch => { ch with forced := some 900, mode := .forced, target := some 900 }) run

theorem witness_ForceAndUnforce :
    (run.partState = .run ∧ Taken 0x34 1 (b1 47 ++ [255, 255]) run ∧ isUsed run 47 = true) ∧
    (Taken 0x34 1 (b1 45 ++ [255, 255]) run ∧ isUsed run 45 = false) ∧
    (forcedRun.partState = .run ∧ Taken 0x35 1 (b1 0) forcedRun ∧
      forcedRun.channels[(0 : Fin 48)].forced = some 900 ∧
      forcedRun.channels[(0 : Fin 48)].adopted = true ∧
      forcedRun.cfg.channels[(0 : Fin 48)].owner = some 0 ∧
      forcedRun.contexts[(0 : Fin 8)].state = .control ∧
      forcedRun.channels[(0 : Fin 48)].demand = some 400 ∧
      forcedRun.channels[(0 : Fin 48)].driveFault = false) ∧
    (Taken 0x35 1 (b1 47) run ∧ run.channels[(47 : Fin 48)].forced = none) := by decide

/-- Channel 0 with its drive fault set. -/
def faultyRun : State := updChannel 0 (fun ch => { ch with driveFault := true }) run

theorem witness_ClearFaultClears :
    (faultyRun.partState = .run ∧ Taken 0x36 1 (b1 0) faultyRun ∧ isUsed faultyRun 0 = true ∧
      faultyRun.channels[(0 : Fin 48)].driveFault = true) ∧
    (Taken 0x36 1 (b1 47) run ∧ isUsed run 47 = true ∧ run.channels[(47 : Fin 48)].driveFault = false) ∧
    (Taken 0x36 1 (b1 45) run ∧ isUsed run 45 = false) := by decide

/-- Steps with the states in which each clause of `stepBegins` meets one of them at its start. -/
def firstSteps : List (PlanStep × State) :=
  [(stepOf .wait 5, run), (stepOf .waitTrigger 0, run), (stepOf .awaitCredit 3000, run),
    (stepOf .awaitCredit 3001, run), (stepOf .mark 9, run), (stepOf .pause 0, run), (stepOf .pause 7, run),
    (stepOf .restart 2, run), (stepOf .restart 1, waiting), (stepOf .restart 0, run), (stepOf .restart 7, run),
    (stepOf .resume 7, pausedRun), (stepOf .resume 7, run)]

/-- What those clauses ask of the part. -/
def StartsMet (s : State) : Prop :=
  s.admission.credit = 3000 ∧
  (pausable s.contexts[(0 : Fin 8)] = true ∧ s.ports[(0 : Fin 8)].sendList.length < 7) ∧
  (pausable s.contexts[(7 : Fin 8)] = false ∧ s.contexts[(7 : Fin 8)].state ≠ .paused) ∧
  s.contexts[(2 : Fin 8)].inProgress = true ∧
  (waiting.contexts[(1 : Fin 8)].inProgress = false ∧ isWaiting waiting 1 = true) ∧
  (s.contexts[(0 : Fin 8)].inProgress = false ∧ isWaiting s 0 = false ∧
    s.contexts[(0 : Fin 8)].state ≠ .vacant ∧ limitOf s (boreOf s 0) ≤ countOf s (boreOf s 0)) ∧
  (s.contexts[(7 : Fin 8)].inProgress = false ∧ isWaiting s 7 = false ∧
    s.contexts[(7 : Fin 8)].state ≠ .vacant ∧ countOf s (boreOf s 7) < limitOf s (boreOf s 7) ∧ boreWaits s (boreOf s 7) = false ∧
    s.contexts[(7 : Fin 8)].state ≠ .settle ∧ s.ports[(7 : Fin 8)].sendList.length < 7) ∧
  (pausedRun.contexts[(7 : Fin 8)].state = .paused ∧ pausedRun.ports[(7 : Fin 8)].sendList.length < 8) ∧
  (s.contexts[(6 : Fin 8)].inProgress = false ∧ isWaiting s 6 = false ∧
    s.contexts[(6 : Fin 8)].state = .vacant) ∧
  FailureRests (planOf (stepOf .pause 7)) 0 ∧ FailureRests newPlan 0

theorem witness_PlanStartRuns :
    (run.partState = .run ∧ Taken 0x37 1 (b1 2) run ∧ NoPlan run ∧ run.cfg.plans[(2 : Fin 8)].steps ≠ [] ∧
      run.cfg.plans[(2 : Fin 8)].startMode = .onTrigger ∧
      ∀ st ∈ run.cfg.plans[(2 : Fin 8)].steps, stepStartable run st = true) ∧
    (Taken 0x37 1 (b1 7) (executing 0 0) ∧ (executing 0 0).executor.state ≠ .idle) ∧
    (Taken 0x37 1 (b1 7) run ∧ NoPlan run ∧ run.cfg.plans[(7 : Fin 8)].steps = []) ∧
    (∀ x ∈ firstSteps, let s := { atStep (planOf x.1) x.2 with executor := resetExecutor };
      s.partState = .run ∧ NoPlan s ∧ s.cfg.plans[(3 : Fin 8)].steps = x.1 :: [stepOf .wait 7] ∧
      s.cfg.plans[(3 : Fin 8)].startMode = .immediate ∧
      (∀ y ∈ s.cfg.plans[(3 : Fin 8)].steps, stepStartable s y = true) ∧ Taken 0x37 1 (b1 3) s) ∧
    StartsMet run ∧
    (∀ st ∈ [stepOf .restart 6, stepOf .pause 6, stepOf .resume 6, stepOf .awaitCredit 4001],
      let r := { factoryPlan with steps := [stepOf .wait 7, st] };
      let s := { run with cfg := { run.cfg with plans := run.cfg.plans.set 3 r } };
      s.partState = .run ∧ Taken 0x37 1 (b1 3) s ∧ NoPlan s ∧ s.cfg.plans[(3 : Fin 8)].steps[1]? = some st ∧
      s.contexts[(6 : Fin 8)].state = .vacant ∧ s.cfg.budget.bothCap = 4000 ∧
      ∀ x ∈ s.cfg.plans[(3 : Fin 8)].steps.take 1, stepStartable s x = true) := by
  unfold StartsMet
  refine ⟨?_, ?_, ?_, ?_, ?_, ?_⟩ <;> decide +kernel

theorem witness_PlanStopEnds :
    (Taken 0x38 1 [0] (executing 0 0) ∧ (executing 0 0).partState = .run ∧
      (executing 0 0).executor.state ≠ .idle ∧ (executing 0 0).executor.plan = some 0) ∧
    (Taken 0x38 1 [1] (executing 0 0) ∧ (executing 0 0).executor.state = .running) ∧
    (run.partState = .run ∧ (1 : Byte).toNat ≤ 1 ∧ Taken 0x38 1 [1] run ∧ NoPlan run) := by decide

theorem witness_LuminanceSelectsStage :
    run.partState = .run ∧ daylightRanges run.cfg.daylight = true ∧
    run.daylight.stage < run.cfg.daylight.stages.length ∧ Taken 0x39 1 [255, 255] run := by decide

theorem witness_LuminanceTakesReading :
    run.partState = .run ∧ Taken 0x39 1 [0, 0] run ∧
    (after (.luminance 1 [0, 0]) run).daylight.stage ≠ run.daylight.stage ∧ followsDaylight run 30 ∧
    (after (.luminance 1 (b2 3100)) run).daylight.stage = run.daylight.stage := by
  unfold followsDaylight; decide +kernel

theorem witness_FeedClampsCredit :
    (Taken 0x3A 1 [2] run ∧ 1 < (2 : Byte).toNat) ∧
    (Taken 0x3A 1 [0] run ∧ (0 : Byte).toNat = 0 ∧ run.partState = .run ∧ .both = run.admission.feed) ∧
    (Taken 0x3A 1 [1] run ∧ (1 : Byte).toNat = 1 ∧ run.partState = .run ∧
      .single ≠ run.admission.feed) := by decide

/-- The RESET-PART reply has begun to be sent. -/
def resetAwaited : State :=
  { run with supervisory := { run.supervisory with resetWait := .replySending } }

theorem witness_ResetPartThenCommandReset :
    (Taken 0x3B 1 [] stopped ∧ Taken 0x3B 1 [] adopting ∧ Taken 0x3B 1 [] run) ∧
    (resetAwaited.held = false ∧ resetAwaited.supervisory.resetWait = .replySending) ∧
    { resetAwaited with commissioned := false }.commissioned = false ∧
    (resetAwaited.commissioned = true ∧ ∃ c : Chan, isUsed resetAwaited c = true) ∧
    (let s := { resetAwaited with cfg := factoryConfig };
      s.commissioned = true ∧ ∀ c : Chan, isUsed s c = false) ∧
    (run.held = false ∧ run.supervisory.resetWait ≠ .replySending) ∧
    (let s := after (.resetPart 1 []) run;
      s.held = false ∧ s.supervisory.resetWait = .replyWaiting ∧
      s.supervisory.outgoing = .reply 0x3B 1 .ok .absent [] :: []) := by decide +kernel

theorem witness_QueriesReadOnly :
    Taken 0x50 1 (b1 7) run ∧ Taken 0x51 1 (b1 47) run ∧ Taken 0x52 1 [] adopting ∧
    Taken 0x53 1 [] stopped ∧ Taken 0x54 1 [] run ∧ Taken 0x55 1 [] run := by decide

theorem witness_ReadsClearAfterReply :
    Taken 0x56 1 [] run ∧ Taken 0x57 1 [] stopped ∧ Taken 0x58 1 [] adopting := by decide

theorem witness_SupervisoryLineEvents :
    (run.held = false ∧ tooLong.tail.length ≤ 250 ∧ Taken 0x58 1 tooLong.tail run ∧
      run.supervisory.queue = []) ∧
    (busy.held = false ∧ 16 ≤ busy.supervisory.outgoing.length ∧ busy.supervisory.queue.length < 4) ∧
    (resetAwaited.held = false ∧ resetAwaited.supervisory.resetWait ≠ .none ∧
      resetAwaited.supervisory.queue.length < 4) ∧
    (let s := { busy with supervisory := { busy.supervisory with
        queue := List.replicate 4 { kind := 0x58, tag := 1, payload := [] } } };
      s.held = false ∧ 4 ≤ s.supervisory.queue.length) ∧
    (busy.supervisory.resetWait = .none ∧
      busy.supervisory.outgoing =
        .eventNotice [] :: List.replicate 15 (.reply 0x58 0 .ok .absent []) ∧
      busy.supervisory.queue = { kind := 0x30, tag := 1, payload := [7] } ::
        [{ kind := 0x58, tag := 9, payload := [] }] ∧
      (List.replicate 15 (OutFrame.reply 0x58 0 .ok .absent [])).length < 16) ∧
    (let s := { run with supervisory := { run.supervisory with outgoing := [.eventNotice []] } };
      s.held = false ∧ s.supervisory.resetWait = .none ∧ s.supervisory.outgoing = .eventNotice [] :: [] ∧
      s.supervisory.queue = []) ∧
    (run.supervisory.resetWait = .none ∧ run.supervisory.outgoing = []) ∧
    (∀ b ∈ (frameBytes 0x58 1 []).getLast?,
      let s := hearing .supervisory (frameBytes 0x58 1 []).dropLast { gap := 20000, byte := some b } run;
      s.held = false ∧ s.pending = [] ∧
      s.arriving = [.char .supervisory { gap := 20000, byte := some b }] ∧
      s.inputs.supervisory.heard ≠ [] ∧
      s.inputs.supervisory.heard.map (·.2) ++ [b] = frameBytes 0x58 1 [] ∧
      (∀ x ∈ s.inputs.supervisory.heard.tail, x.1 ≤ 20000) ∧ s.inputs.supervisory.lost + 20000 ≤ 20000) := by
  decide +kernel

/-- A part whose store holds this image, the reset line asserted or not. -/
def stored (image : StoredImage) (held : Bool) : State :=
  { run with held, lastReset := .line, store := { valid := true, image, writing := none } }

theorem witness_ResetsLoadByMarker :
    (run.store.valid = false ∧ run.held = false) ∧
    (let s := { run with held := true, lastReset := .line };
      s.store.valid = false ∧ s.held = true ∧ s.lastReset = .line) ∧
    (∀ held : Bool, (stored { config := runConfig, commissioned := true } held).store.valid = true ∧
      (stored { config := runConfig, commissioned := true } held).held = held ∧
      (stored { config := runConfig, commissioned := true } held).lastReset ≠ .command ∧
      (stored { config := runConfig, commissioned := true } held).store.image.commissioned = true ∧
      ∃ c : Chan, usedConfig
        (stored { config := runConfig, commissioned := true } held).store.image.config.channels[c] = true) ∧
    (∀ held : Bool, (stored { config := runConfig, commissioned := false } held).store.valid = true ∧
      (stored { config := runConfig, commissioned := false } held).store.image.commissioned = false) ∧
    (∀ held : Bool, (stored { config := factoryConfig, commissioned := true } held).store.valid = true ∧
      (stored { config := factoryConfig, commissioned := true } held).store.image.commissioned = true ∧
      ∀ c : Chan, usedConfig
        (stored { config := factoryConfig, commissioned := true } held).store.image.config.channels[c] =
          false) := by decide +kernel

theorem witness_ResetLineHolds :
    (run.held = false ∧ { run with held := true }.held = true ∧
      Instr.stepTimer ≠ .powerReset ∧ Instr.stepTimer ≠ .lineResetRelease) ∧
    (let s := pinned lowPins.trigger lowPins.reset [.level .resetLine true];
      s.pending = [] ∧ FiltersOpen s ∧ s.arriving = .level .resetLine true :: [] ∧
      s.pins.reset.high = false) ∧
    (∀ held : Bool,
      let s := { pinned lowPins.trigger { high := true, filter := some 1001 } [.level .resetLine false] with
        held };
      s.pending = [] ∧ FiltersOpen s ∧ s.arriving = .level .resetLine false :: [] ∧
      s.pins.reset.high = true ∧ s.held = held) ∧
    (let s := pinned lowPins.trigger { high := true, filter := some 1000 } [.quiet 3];
      s.pending = [] ∧ s.pins.reset.filter = some 1000 ∧ 1000 ≤ s.now ∧
      ∀ input char others, s.arriving ≠ .char input char :: others) :=
  ⟨by decide, ⟨rfl, filtersOpen _ rfl rfl, rfl, rfl⟩, fun _ => ⟨rfl, filtersOpen _ rfl rfl, rfl, rfl, rfl⟩,
    rfl, rfl, by decide, nofun⟩

theorem witness_UnwantedDemandIsDiscarded :
    (run.held = false ∧ run.partState = .run ∧ run.contexts[(2 : Fin 8)].state ≠ .track ∧
      run.contexts[(2 : Fin 8)].state ≠ .control ∧ run.contexts[(2 : Fin 8)].state ≠ .lost) ∧
    (adopting.held = false ∧ adopting.partState ≠ .run) := by decide

theorem witness_DemandInControlIsFollowed :
    Running run ∧ run.contexts[(0 : Fin 8)].state = .control := by decide

/-- Slot 7 in TRACK with its restart in progress, channel 47 adopted at 500 and one report from
agreement. -/
def agreeing : State :=
  updContext 7 (fun x => { x with state := .track, trackCause := some .ordered, inProgress := true })
    (updChannel 47 (fun _ => { resting 500 .hold with matchCount := 2, demand := some 500 })
      (updChannel 30 (fun ch => { ch with mode := .hold, matchCount := 15 }) run))

theorem witness_AgreementBringsControl :
    (Running agreeing ∧ agreeing.contexts[(7 : Fin 8)].state = .track ∧ NoPlan agreeing ∧
      NoneWaiting agreeing ∧ agreeing.ports[(7 : Fin 8)].sendList.length < 8 ∧
      owns agreeing 7 47 = true ∧ isCounted agreeing 47 = true ∧ Agrees 7 [(30, 570)] agreeing) ∧
    (∀ x ∈ [(stepOf .restart 7, true), (stepOf .restart 7, false), (stepOf .resume 7, true),
        (stepOf .resume 7, false), (stepOf .restart 0, true), (stepOf .pause 7, true)],
      let s := { atStep (planOf x.1) agreeing with executor :=
        { (atStep (planOf x.1) agreeing).executor with
          watch := { outcome := none, ordered := x.2, resumed := x.2 } } };
      Running s ∧ s.contexts[(7 : Fin 8)].state = .track ∧ RunsStep 3 0 x.1 s ∧ NoneWaiting s ∧
      s.ports[(7 : Fin 8)].sendList.length < 8 ∧ Agrees 7 [(30, 570)] s ∧
      s.contexts[(7 : Fin 8)].trackCause = some .ordered ∧
      s.cfg.plans[(3 : Fin 8)].steps[0 + 1]? = some (stepOf .wait 7)) := by
  refine ⟨?_, ?_⟩ <;> decide +kernel

/-- Slot 0 in CONTROL under another break policy. -/
def breaking (p : BreakPolicy) : State :=
  { run with cfg := { run.cfg with
    computers := run.cfg.computers.set 0 { run.cfg.computers[(0 : Fin 8)] with breakPolicy := p } } }

theorem witness_BreakIsTakenByPolicy :
    (∀ p ∈ ([.ignore, .retrack, .restart] : List BreakPolicy), Running (breaking p) ∧
      (breaking p).contexts[(0 : Fin 8)].state = .control ∧
      (breaking p).ports[(0 : Fin 8)].sendList.length < 7 ∧
      (breaking p).cfg.computers[(0 : Fin 8)].breakPolicy = p) ∧
    owns (breaking .retrack) 0 0 = true ∧
    ((breaking .restart).contexts[(0 : Fin 8)].inProgress = false ∧ isWaiting (breaking .restart) 0 = false ∧
      limitOf (breaking .restart) (boreOf (breaking .restart) 0) ≤
        countOf (breaking .restart) (boreOf (breaking .restart) 0)) ∧
    (let s := { breaking .restart with window := { run.window with
        waitList := [{ waitingEntry with slot := 0 }] } };
      s.contexts[(0 : Fin 8)].inProgress = false ∧ isWaiting s 0 = true) ∧
    (let s := { breaking .restart with cfg := { (breaking .restart).cfg with limit1 := 2 } };
      s.contexts[(0 : Fin 8)].inProgress = false ∧ isWaiting s 0 = false ∧
      countOf s (boreOf s 0) < limitOf s (boreOf s 0) ∧ boreWaits s (boreOf s 0) = false) := by decide

theorem witness_HelloBringsImage :
    (Running run ∧ run.contexts[(2 : Fin 8)].state = .settle) ∧
    (Running joining ∧ joining.contexts[(7 : Fin 8)].state = .join ∧
      joining.ports[(7 : Fin 8)].sendList = []) ∧
    (run.contexts[(7 : Fin 8)].state = .lost ∧ run.ports[(7 : Fin 8)].sendList = []) ∧
    (run.contexts[(1 : Fin 8)].state = .track ∧ run.ports[(1 : Fin 8)].sendList = []) ∧
    (run.contexts[(0 : Fin 8)].state = .control ∧ run.ports[(0 : Fin 8)].sendList = [] ∧
      owns run 0 0 = true) ∧
    (Running pausedRun ∧ pausedRun.contexts[(7 : Fin 8)].state = .paused) ∧
    (Running (restartable .fault) ∧ (restartable .fault).contexts[(1 : Fin 8)].state = .fault) ∧
    run.contexts[(6 : Fin 8)].state = .vacant := by decide

/-- Slot 1 in JOIN on its own account, with failures behind it. -/
def rejoining (failures : Nat) (waitList : List WaitEntry) : State :=
  updContext 1 (fun x => { x with state := .join, phase := some .image, generation := 9, failures })
    { run with window := { run.window with waitList } }

theorem witness_ImageRepliesActOrAreStale :
    (Running joining ∧ replyCurrent joining.contexts[(7 : Fin 8)] 65535 = true) ∧
    (Running joining ∧ replyCurrent joining.contexts[(7 : Fin 8)] 0 = false) ∧
    (Running run ∧ replyCurrent run.contexts[(7 : Fin 8)] 0 = false) ∧
    (joining.contexts[(7 : Fin 8)].inProgress = true ∧ joining.contexts[(7 : Fin 8)].failures < 6 ∧
      joining.ports[(7 : Fin 8)].sendList.length < 8) ∧
    (let s := rejoining 5 [];
      Running s ∧ replyCurrent s.contexts[(1 : Fin 8)] 9 = true ∧ s.ports[(1 : Fin 8)].sendList.length < 8 ∧
      s.contexts[(1 : Fin 8)].inProgress = false ∧ s.contexts[(1 : Fin 8)].failures < 6 ∧
      isWaiting s 1 = false ∧ limitOf s (boreOf s 1) ≤ countOf s (boreOf s 1)) ∧
    (let s := { rejoining 5 [] with cfg := { runConfig with limit1 := 2 } };
      countOf s (boreOf s 1) < limitOf s (boreOf s 1) ∧ boreWaits s (boreOf s 1) = false) ∧
    isWaiting (rejoining 5 [waitingEntry]) 1 = true ∧
    (let s := rejoining 6 [waitingEntry];
      Running s ∧ replyCurrent s.contexts[(1 : Fin 8)] 9 = true ∧ s.contexts[(1 : Fin 8)].failures = 6 ∧
      NoPlan s ∧ ∀ e ∈ s.window.waitList, e.slot = 1 → e.source = .recovery) ∧
    (∀ operand ∈ [0, 1], let st := stepOf .restart operand; let s := atStep (planOf st) (rejoining 6 []);
      Running s ∧ replyCurrent s.contexts[(1 : Fin 8)] 9 = true ∧ s.ports[(1 : Fin 8)].sendList.length < 8 ∧
      s.contexts[(1 : Fin 8)].failures = 6 ∧ NoneWaiting s ∧ RunsStep 3 0 st s ∧
      FailureRests s.cfg.plans[(3 : Fin 8)] 0) := by decide +kernel

theorem witness_ComputerLineEvents :
    (Running run ∧ run.ports[(7 : Fin 8)].sendList = [] ∧
      (updPort 2 (fun p => { p with sendList := [.pause] }) run).ports[(2 : Fin 8)].sendList =
        .pause :: []) ∧
    (∀ s ∈ [run, adopting, { run with held := true }], ∀ char ∈ [none, some (0xA5 : Byte), some 0],
      (hearing (.computer 7) [] { gap := 30000, byte := char } s).pending = [] ∧
      (hearing (.computer 7) [] { gap := 30000, byte := char } s).arriving =
        [.char (.computer 7) { gap := 30000, byte := char }] ∧
      (hearing (.computer 7) [] { gap := 30000, byte := char } s).inputs.computers[(7 : Fin 8)].heard = []) ∧
    adopting.partState ≠ .run ∧ { run with held := true }.held = true ∧
    (∀ n ∈ [1, 5], ∀ gap ∈ [20000, 20001], ∀ b ∈ (frameBytes 0x02 5 [])[n]?,
      let s := hearing (.computer 7) ((frameBytes 0x02 5 []).take n) { gap, byte := some b } run;
      let later := (frameBytes 0x02 5 []).drop n;
      Running s ∧ s.inputs.computers[(7 : Fin 8)].heard ≠ [] ∧
      (∀ x ∈ s.inputs.computers[(7 : Fin 8)].heard.tail, x.1 ≤ 20000) ∧
      s.inputs.computers[(7 : Fin 8)].heard.map (·.2) ++ later = frameBytes 0x02 5 [] ∧ later ≠ [] ∧
      s.inputs.computers[(7 : Fin 8)].lost + gap = gap ∧ later.head? = some b ∧
      (later.length = 1 ↔ later = [b]) ∧ (n = 1 → later.length ≠ 1)) ∧
    ((frameBytes 0x02 5 []).drop ((frameBytes 0x02 5 []).length - 1)).length = 1 := by
  refine ⟨?_, ?_, ?_, ?_, ?_, ?_⟩ <;> decide +kernel

/-- The part in ADOPT with every used channel adopted but this one. -/
def lastUnadopted (c : Chan) : State :=
  { adopting with channels := adopting.channels.mapIdx fun i ch =>
      if i = c.val then resetChannel else if i = 46 ∨ i = 47 then resting 250 .fallback else ch }

theorem witness_StateRecordIsTaken :
    (Running faultyRun ∧ faultyRun.field.window = none ∧ isUsed faultyRun 0 = true ∧
      faultyRun.channels[(0 : Fin 48)].adopted = true) ∧
    (isUsed run 21 = true ∧ run.channels[(21 : Fin 48)].adopted = true ∧
      run.channels[(21 : Fin 48)].driven = some 0) ∧
    (Running run ∧ run.field.window = none ∧ 47 < 48) ∧
    (Running run ∧ run.field.window = none ∧ isUsed run 45 = false) ∧
    (Running busy ∧ isUsed busy 20 = true ∧ busy.channels[(20 : Fin 48)].adopted = true ∧
      busy.channels[(20 : Fin 48)].driveFault = false ∧ busy.channels[(20 : Fin 48)].startConfirm = none ∧
      busy.channels[(20 : Fin 48)].driven = some 200) ∧
    (Running run ∧ isUsed run 46 = true ∧ run.channels[(46 : Fin 48)].adopted = false ∧
      run.channels[(46 : Fin 48)].forced = none ∧ run.admission.queue = [] ∧
      run.cfg.channels[(46 : Fin 48)].owner = none ∧
      leavesFallback run run.cfg.channels[(46 : Fin 48)].owner = true ∧
      run.cfg.channels[(46 : Fin 48)].fallbackKind = .fixed) ∧
    (∀ st ∈ ([.control, .settle, .join] : List ComputerState),
      let s := updContext 7 (fun x => { x with state := st }) run;
      Running s ∧ isUsed s 47 = true ∧ s.channels[(47 : Fin 48)].adopted = false ∧
      s.channels[(47 : Fin 48)].forced = none ∧ s.admission.queue = [] ∧
      s.cfg.channels[(47 : Fin 48)].owner = some 7 ∧ s.contexts[(7 : Fin 8)].state = st ∧
      s.channels[(47 : Fin 48)].mode = .unadopted) ∧
    (adopting.held = false ∧ adopting.partState = .adopt ∧ isUsed adopting 46 = true ∧
      adopting.channels[(46 : Fin 48)].adopted = false ∧ adopting.channels[(46 : Fin 48)].forced = none ∧
      adopting.admission.queue = [] ∧
      ∃ d : Chan, d ≠ 46 ∧ isUsed adopting d = true ∧ adopting.channels[d].adopted = false) ∧
    (let s := lastUnadopted 46;
      s.held = false ∧ s.partState = .adopt ∧ isUsed s 46 = true ∧
      s.channels[(46 : Fin 48)].adopted = false ∧ s.channels[(46 : Fin 48)].forced = none ∧
      s.admission.queue = [] ∧
      (∀ d : Chan, d ≠ 46 → isUsed s d = true → s.channels[d].adopted = true) ∧
      s.cfg.computers[(7 : Fin 8)].enabled = true ∧ s.contexts[(7 : Fin 8)].state = .lost) := by
  refine ⟨?_, ?_, ?_, ?_, ?_, ?_, ?_, ?_, ?_⟩ <;> decide +kernel

/-- Channel 47 is polled, or an answer period runs, with a SET record waiting. -/
def fieldRun (window : Option AnswerWindow) (period : Option Nat) (sendList : List SetRecord) : State :=
  { run with field := { resetField with window, period, sendList, next := 48 } }

theorem witness_FieldLineTimesAndDiscards :
    (run.held = false ∧ run.partState ≠ .unconfigured) ∧
    (stopped.held = false ∧ stopped.partState = .unconfigured) ∧
    ((fieldRun (some ⟨47, 1050⟩) none []).held = false ∧
      (fieldRun (some ⟨47, 1050⟩) none []).field.window = some { channel := 47, deadline := 1050 }) ∧
    ((fieldRun none (some 1050) [⟨47, 1000⟩]).field.period = some 1050 ∧
      (fieldRun none (some 1050) [⟨47, 1000⟩]).partState = .run ∧
      (fieldRun none (some 1050) [⟨47, 1000⟩]).field.sendList = ⟨47, 1000⟩ :: []) ∧
    (∀ s ∈ [stopped, adopting, run], ∀ b ∈ (recordBytes (byteOf 255) 0x04 65535 3).getLast?,
      let h := hearing .field (recordBytes (byteOf 255) 0x04 65535 3).dropLast
        { gap := 20000, byte := some b } s;
      h.held = false ∧ h.pending = [] ∧
      h.arriving = [.char .field { gap := 20000, byte := some b }] ∧
      h.inputs.field.heard ≠ [] ∧
      h.inputs.field.heard.map (·.2) ++ [b] = recordBytes (byteOf 255) 0x04 65535 3 ∧
      (∀ x ∈ h.inputs.field.heard.tail, x.1 ≤ 20000) ∧ h.inputs.field.lost + 20000 ≤ 20000) ∧
    adopting.partState ≠ .unconfigured := by
  refine ⟨?_, ?_, ?_, ?_, ?_, ?_⟩ <;> decide +kernel

theorem witness_FieldLineSendsNext :
    (Running (fieldRun none none [⟨47, 1000⟩]) ∧ (fieldRun none none [⟨47, 1000⟩]).field.window = none ∧
      (fieldRun none none [⟨47, 1000⟩]).field.period = none ∧
      (fieldRun none none [⟨47, 1000⟩]).field.sendList = ⟨47, 1000⟩ :: []) ∧
    (Running (fieldRun none none []) ∧ (fieldRun none none []).field.sendList = [] ∧
      ∃ c : Chan, isUsed (fieldRun none none []) c = true) ∧
    ((fieldRun (some ⟨47, 1050⟩) none []).field.window.isSome = true ∧
      (fieldRun none (some 1050) []).field.period.isSome = true) := by decide

theorem witness_ServingIsHeadFirst :
    (busy.admission.queue.map (·.channel)).Nodup ∧ (∀ e ∈ busy.admission.queue, 1 ≤ e.wanted) ∧
    (serve busy).admission.queue = [] ∧
    (∀ credit : Nat, (credit = 2 ∨ credit = 3) →
      let s := { busy with admission := { busy.admission with credit } };
      (s.admission.queue.map (·.channel)).Nodup ∧ (∀ e ∈ s.admission.queue, 1 ≤ e.wanted) ∧
      (serve s).admission.queue.map (·.wanted) = [if credit = 2 then 50 else 49]) := by
  refine ⟨by decide, by decide, by decide +kernel, ?_⟩
  rintro credit (rfl | rfl) <;> decide +kernel

theorem witness_PlantTimersAct :
    (let s := updChannel 20 (fun ch => { ch with startConfirm := some 5000 }) run;
      s.held = false ∧ s.channels[(20 : Fin 48)].startConfirm = some 5000 ∧
      s.channels[(20 : Fin 48)].driveFault = false) ∧
    (busy.held = false ∧ busy.admission.queue = [entry20] ∧ entry20.channel = 20 ∧
      entry20.reported = false ∧ entry20.starvation = some 11000) ∧
    run.daylight.ageTimer = some 60500 ∧
    (let s := { busy with admission := { busy.admission with
        queue := [{ entry20 with channel := 21 }, entry20] } };
      s.held = false ∧ (s.admission.queue.map (·.channel)).Nodup ∧ entry20 ∈ s.admission.queue) ∧
    (run.held = false ∧ run.admission.refillTimer = some 1050 ∧ run.admission.queue = [] ∧ NoPlan run) ∧
    (let s := { busy with executor := resetExecutor };
      s.held = false ∧ s.admission.refillTimer = some 1050 ∧ s.admission.queue ≠ [] ∧ NoPlan s) ∧
    (∀ operand ∈ ([3300, 3301] : List Nat),
      let r := { factoryPlan with steps := [stepOf .awaitCredit operand, stepOf .wait 7] };
      let s := planning r .running 0;
      s.held = false ∧ s.admission.refillTimer = some 1050 ∧ s.admission.queue = [] ∧
      s.admission.credit + s.cfg.budget.refill = 3300 ∧ 3300 ≤ s.cfg.budget.bothCap ∧
      s.admission.feed = .both ∧ s.executor.state = .running ∧ s.executor.plan = some 3 ∧
      s.executor.step = some 0 ∧
      s.cfg.plans[(3 : Fin 8)].steps[0]? = some (stepOf .awaitCredit operand) ∧
      (stepOf .awaitCredit operand).kind = .awaitCredit ∧
      s.cfg.plans[(3 : Fin 8)].steps[0 + 1]? = some (stepOf .wait 7) ∧ (stepOf .wait 7).kind = .wait) := by
  decide

theorem witness_ReportAndSettleTimers :
    (Running run ∧ run.ports[(0 : Fin 8)].reportTimer = some 2000 ∧
      run.contexts[(0 : Fin 8)].inProgress = false ∧ run.contexts[(0 : Fin 8)].state = .control) ∧
    (run.ports[(1 : Fin 8)].reportTimer = some 2000 ∧ run.contexts[(1 : Fin 8)].inProgress = false ∧
      run.contexts[(1 : Fin 8)].state = .track) ∧
    (let s := updPort 7 (fun p => { p with reportTimer := some 2000 }) agreeing;
      Running s ∧ s.ports[(7 : Fin 8)].reportTimer = some 2000 ∧ s.contexts[(7 : Fin 8)].inProgress = true ∧
      s.contexts[(7 : Fin 8)].state = .track ∧ s.ports[(7 : Fin 8)].sendList.length < 8 ∧
      s.contexts[(7 : Fin 8)].failures < 6) ∧
    (Running run ∧ run.contexts[(2 : Fin 8)].settleTimer = some 5000 ∧
      run.contexts[(2 : Fin 8)].state = .settle) := by decide +kernel

/-- Slot 1 in TRACK on its own account, with a track timer and failures behind it. -/
def attempting (failures : Nat) (waitList : List WaitEntry) : State :=
  updContext 1 (fun x => { x with failures, trackTimer := some 3000 })
    { run with window := { run.window with waitList } }

theorem witness_AttemptTimersFail :
    (Running joining ∧ joining.contexts[(7 : Fin 8)].inProgress = true ∧
      joining.contexts[(7 : Fin 8)].failures < 6 ∧ joining.ports[(7 : Fin 8)].sendList.length < 8 ∧
      joining.contexts[(7 : Fin 8)].imageTimer = some 3000 ∧
      joining.contexts[(7 : Fin 8)].state = .join) ∧
    (let s := updContext 7 (fun x => { x with phase := some .hello, helloTimer := some 3000 }) joining;
      Running s ∧ s.contexts[(7 : Fin 8)].inProgress = true ∧ s.contexts[(7 : Fin 8)].failures < 6 ∧
      s.ports[(7 : Fin 8)].sendList.length < 8 ∧ s.contexts[(7 : Fin 8)].helloTimer = some 3000 ∧
      s.contexts[(7 : Fin 8)].state = .join) ∧
    (let s := updContext 7 (fun x => { x with trackTimer := some 3000 }) agreeing;
      Running s ∧ s.contexts[(7 : Fin 8)].inProgress = true ∧ s.contexts[(7 : Fin 8)].failures < 6 ∧
      s.ports[(7 : Fin 8)].sendList.length < 8 ∧ s.contexts[(7 : Fin 8)].trackTimer = some 3000 ∧
      s.contexts[(7 : Fin 8)].state = .track) ∧
    ((attempting 5 []).contexts[(1 : Fin 8)].inProgress = false ∧
      (attempting 5 []).contexts[(1 : Fin 8)].failures < 6 ∧
      (attempting 5 []).contexts[(1 : Fin 8)].trackTimer = some 3000 ∧
      (attempting 5 []).contexts[(1 : Fin 8)].state = .track ∧ isWaiting (attempting 5 []) 1 = false ∧
      limitOf (attempting 5 []) (boreOf (attempting 5 []) 1) ≤
        countOf (attempting 5 []) (boreOf (attempting 5 []) 1)) ∧
    (let s := { attempting 5 [] with cfg := { runConfig with limit1 := 2 } };
      isWaiting s 1 = false ∧ countOf s (boreOf s 1) < limitOf s (boreOf s 1) ∧
      boreWaits s (boreOf s 1) = false) ∧
    isWaiting (attempting 5 [waitingEntry]) 1 = true ∧
    (Running (attempting 6 [waitingEntry]) ∧ (attempting 6 [waitingEntry]).contexts[(1 : Fin 8)].failures = 6 ∧
      NoPlan (attempting 6 [waitingEntry]) ∧
      ∀ e ∈ (attempting 6 [waitingEntry]).window.waitList, e.slot = 1 → e.source = .recovery) ∧
    (∀ operand ∈ [0, 1], let st := stepOf .restart operand; let s := atStep (planOf st) (attempting 6 []);
      Running s ∧ s.contexts[(1 : Fin 8)].trackTimer = some 3000 ∧ s.contexts[(1 : Fin 8)].state = .track ∧
      s.ports[(1 : Fin 8)].sendList.length < 8 ∧ s.contexts[(1 : Fin 8)].failures = 6 ∧ NoneWaiting s ∧
      RunsStep 3 0 st s ∧ FailureRests s.cfg.plans[(3 : Fin 8)] 0) := by decide +kernel

theorem witness_PlanTimersDecide :
    (let s := executing 0 0;
      s.held = false ∧ s.executor.stepTimer = some 6000 ∧ s.executor.state = .running ∧
      s.executor.plan = some 0 ∧ s.executor.step = some 0 ∧
      s.cfg.plans[(0 : Fin 8)].steps[0]? = some ⟨.wait, 5, 0⟩ ∧
      0 + 1 = s.cfg.plans[(0 : Fin 8)].steps.length ∧ s.executor.passes < 15 ∧
      s.cfg.plans[(0 : Fin 8)].passCount = s.executor.passes + 1) ∧
    (let s := executing 2 0;
      s.held = false ∧ s.executor.stepTimer = some 6000 ∧ s.executor.state = .running ∧
      s.executor.plan = some 2 ∧ s.executor.step = some 0 ∧
      s.cfg.plans[(2 : Fin 8)].steps[0]? = some ⟨.restart, 7, 3600⟩ ∧
      s.cfg.plans[(2 : Fin 8)].onFail = .abort ∧ s.executor.passTimer = some 7000 ∧
      s.cfg.plans[(2 : Fin 8)].overrun = .stretch) ∧
    (let s := executing 0 0;
      s.executor.passTimer = some 7000 ∧ s.cfg.plans[(0 : Fin 8)].overrun = .abort) ∧
    (∀ kind ∈ ([.wait, .restart] : List StepKind),
      let r := { factoryPlan with steps := [stepOf kind 5, stepOf .wait 7], onFail := .skip };
      let s := planning r .running 0;
      s.held = false ∧ s.executor.stepTimer = some 6000 ∧ s.executor.state = .running ∧
      s.executor.plan = some 3 ∧ s.executor.step = some 0 ∧
      s.cfg.plans[(3 : Fin 8)].steps[0]? = some (stepOf kind 5) ∧ (stepOf kind 5).kind = kind ∧
      s.cfg.plans[(3 : Fin 8)].steps[0 + 1]? = some (stepOf .wait 7) ∧ (stepOf .wait 7).kind = .wait ∧
      s.cfg.plans[(3 : Fin 8)].onFail = .skip) ∧
    (∀ x ∈ firstSteps,
      let r := { factoryPlan with steps := [stepOf .wait 5, x.1, stepOf .wait 7], onFail := .skip };
      let s := { atStep r x.2 with executor := { (atStep r x.2).executor with stepTimer := some 6000 } };
      s.held = false ∧ s.executor.stepTimer = some 6000 ∧ RunsStep 3 0 (stepOf .wait 5) s ∧
      s.cfg.plans[(3 : Fin 8)].steps[0 + 1]? = some x.1) ∧
    (∀ mode ∈ ([.immediate, .onTrigger] : List StartMode), ∀ period ∈ ([0, 60] : List Nat),
      ∀ kind ∈ ([.wait, .restart] : List StepKind), ∀ stretched : Bool,
      let r := { factoryPlan with
        steps := [stepOf .wait 7, stepOf kind 5], onFail := .skip, passCount := 2
        startMode := mode, passPeriod := period };
      let s := { planning r .running 1 with
        executor := { (planning r .running 1).executor with stretched } };
      s.held = false ∧ s.executor.stepTimer = some 6000 ∧ s.executor.state = .running ∧
      s.executor.plan = some 3 ∧ s.executor.step = some 1 ∧
      s.cfg.plans[(3 : Fin 8)].steps[1]? = some (stepOf kind 5) ∧
      1 + 1 = s.cfg.plans[(3 : Fin 8)].steps.length ∧ s.executor.pendingStop = .none ∧
      s.cfg.plans[(3 : Fin 8)].passCount ≠ min 65535 (s.executor.passes + 1) ∧
      s.cfg.plans[(3 : Fin 8)].startMode = mode ∧ s.cfg.plans[(3 : Fin 8)].passPeriod = period ∧
      s.executor.stretched = stretched ∧
      s.cfg.plans[(3 : Fin 8)].steps = stepOf .wait 7 :: [stepOf kind 5]) ∧
    (∀ period ∈ ([0, 60] : List Nat),
      let s := planning { factoryPlan with steps := [stepOf .wait 7], passPeriod := period } .passWait 0;
      s.held = false ∧ s.executor.passTimer = some 7000 ∧ s.executor.state = .passWait ∧
      s.executor.plan = some 3 ∧ s.cfg.plans[(3 : Fin 8)].startMode = .immediate ∧
      s.cfg.plans[(3 : Fin 8)].steps = stepOf .wait 7 :: []) := by
  refine ⟨?_, ?_, ?_, ?_, ?_, ?_, ?_⟩ <;> decide +kernel

/-- The executor between the starts or passes of a plan. -/
def parked (st : ExecutorState) (p : PlanNo) : State :=
  { run with executor := { resetExecutor with state := st, plan := some p } }

theorem witness_EdgeByExecutorState :
    (run.held = false ∧ run.executor.state = .idle) ∧
    ((parked .passWait 0).held = false ∧ (parked .passWait 0).executor.plan = some 0 ∧
      (parked .passWait 0).executor.state = .passWait ∧
      (parked .passWait 0).cfg.plans[(0 : Fin 8)].startMode = .immediate) ∧
    ((parked .armed 1).executor.state = .armed ∧ (parked .armed 1).executor.plan = some 1 ∧
      (parked .armed 1).cfg.plans[(1 : Fin 8)].steps = [⟨.wait, 5, 0⟩, ⟨.mark, 9, 0⟩]) ∧
    (∀ p : PlanNo, (p = 1 ∨ p = 2) → (executing p 0).executor.state = .running ∧
      (executing p 0).executor.plan = some p ∧ (executing p 0).executor.step = some 0 ∧
      (executing p 0).cfg.plans[p].startMode = .onTrigger) ∧
    run.cfg.plans[(1 : Fin 8)].steps[0]? = some ⟨.wait, 5, 0⟩ ∧
    run.cfg.plans[(2 : Fin 8)].steps[0]? = some ⟨.restart, 7, 3600⟩ ∧
    run.cfg.plans[(1 : Fin 8)].overrun = .abort ∧ run.cfg.plans[(2 : Fin 8)].overrun = .stretch ∧
    ((parked .passWait 1).executor.state = .passWait ∧ (parked .passWait 1).executor.plan = some 1 ∧
      (parked .passWait 1).cfg.plans[(1 : Fin 8)].startMode = .onTrigger) ∧
    (∀ kind ∈ ([.waitTrigger, .wait] : List StepKind),
      let r := { factoryPlan with steps := [stepOf kind 0, stepOf .wait 7] };
      let s := planning r .running 0;
      s.held = false ∧ s.executor.state = .running ∧ s.executor.plan = some 3 ∧ s.executor.step = some 0 ∧
      s.cfg.plans[(3 : Fin 8)].steps[0]? = some (stepOf kind 0) ∧ (stepOf kind 0).kind = kind ∧
      s.cfg.plans[(3 : Fin 8)].steps[0 + 1]? = some (stepOf .wait 7) ∧
      s.cfg.plans[(3 : Fin 8)].startMode = .immediate) := by
  decide

/-- The premises of the filter's clauses: a level that comes, a filter that has run out, and one that runs. -/
theorem witness_EdgeByExecutorState_filter :
    (∀ (high : Bool) (since : Nat),
      let s := pinned { high := !high, since, filter := none } lowPins.reset [.level .planTrigger high];
      s.pending = [] ∧ FiltersOpen s ∧ s.arriving = .level .planTrigger high :: []) ∧
    (let s := pinned { high := true, since := 990, filter := some 1000 } lowPins.reset
        [.level .planTrigger false];
      s.pending = [] ∧ s.pins.trigger.filter = some 1000 ∧ s.pins.reset.filter = none ∧ 1000 ≤ s.now ∧
      ∀ input char others, s.arriving ≠ .char input char :: others) ∧
    (let s := pinned { high := true, since := 991, filter := some 1001 } lowPins.reset [.quiet 10];
      s.pins.trigger.filter = some 1001 ∧ s.now < 1001 ∧ s.arriving = .quiet (9 + 1) :: [] ∧
      spontaneous s = none) :=
  ⟨fun _ _ => ⟨rfl, filtersOpen _ rfl rfl, rfl⟩, ⟨rfl, rfl, rfl, by decide, nofun⟩, rfl, by decide, rfl,
    by decide +kernel⟩

theorem witness_AdoptionTimerEntersRun :
    adopting.held = false ∧ adopting.partState = .adopt ∧ adopting.adoptionTimer = some 3000 ∧
    (isUsed adopting 46 = true ∧ adopting.channels[(46 : Fin 48)].adopted = false ∧
      ∀ d : Chan, d < 46 → isUsed adopting d = true → adopting.channels[d].adopted = true) ∧
    (adopting.cfg.computers[(7 : Fin 8)].enabled = true ∧ adopting.contexts[(7 : Fin 8)].state = .lost) ∧
    adopting.cfg.computers[(6 : Fin 8)].enabled = false := by decide +kernel

/-- Bytes in time carry what they carry. -/
theorem prompt_map (bytes : List Byte) : (prompt bytes).map (·.2) = bytes := by
  simp [prompt, Function.comp_def]

theorem prompt_inTime (bytes : List Byte) : ∀ b ∈ (prompt bytes).tail, b.1 ≤ 20000 := by
  intro b h
  obtain ⟨x, -, rfl⟩ := List.mem_map.mp (List.mem_of_mem_tail h)
  exact (by decide : 90 ≤ 20000)

theorem witness_BytesReadBack :
    (tooLong.tail.length ≤ 250 ∧ (∀ b ∈ prompt [0, 0x5A], b.2 ≠ 0xA5) ∧ (∀ b ∈ prompt [0xA5], b.2 ≠ 0x5A)) ∧
    (∀ bytes : List Byte, (∀ b ∈ (prompt bytes).tail, b.1 ≤ 20000) ∧ (prompt bytes).map (·.2) = bytes) ∧
    ((prompt [0xA5, 0]).map (·.2) ++ (frameBytes 0x58 1 []).drop 2 = frameBytes 0x58 1 [] ∧
      prompt [0xA5, 0] ≠ [] ∧ (frameBytes 0x58 1 []).drop 2 ≠ [] ∧ 20000 < 20001) ∧
    (let pairs : List (Nat × Nat) := List.replicate 16 (255, 65535);
      1 ≤ pairs.length ∧ pairs.length ≤ 16 ∧ ∀ p ∈ pairs, p.1 ≤ 255 ∧ p.2 ≤ 65535) ∧
    65535 ≤ 65535 ∧ 255 ≤ 255 ∧
    (prompt [0x5A, 12]).map (·.2) ++ (recordBytes (byteOf 12) 0x04 400 1).drop 2 =
      recordBytes (byteOf 12) 0x04 400 1 ∧ (recordBytes (byteOf 12) 0x04 400 1).drop 2 ≠ [] :=
  ⟨by decide +kernel, fun _ => ⟨prompt_inTime _, prompt_map _⟩, by decide +kernel, by decide +kernel,
    by decide, by decide, by decide +kernel, by decide +kernel⟩

/-! ### A state that meets every invariant -/

theorem witness_StepKeepsWindowLaw : WindowLaw busy ∧ ∃ t, step busy = .next t := by
  refine ⟨⟨?_, fun b => ?_, ?_⟩, _, rfl⟩
  · unfold Dormant; decide
  · cases b <;> decide +kernel
  · decide

theorem witness_StepKeepsFailureLaw : FailureLaw busy ∧ ∃ t, step busy = .next t := by
  refine ⟨?_, _, rfl⟩
  unfold FailureLaw; decide

theorem witness_StepKeepsMaskLaw : MaskLaw busy ∧ ∃ t, step busy = .next t := by
  refine ⟨⟨?_, ?_, fun image h => ?_⟩, _, rfl⟩
  · unfold maskLawful; decide
  · unfold maskLawful; decide
  · cases h; unfold maskLawful; decide

theorem witness_StepKeepsCreditLaw : CreditLaw busy ∧ ∃ t, step busy = .next t := by
  refine ⟨?_, _, rfl⟩
  unfold CreditLaw; decide

theorem witness_StepKeepsContextLaw : ContextLaw busy ∧ ∃ t, step busy = .next t := by
  refine ⟨?_, _, rfl⟩
  unfold ContextLaw; decide

theorem witness_StepKeepsCapacityLaw : CapacityLaw busy ∧ ∃ t, step busy = .next t := by
  refine ⟨?_, _, rfl⟩
  unfold CapacityLaw; decide

/-- An unadopted record without demand or force is lawful. -/
theorem recordLawful_reset : recordLawful resetChannel := by
  simp [recordLawful, resetChannel]

/-- A channel that stands at its target is lawful. -/
theorem recordLawful_resting (d : Nat) (mode : ChannelMode) (h : d ≤ 1000) :
    recordLawful (resting d mode) := by
  simp [recordLawful, resting, resetChannel, h]

theorem busy_channels (c : Chan) :
    busy.channels[c] = resetChannel ∨ busy.channels[c] = resting 0 .fallback ∨
    busy.channels[c] = resting 560 .fallback ∨
    busy.channels[c] = { resting 400 .follow with demand := some 400 } ∨
    busy.channels[c] = { resting 200 .forced with forced := some 600, target := some 600 } := by
  revert c; decide +kernel

theorem witness_StepKeepsPlantLaw : PlantLaw busy ∧ ∃ t, step busy = .next t := by
  refine ⟨⟨?_, ?_, fun image h => ?_, fun c => ?_, by decide, ?_⟩, _, rfl⟩
  · unfold targetsLawful; decide +kernel
  · unfold targetsLawful; decide +kernel
  · cases h; unfold targetsLawful; decide +kernel
  · rcases busy_channels c with h | h | h | h | h <;> rw [h]
    · exact recordLawful_reset
    · exact recordLawful_resting 0 _ (by decide)
    · exact recordLawful_resting 560 _ (by decide)
    · simp [recordLawful, resting, resetChannel]
    · simp [recordLawful, resting, resetChannel]
  · intro e he
    obtain rfl : e = entry20 := by simpa [busy] using he
    exact ⟨by decide, by decide, 200, 600, by decide, by decide, by decide⟩

theorem witness_StepExpiryTakesFalls :
    busy.held = false ∧ busy.stepTimer = some 1100 ∧ risers busy ≠ [] ∧ PlantLaw busy ∧
    (∀ e ∈ busy.admission.queue, busy.channels[e.channel].driveFault = false) ∧ risers stopped = [] :=
  ⟨rfl, rfl, by decide +kernel, witness_StepKeepsPlantLaw.1, by decide, by decide +kernel⟩

end Sys2Proof.Tests
end

section
/-! SUPPORT. SET-BUDGET (R26, R28): how its payload is read, what it is answered, and what it leaves of
credit. -/

namespace Sys2Proof.Proofs

open Sys2Proof.Machine Sys2Proof.Safety Sys2Proof.Laws

/-- The row of SET-BUDGET is its meaning. -/
theorem exec_setBudget (tag : Byte) (payload : List Byte) (s : State) :
    exec (.setBudget tag payload) s = takeCommand { kind := 0x12, tag, payload } (setBudgetAnswer payload) s :=
  rfl

/-! ### The payload -/

/-- The payload of SET-BUDGET (R184). -/
abbrev budgetPayload (b : BudgetConfig) : List Byte := b2 b.bothCap ++ b2 b.singleCap ++ b2 b.refill

/-- The budget that six bytes spell (R184). -/
def readBudget (payload : List Byte) : BudgetConfig :=
  { bothCap := numberAt payload 0, singleCap := numberAt payload 2, refill := numberAt payload 4 }

theorem budgetRanges_iff (b : BudgetConfig) :
    budgetRanges b = true ↔
      b.bothCap ≤ 60000 ∧ b.singleCap ≤ 60000 ∧ b.refill ≤ 6000 ∧ b.singleCap ≤ b.bothCap := by
  simp [budgetRanges, and_assoc]

/-- A budget within its ranges fits its payload, which reads back. -/
theorem readBudget_budgetPayload (b : BudgetConfig) (h : budgetRanges b = true) :
    readBudget (budgetPayload b) = b := by
  obtain ⟨both, single, refill, -⟩ := (budgetRanges_iff b).mp h
  calc readBudget (budgetPayload b)
    _ = { bothCap := word (byteOf (b.bothCap / 256)) (byteOf b.bothCap)
          singleCap := word (byteOf (b.singleCap / 256)) (byteOf b.singleCap)
          refill := word (byteOf (b.refill / 256)) (byteOf b.refill) } := rfl
    _ = b := by
      rw [word_wordBytes _ (by omega), word_wordBytes _ (by omega), word_wordBytes _ (by omega)]

/-- The budget of a payload is out of its ranges where one of its numbers is, or where the single-feed cap
is above the both-feeds cap (R26). -/
theorem budgetRanges_readBudget_eq_false_iff (payload : List Byte) :
    budgetRanges (readBudget payload) = false ↔
      60000 < numberAt payload 0 ∨ 60000 < numberAt payload 2 ∨ 6000 < numberAt payload 4 ∨
        numberAt payload 0 < numberAt payload 2 := by
  rw [← Bool.not_eq_true, budgetRanges_iff]
  simp only [readBudget]
  omega

/-! ### The answer -/

/-- Six bytes pass the check of the length, and the budget they spell is judged. -/
theorem setBudgetAnswer_of_length (payload : List Byte) (s : State) (h : payload.length = 6) :
    setBudgetAnswer payload s = asConfiguration s
      (if budgetRanges (readBudget payload) then accept (applyBudget (readBudget payload))
        else refuse .outOfRange) := by
  match payload, h with
  | [_, _, _, _, _, _], _ => rfl

/-- A budget within its ranges is accepted where a configuration command can take effect. -/
theorem setBudgetAnswer_accepts (b : BudgetConfig) (s : State) (ranges : budgetRanges b = true)
    (conf : Configurable s) : setBudgetAnswer (budgetPayload b) s = accept (applyBudget b) := by
  rw [setBudgetAnswer_of_length _ _ rfl, asConfiguration_open _ _ conf, readBudget_budgetPayload b ranges,
    if_pos ranges]

/-- A budget out of its ranges is refused there. -/
theorem setBudgetAnswer_refuses (payload : List Byte) (s : State) (length : payload.length = 6)
    (ranges : budgetRanges (readBudget payload) = false) (conf : Configurable s) :
    setBudgetAnswer payload s = refuse .outOfRange := by
  rw [setBudgetAnswer_of_length _ _ length, asConfiguration_open _ _ conf, ranges]
  rfl

/-! ### The effect (R28) -/

theorem applyBudget_unconfigured (b : BudgetConfig) (s : State) (h : s.partState = .unconfigured) :
    applyBudget b s =
      { s with cfg := { s.cfg with budget := b }, admission := { s.admission with credit := b.bothCap } } := by
  simp [applyBudget, h]

/-- In RUN the cap that clamps credit is already the new one. -/
theorem applyBudget_run (b : BudgetConfig) (s : State) (h : s.partState = .run) :
    applyBudget b s =
      { s with
        cfg := { s.cfg with budget := b }
        admission := { s.admission with
          credit := min s.admission.credit
            (match s.admission.feed with | .both => b.bothCap | .single => b.singleCap) } } := by
  simp only [applyBudget, h]
  rfl

/-! ### The command -/

/-- An accepted SET-BUDGET is answered OK, then has its effect. -/
theorem exec_setBudget_accepted (tag : Byte) (b : BudgetConfig) (s : State) (ranges : budgetRanges b = true)
    (taken : Taken 0x12 tag (budgetPayload b) s) (conf : Configurable s) :
    exec (.setBudget tag (budgetPayload b)) s = .next (applyBudget b (repliedOk 0x12 tag s)) :=
  takeCommand_accepted _ _ _ _ _ _ taken (setBudgetAnswer_accepts b (leaveQueue s) ranges conf)

/-- Settles O10: the command is taken with its reply, and the effect on the replied state is R28's in either
part state; a budget that fails R26's ranges is answered OUT_OF_RANGE and has no effect. -/
theorem setBudgetSetsCredit : Obligations.SetBudgetSetsCredit := by
  refine ⟨fun tag b s ranges taken => ⟨fun unconfigured => ?_, fun run => ?_⟩,
    fun tag payload s length conf taken out => ?_⟩
  · rw [exec_setBudget_accepted tag b s ranges taken (.inl unconfigured),
      applyBudget_unconfigured b (repliedOk 0x12 tag s) unconfigured]
    rfl
  · rw [exec_setBudget_accepted tag b s ranges taken (.inr run),
      applyBudget_run b (repliedOk 0x12 tag s) run]
    rfl
  · have ranges := (budgetRanges_readBudget_eq_false_iff payload).mpr out
    rw [exec_setBudget]
    exact takeCommand_refused _ _ _ _ _ _ taken
      (setBudgetAnswer_refuses payload (leaveQueue s) length ranges conf)

end Sys2Proof.Proofs
end

section
/-! SUPPORT. LUMINANCE (R52, R53): what an accepted reading does to the daylight block, the highest stage
that a luminance reaches, and the stage that a reading selects. -/

namespace Sys2Proof.Proofs

open Sys2Proof.Machine Sys2Proof.Safety Sys2Proof.Laws

/-! ### The command (R52) -/

/-- The row of LUMINANCE is its meaning. -/
theorem exec_luminance (tag : Byte) (payload : List Byte) (s : State) :
    exec (.luminance tag payload) s = takeCommand { kind := 0x39, tag, payload } (luminanceAnswer payload) s :=
  rfl

/-- In RUN a LUMINANCE is answered OK, then its reading is taken. -/
theorem exec_luminance_accepted (tag hi lo : Byte) (s : State) (run : s.partState = .run)
    (taken : Taken 0x39 tag [hi, lo] s) :
    exec (.luminance tag [hi, lo]) s = .next (takeReading (word hi lo) (repliedOk 0x39 tag s)) := by
  rw [exec_luminance]
  exact takeCommand_accepted _ _ _ _ _ _ taken (asOrder_run (leaveQueue s) _ run)

/-- Deriving the channels that follow the table leaves the daylight block as the reading set it. -/
theorem takeReading_daylight (value : Nat) (s : State) :
    (takeReading value s).daylight =
      { stage := selectStage s.cfg.daylight (min value 65000) s.daylight.stage
        luminance := some (min value 65000), readAt := some s.now
        ageTimer := some (s.now + 60000), stale := false } := by
  unfold takeReading
  dsimp only
  split
  case isTrue same => rfl
  case isFalse changed => exact (deriveDaylight_plant _).daylight

/-! ### The highest stage reached -/

/-- The luminance reaches stage `k` of the table: the stage exists and its threshold is not above. -/
def Reaches (stages : List Stage) (luminance k : Nat) : Prop :=
  ∃ st, stages[k]? = some st ∧ st.threshold ≤ luminance

theorem mem_reachedNumbers_iff (stages : List Stage) (luminance k : Nat) :
    k ∈ (stages.zipIdx.filter fun p => p.1.threshold ≤ luminance).map (·.2) ↔
      Reaches stages luminance k := by
  simp [Reaches, List.mem_zipIdx_iff_getElem?]

/-- The fold of `highestStage` takes the maximum of the reached stage numbers and 0. -/
theorem max?_reachedNumbers (stages : List Stage) (luminance : Nat) :
    (0 :: (stages.zipIdx.filter fun p => p.1.threshold ≤ luminance).map (·.2)).max? =
      some (highestStage stages luminance) := by
  rw [List.max?_cons', List.foldl_map, highestStage]

/-- Where stage 0 is reached, the highest stage is reached. -/
theorem reaches_highestStage (stages : List Stage) (luminance : Nat) (first : Reaches stages luminance 0) :
    Reaches stages luminance (highestStage stages luminance) := by
  have mem := (List.max?_eq_some_iff.mp (max?_reachedNumbers stages luminance)).1
  rcases List.mem_cons.mp mem with zero | reached
  · rwa [zero]
  · exact (mem_reachedNumbers_iff stages luminance _).mp reached

theorem Reaches.le_highestStage {stages : List Stage} {luminance k : Nat} (h : Reaches stages luminance k) :
    k ≤ highestStage stages luminance :=
  (List.max?_eq_some_iff.mp (max?_reachedNumbers stages luminance)).2 k
    (List.mem_cons_of_mem 0 ((mem_reachedNumbers_iff stages luminance k).mpr h))

/-- A stage above the highest one has its threshold above the luminance. -/
theorem threshold_above_highestStage {stages : List Stage} {luminance : Nat} (j : Nat) (st : Stage)
    (above : highestStage stages luminance < j) (found : stages[j]? = some st) : luminance < st.threshold := by
  refine Nat.lt_of_not_le fun reached => ?_
  exact Nat.not_lt_of_le (Reaches.le_highestStage ⟨st, found, reached⟩) above

/-- Every luminance reaches stage 0 of a lawful table, whose threshold is 0 (R49). -/
theorem reaches_zero_of_daylightRanges (d : DaylightConfig) (luminance : Nat)
    (ranges : daylightRanges d = true) : Reaches d.stages luminance 0 := by
  have first : d.stages.head?.map (·.threshold) = some 0 := by
    simp only [daylightRanges, Bool.and_eq_true, beq_iff_eq] at ranges
    obtain ⟨⟨⟨⟨⟨-, first⟩, -⟩, -⟩, -⟩, -⟩ := ranges
    exact first
  obtain ⟨st, head, zero⟩ := Option.map_eq_some_iff.mp first
  exact ⟨st, List.head?_eq_getElem?.symm.trans head, zero ▸ Nat.zero_le luminance⟩

/-! ### The stage selected (R53) -/

theorem selectStage_rise (d : DaylightConfig) (luminance stage : Nat)
    (h : stage < highestStage d.stages luminance) :
    selectStage d luminance stage = highestStage d.stages luminance := by
  simp [selectStage, h]

/-- A falling reading takes the stage to the highest one within the hysteresis, where that is lower. -/
theorem selectStage_fall (d : DaylightConfig) (luminance stage : Nat)
    (h : highestStage d.stages luminance < stage) :
    selectStage d luminance stage =
      if highestStage d.stages (luminance + d.hysteresis) < stage
      then highestStage d.stages (luminance + d.hysteresis) else stage := by
  simp only [selectStage, h, Nat.lt_asymm h, if_true, if_false]
  split <;> omega

theorem selectStage_stay (d : DaylightConfig) (luminance stage : Nat)
    (h : highestStage d.stages luminance = stage) : selectStage d luminance stage = stage := by
  simp [selectStage, h]

/-- Settles O25: `u` is the highest stage that the clamped reading reaches, `d` the highest that it reaches with
the hysteresis added; both exist because stage 0 of a lawful table is always reached, and the three cases of
R53 are those of `selectStage`. -/
theorem luminanceSelectsStage : Obligations.LuminanceSelectsStage := by
  intro tag hi lo s run ranges _ taken
  have reaches_zero := fun luminance => reaches_zero_of_daylightRanges s.cfg.daylight luminance ranges
  have selected : (takeReading (word hi lo) (repliedOk 0x39 tag s)).daylight.stage =
      selectStage s.cfg.daylight (min (word hi lo) 65000) s.daylight.stage := by
    rw [takeReading_daylight]
    rfl
  refine ⟨_, highestStage s.cfg.daylight.stages (min (word hi lo) 65000),
    highestStage s.cfg.daylight.stages (min (word hi lo) 65000 + s.cfg.daylight.hysteresis),
    exec_luminance_accepted tag hi lo s run taken,
    reaches_highestStage _ _ (reaches_zero _), threshold_above_highestStage,
    reaches_highestStage _ _ (reaches_zero _), threshold_above_highestStage, ?_⟩
  rw [selected]
  exact ⟨selectStage_rise _ _ _, selectStage_fall _ _ _, selectStage_stay _ _ _⟩

end Sys2Proof.Proofs
end

section
/-! SUPPORT. Requests that join a waiting entry (R112): when a slot waits, what a request for it does to the
restart window unit, and what the joined entry becomes for each source it had. -/

namespace Sys2Proof.Proofs

open Sys2Proof.Machine Sys2Proof.Safety Sys2Proof.Laws

/-! ### The list -/

theorem isWaiting_iff (s : State) (k : Slot) :
    isWaiting s k = true ↔ ∃ e ∈ s.window.waitList, e.slot = k := by
  simp [isWaiting]

/-- Row 2 of R110: the request joins the slot's entry where it stands. -/
theorem takeRequest_waiting (r : Requester) (k : Slot) (s : State) (idle : s.contexts[k].inProgress = false)
    (waits : isWaiting s k = true) :
    takeRequest r k s =
      setWaitList (s.window.waitList.map fun e => if e.slot = k then joinEntry r e else e) s := by
  simp only [takeRequest, requestRow_waiting k s idle waits, beq_iff_eq]

/-! ### The entry, by the source it had -/

/-- A RECOVERY entry takes the source of a higher request and keeps the recovery in its mark. -/
theorem joinEntry_of_recovery (e : WaitEntry) (p : PlanNo) (h : e.source = .recovery) :
    joinEntry .supervisor e = { e with source := .supervisor, plan := none, mark := true } ∧
    joinEntry (.plan p) e = { e with source := .plan, plan := some p, mark := true } ∧
    joinEntry .recovery e = e := by
  simp only [joinEntry, h, and_self]

/-- A PLAN entry stays one under a later plan, whose number it takes, and under a RECOVERY request. -/
theorem joinEntry_of_plan (e : WaitEntry) (p : PlanNo) (h : e.source = .plan) :
    joinEntry .supervisor e = { e with source := .supervisor, plan := none } ∧
    joinEntry (.plan p) e = { e with plan := some p } ∧
    joinEntry .recovery e = { e with mark := true } := by
  simp only [joinEntry, h, and_self]

/-- No request outranks a SUPERVISOR entry; a RECOVERY request leaves its mark. -/
theorem joinEntry_of_supervisor (e : WaitEntry) (p : PlanNo) (h : e.source = .supervisor) :
    joinEntry .supervisor e = e ∧ joinEntry (.plan p) e = e ∧
    joinEntry .recovery e = { e with mark := true } := by
  simp only [joinEntry, h, and_self]

/-- Settles O19: the request takes row 2 of R110, which writes the wait list alone, and the entry is raised by
the cell of R112's table for its source and the request. -/
theorem joinedEntryIsRaised : Obligations.JoinedEntryIsRaised :=
  ⟨fun r k s idle waits => takeRequest_waiting r k s idle ((isWaiting_iff s k).mpr waits),
    fun e p => ⟨joinEntry_of_recovery e p, joinEntry_of_plan e p, joinEntry_of_supervisor e p⟩⟩

end Sys2Proof.Proofs
end

section
/-! SUPPORT. The event unit's commands (R167 to R171): how a mask and a counter source are read, what
SET-EVENT-MASK and SET-COUNTER-SOURCE set, and what the reads clear after their reply. -/

namespace Sys2Proof.Proofs

open Sys2Proof.Machine Sys2Proof.Safety Sys2Proof.Laws

/-! ### SET-EVENT-MASK (R167) -/

/-- The row of SET-EVENT-MASK is its meaning. -/
theorem exec_setEventMask (tag : Byte) (payload : List Byte) (s : State) :
    exec (.setEventMask tag payload) s =
      takeCommand { kind := 0x16, tag, payload } (setEventMaskAnswer payload) s :=
  rfl

/-- Two bytes pass the check of the length, and the mask they spell is set. -/
theorem setEventMaskAnswer_two (hi lo : Byte) (s : State) :
    setEventMaskAnswer [hi, lo] s =
      asConfiguration s (accept fun t => { t with cfg := { t.cfg with mask := readMask hi lo } }) :=
  rfl

/-- The flags of the kinds that cannot be masked are taken as clear; every other flag is its bit. -/
theorem readMask_getElem (hi lo : Byte) (i : Fin 16) :
    (readMask hi lo)[i] =
      if i = 3 ∨ i = 11 ∨ i = 15 then false else (hi.toNat * 256 + lo.toNat).testBit i.val := by
  have flag : (readMask hi lo)[i] =
      ((word hi lo).testBit i.val && !(i.val == 3 || i.val == 11 || i.val == 15)) := by
    simp [readMask]
  rw [flag]
  by_cases always : i = 3 ∨ i = 11 ∨ i = 15
  · rw [if_pos always]
    rcases always with rfl | rfl | rfl <;> exact Bool.and_false _
  · rw [if_neg always]
    simp_all [word, Fin.ext_iff]

/-! ### SET-COUNTER-SOURCE (R169, R170) -/

/-- The row of SET-COUNTER-SOURCE is its meaning. -/
theorem exec_setCounterSource (tag : Byte) (payload : List Byte) (s : State) :
    exec (.setCounterSource tag payload) s =
      takeCommand { kind := 0x17, tag, payload } (setCounterSourceAnswer payload) s :=
  rfl

/-- A code from 0 to 9 names the source that has it. -/
theorem readCounterSource_of_le (b : Byte) (h : b.toNat ≤ 9) :
    ∃ source, readCounterSource b = some source ∧ counterSourceCode source = b.toNat := by
  unfold readCounterSource
  interval_cases b.toNat <;> exact ⟨_, rfl, rfl⟩

theorem readCounterSource_above (b : Byte) (h : 9 < b.toNat) : readCounterSource b = none := by
  unfold readCounterSource
  split
  case h_11 => rfl
  all_goals omega

/-- A code that names a source is accepted where a configuration command can take effect. -/
theorem setCounterSourceAnswer_accepts (b : Byte) (source : CounterSource) (s : State) (conf : Configurable s)
    (named : readCounterSource b = some source) :
    setCounterSourceAnswer [b] s =
      accept fun t => { t with cfg := { t.cfg with counterSource := source }, counter := 0 } := by
  simp only [setCounterSourceAnswer, asConfiguration_open s _ conf, named]

/-- A code that names none is refused there. -/
theorem setCounterSourceAnswer_refuses (b : Byte) (s : State) (conf : Configurable s)
    (unnamed : readCounterSource b = none) : setCounterSourceAnswer [b] s = refuse .outOfRange := by
  simp only [setCounterSourceAnswer, asConfiguration_open s _ conf, unnamed]

/-- Settles O14: both are configuration commands, so the part state decides whether the answer is reached
(R161); the mask set is the one the two bytes spell, and a code names a source exactly up to 9. -/
theorem eventUnitSettings : Obligations.EventUnitSettings := by
  refine ⟨fun tag hi lo s conf taken => ⟨readMask hi lo, ?_, readMask_getElem hi lo⟩,
    fun tag hi lo s adopt taken => ?_, fun tag b s conf taken => ⟨fun source named => ?_, fun above => ?_,
    readCounterSource_of_le b⟩⟩
  · rw [exec_setEventMask]
    exact takeCommand_accepted _ _ _ _ _ _ taken
      ((setEventMaskAnswer_two hi lo (leaveQueue s)).trans (asConfiguration_open (leaveQueue s) _ conf))
  · rw [exec_setEventMask]
    exact takeCommand_refused _ _ _ _ _ _ taken
      ((setEventMaskAnswer_two hi lo (leaveQueue s)).trans (asConfiguration_adopt (leaveQueue s) _ adopt))
  · rw [exec_setCounterSource]
    exact takeCommand_accepted _ _ _ _ _ _ taken
      (setCounterSourceAnswer_accepts b source (leaveQueue s) conf named)
  · rw [exec_setCounterSource]
    exact takeCommand_refused _ _ _ _ _ _ taken
      (setCounterSourceAnswer_refuses b (leaveQueue s) conf (readCounterSource_above b above))

/-! ### Queries without a payload (R168, R170, R171) -/

/-- A query that the port takes is answered OK with its data, and then clears what it clears. -/
theorem takeCommand_answered (kind tag : Byte) (answer : State → Answer) (data : List Byte)
    (clear : State → State) (s : State) (taken : Taken kind tag [] s)
    (a : answer (leaveQueue s) = answerData data clear) :
    takeCommand { kind, tag, payload := [] } answer s =
      .next (clear (replied kind tag .ok .absent data s)) := by
  rw [takeCommand_taken _ _ _ _ _ taken, a]
  rfl

/-- READ-EVENTS answers with the set as it stood, then clears it. -/
theorem exec_readEvents_taken (tag : Byte) (s : State) (taken : Taken 0x56 tag [] s) :
    exec (.readEvents tag []) s = .next (clearSet (replied 0x56 tag .ok .absent (eventsData s) s)) :=
  takeCommand_answered _ _ (readEventsAnswer []) _ _ _ taken rfl

/-- READ-COUNTER answers with the counter as it stood, then sets it to 0. -/
theorem exec_readCounter_taken (tag : Byte) (s : State) (taken : Taken 0x57 tag [] s) :
    exec (.readCounter tag []) s = .next (zeroCounter (replied 0x57 tag .ok .absent (counterData s) s)) :=
  takeCommand_answered _ _ (readCounterAnswer []) _ _ _ taken rfl

/-- IDENTIFY answers and clears nothing. -/
theorem exec_identify_taken (tag : Byte) (s : State) (taken : Taken 0x58 tag [] s) :
    exec (.identify tag []) s = .next (replied 0x58 tag .ok .absent (identifyData s) s) :=
  takeCommand_answered _ _ (identifyAnswer []) _ id _ taken rfl

/-- A cleared set has no kind latched and no last item. -/
theorem clearSet_events_getElem (s : State) (i : Fin 16) :
    (clearSet s).events[i] = { latched := false, item := none } := by
  simp [clearSet, clearEvents]

/-- Settles O30: each of the three is a query whose reply is placed before its effect, so the data are those of
the state before it; only the effect differs, and IDENTIFY has none. -/
theorem readsClearAfterReply : Obligations.ReadsClearAfterReply := by
  refine fun tag s => ⟨fun taken => ?_, fun taken => ?_, fun taken => ?_⟩
  · exact ⟨_, exec_readEvents_taken tag s taken, rfl, clearSet_events_getElem _⟩
  · exact exec_readCounter_taken tag s taken
  · exact exec_identify_taken tag s taken

end Sys2Proof.Proofs
end


section
/-! SUPPORT. The plant law (R2, R31, R38): what its records and entries are at each operation of the channel
table and the admission unit. -/

namespace Sys2Proof.Proofs

open Sys2Proof.Machine Sys2Proof.Safety Sys2Proof.Laws

/-! ### Records and entries -/

/-- An admission queue with one lawful entry at most for a channel. -/
def EntriesFit (s : State) (q : List AdmissionEntry) : Prop :=
  (q.map (·.channel)).Nodup ∧ ∀ e ∈ q, entryLawful s e

/-- The part of the plant law that the channel table and the admission unit can move. -/
def ChannelsFit (s : State) : Prop :=
  (∀ c : Chan, recordLawful s.channels[c]) ∧ EntriesFit s s.admission.queue

/-- The part of the plant law that the configuration and the store hold. -/
def TargetsFit (s : State) : Prop :=
  targetsLawful s.cfg ∧ targetsLawful s.store.image.config ∧
  ∀ image, s.store.writing = some image → targetsLawful image.config

theorem plantLaw_iff (s : State) : PlantLaw s ↔ TargetsFit s ∧ ChannelsFit s := by
  simp only [PlantLaw, TargetsFit, ChannelsFit, EntriesFit, and_assoc]

theorem targetsFit_of_moves {s t : State} (h : ComputerMoves s t) (fit : TargetsFit s) : TargetsFit t := by
  unfold TargetsFit
  rw [h.cfg, h.store]
  exact fit

/-- An entry is lawful by its own channel's record alone. -/
theorem entryLawful_congr {s t : State} {e : AdmissionEntry}
    (same : t.channels[e.channel] = s.channels[e.channel]) (h : entryLawful s e) : entryLawful t e := by
  unfold entryLawful
  rw [same]
  exact h

/-- A change that leaves adopted flag, driven value and target of every channel leaves lawful entries lawful. -/
theorem entryLawful_of_values {s t : State} {e : AdmissionEntry}
    (adopted : t.channels[e.channel].adopted = s.channels[e.channel].adopted)
    (driven : t.channels[e.channel].driven = s.channels[e.channel].driven)
    (target : t.channels[e.channel].target = s.channels[e.channel].target) (h : entryLawful s e) :
    entryLawful t e := by
  unfold entryLawful
  rw [adopted, driven, target]
  exact h

theorem nodup_of_sublist {α β : Type} {f : α → β} {l m : List α} (h : (m.map f).Nodup) (sub : l.Sublist m) :
    (l.map f).Nodup := h.sublist (sub.map f)

/-- What a channel's record holds before its mode and target are derived. -/
def RecordReady (ch : ChannelRun) : Prop :=
  (∀ m, ch.demand = some m → m ≤ 1000) ∧ (∀ f, ch.forced = some f → f ≤ 1000) ∧
  (ch.adopted = true → ∃ d, ch.driven = some d ∧ d ≤ 1000) ∧ (ch.adopted = false → ch.driven = none)

theorem recordReady_of_lawful {ch : ChannelRun} (h : recordLawful ch) : RecordReady ch := by
  obtain ⟨demand, forced, adopted, unadopted⟩ := h
  refine ⟨demand, forced, fun a => ?_, fun a => (unadopted a).1⟩
  obtain ⟨d, t, hd, -, le, -⟩ := adopted a
  exact ⟨d, hd, le⟩

/-! ### Modes and targets (R4, R5, R47) -/

theorem ownerMode_ne (x : Context) : ownerMode x ≠ .unadopted ∧ ownerMode x ≠ .forced := by
  unfold ownerMode
  split <;> try split
  all_goals exact ⟨by decide, by decide⟩

theorem modeOf_unadopted (s : State) (c : Chan) (h : s.channels[c].adopted = false) :
    modeOf s c = .unadopted := by
  unfold modeOf
  rw [if_neg (by rw [h]; decide)]

theorem modeOf_ne_unadopted (s : State) (c : Chan) (h : s.channels[c].adopted = true) :
    modeOf s c ≠ .unadopted := by
  unfold modeOf
  rw [if_pos h]
  split
  · decide
  · split
    · decide
    · exact (ownerMode_ne _).1

/-- A channel in mode FORCED has a forced value. -/
theorem forced_of_modeOf (s : State) (c : Chan) (h : modeOf s c = .forced) :
    s.channels[c].forced.isSome = true := by
  by_contra off
  unfold modeOf at h
  rw [if_neg off] at h
  split at h
  · split at h
    · exact nomatch h
    · exact (ownerMode_ne _).2 h
  · exact nomatch h

theorem stageLevel_le (s : State) (h : targetsLawful s.cfg) : stageLevel s ≤ 1000 := by
  unfold stageLevel
  cases found : s.cfg.daylight.stages[s.daylight.stage]? with
  | none => simp
  | some st => simpa using h.2 st (List.mem_of_getElem? found)

/-- The derived target of an adopted channel lies between 0 and 1000, where a frozen one did before. -/
theorem targetOf_le (s : State) (c : Chan) (was : Option ChannelMode) (cfg : targetsLawful s.cfg)
    (ready : RecordReady s.channels[c]) (adopted : s.channels[c].adopted = true)
    (frozen : was ≠ none → ∃ t, s.channels[c].target = some t ∧ t ≤ 1000) :
    ∃ t, targetOf s c (modeOf s c) was = some t ∧ t ≤ 1000 := by
  obtain ⟨demand, forced, driven, -⟩ := ready
  obtain ⟨d, hd, le⟩ := driven adopted
  have followed : ∃ t, some (s.channels[c].demand.getD (s.channels[c].driven.getD 0)) = some t ∧ t ≤ 1000 := by
    refine ⟨_, rfl, ?_⟩
    cases m : s.channels[c].demand with
    | none => rw [hd]; exact le
    | some m' => exact demand m' m
  have stays : ∀ m, ∃ t, frozenTarget was m s.channels[c] = some t ∧ t ≤ 1000 := fun m => by
    unfold frozenTarget
    split
    · next e => exact frozen (by simp [e])
    · exact ⟨_, rfl, by rw [hd]; exact le⟩
  have mode := modeOf_ne_unadopted s c adopted
  unfold targetOf
  dsimp only
  split
  case h_1 e => exact absurd e mode
  case h_2 e =>
    obtain ⟨f, hf⟩ := Option.isSome_iff_exists.mp (forced_of_modeOf s c e)
    exact ⟨f, hf, forced f hf⟩
  case h_3 => exact followed
  case h_4 => exact followed
  case h_5 => exact stays _
  case h_6 =>
    split
    · exact stays _
    · exact ⟨_, rfl, (cfg.1 c).1⟩
    · refine ⟨_, rfl, Nat.div_le_of_le_mul ?_⟩
      exact Nat.mul_le_mul (stageLevel_le s cfg) (cfg.1 c).2

/-! ### Grants and servings (R36 to R38) -/

theorem grantSize_le (s : State) (c : Chan) (w : Nat) : grantSize s c w ≤ w := by
  unfold grantSize
  split
  · exact Nat.le_refl w
  · exact Nat.min_le_left _ _

theorem applyGrant_get (c d : Chan) (g : Nat) (s : State) :
    (applyGrant c g s).channels[d] = if d = c then
      { s.channels[d] with
        driven := some (s.channels[d].driven.getD 0 + g)
        startConfirm := if s.channels[d].driven.getD 0 = 0 then some (s.now + Config.startConfirmTime)
          else s.channels[d].startConfirm }
    else s.channels[d] := by
  unfold applyGrant
  dsimp only
  rw [queueSet_channels, updChannel_get]
  by_cases h : d = c
  · subst h; simp
  · simp [h]

theorem recordLawful_applyGrant (c : Chan) (g : Nat) (s : State) (d t : Nat)
    (hd : s.channels[c].driven = some d) (ht : s.channels[c].target = some t) (le : d + g ≤ t)
    (adopted : s.channels[c].adopted = true) (h : ∀ j : Chan, recordLawful s.channels[j]) (j : Chan) :
    recordLawful (applyGrant c g s).channels[j] := by
  rw [applyGrant_get]
  split
  case isFalse => exact h j
  case isTrue e =>
    subst e
    obtain ⟨demand, forced, range, -⟩ := h j
    obtain ⟨d', t', -, ht', -, tle⟩ := range adopted
    have : t' = t := Option.some.inj (ht'.symm.trans ht)
    exact ⟨demand, forced, fun _ => ⟨d + g, t, by simp only [hd, Option.getD_some], ht, by omega, by omega⟩,
      fun off => nomatch adopted.symm.trans off⟩

/-- A grant leaves the entries of other channels lawful. -/
theorem entryLawful_applyGrant_other (c : Chan) (g : Nat) (s : State) (e : AdmissionEntry)
    (other : e.channel ≠ c) (h : entryLawful s e) : entryLawful (applyGrant c g s) e :=
  entryLawful_congr (by rw [applyGrant_get, if_neg other]) h

/-- A serving keeps every record in its ranges, and the entries that it leaves lawful. -/
theorem serveQueue_fits : ∀ (q : List AdmissionEntry) (s : State),
    (∀ c : Chan, recordLawful s.channels[c]) → EntriesFit s q → ChannelsFit (serveQueue q s)
  | [], s, records, _ => ⟨records, List.nodup_nil, fun e he => by simp [serveQueue, setQueue] at he⟩
  | e :: rest, s, records, ⟨nodup, lawful⟩ => by
    obtain ⟨fresh, nodupRest⟩ := List.nodup_cons.mp nodup
    obtain ⟨adopted, pos, d, t, hd, ht, le⟩ := lawful e (by simp)
    have small := grantSize_le s e.channel e.wanted
    have granted := recordLawful_applyGrant e.channel (grantSize s e.channel e.wanted) s d t hd ht
      (by omega) adopted records
    have others : ∀ x ∈ rest, entryLawful (applyGrant e.channel (grantSize s e.channel e.wanted) s) x :=
      fun x hx => entryLawful_applyGrant_other _ _ s x
        (fun same => fresh (List.mem_map.mpr ⟨x, hx, same⟩)) (lawful x (by simp [hx]))
    unfold serveQueue
    split
    case isFalse => exact ⟨records, nodup, lawful⟩
    case isTrue =>
      dsimp only
      split
      case isTrue => exact serveQueue_fits rest _ granted ⟨nodupRest, others⟩
      case isFalse part =>
        rw [count_eq]
        refine ⟨granted, nodup, fun x hx => ?_⟩
        rcases List.mem_cons.mp hx with rfl | hx
        · refine ⟨?_, ?_, d + grantSize s e.channel e.wanted, t, ?_, ?_, ?_⟩
          all_goals simp only [setQueue, applyGrant_get, if_true, adopted, hd, ht, Option.getD_some]
          all_goals omega
        · exact others x hx

theorem serve_fits (s : State) (h : ChannelsFit s) : ChannelsFit (serve s) :=
  serveQueue_fits _ s h.1 h.2

/-! ### Following a target (R6) -/

theorem setQueue_fits (q : List AdmissionEntry) (s : State) (records : ∀ c : Chan, recordLawful s.channels[c])
    (h : EntriesFit s q) : ChannelsFit (setQueue q s) := ⟨records, h⟩

theorem nodup_overwritten {α β : Type} {g : α → β} (q : List α) (f : α → α) (same : ∀ e, g (f e) = g e)
    (h : (q.map g).Nodup) : ((q.map f).map g).Nodup := by
  simpa [Function.comp_def, same] using h

/-- Two entries of a queue with one for a channel are the same where their channels are. -/
theorem eq_of_channel {q : List AdmissionEntry} (h : (q.map (·.channel)).Nodup) {e x : AdmissionEntry}
    (he : e ∈ q) (hx : x ∈ q) (same : e.channel = x.channel) : e = x :=
  List.inj_on_of_nodup_map h he hx same

theorem entryOf_some {s : State} {c : Chan} {e : AdmissionEntry} (h : entryOf s c = some e) :
    e ∈ s.admission.queue ∧ e.channel = c :=
  ⟨List.mem_of_find?_eq_some h, by simpa using List.find?_some h⟩

/-- What following a new target finds: lawful records, and entries that are lawful but for the channel's own,
which still wants at least 1 pm. -/
structure FollowReady (c : Chan) (s : State) : Prop where
  records : ∀ j : Chan, recordLawful s.channels[j]
  nodup : (s.admission.queue.map (·.channel)).Nodup
  others : ∀ e ∈ s.admission.queue, e.channel ≠ c → entryLawful s e
  own : ∀ e ∈ s.admission.queue, e.channel = c → 1 ≤ e.wanted

theorem withdraw_fits (c : Chan) (s : State) (h : FollowReady c s) : ChannelsFit (withdraw c s) := by
  refine setQueue_fits _ s h.records ⟨nodup_of_sublist h.nodup List.filter_sublist, fun e he => ?_⟩
  obtain ⟨mem, other⟩ := List.mem_filter.mp he
  exact h.others e mem (by simpa using other)

theorem followTarget_fits (c : Chan) (s : State) (h : FollowReady c s) : ChannelsFit (followTarget c s) := by
  unfold followTarget
  split
  case h_1 => exact withdraw_fits c s h
  case h_2 t ht =>
    dsimp only
    split
    case isTrue => exact withdraw_fits c s h
    case isFalse below =>
      have adopted : s.channels[c].adopted = true := by
        by_contra off
        have unset := ((h.records c).2.2.2 (by simpa only [Bool.not_eq_true] using off)).2.1
        exact nomatch unset.symm.trans ht
      obtain ⟨d, t', hd, ht', -, -⟩ := (h.records c).2.2.1 adopted
      obtain rfl : t' = t := Option.some.inj (ht'.symm.trans ht)
      simp only [hd, Option.getD_some] at below ⊢
      split
      case h_1 e found =>
        obtain ⟨mem, own⟩ := entryOf_some found
        split
        case isTrue lower =>
          refine serve_fits _ (setQueue_fits _ s h.records
            ⟨nodup_overwritten _ _ (fun x => by split <;> rfl) h.nodup, fun x hx => ?_⟩)
          obtain ⟨y, hy, rfl⟩ := List.mem_map.mp hx
          by_cases same : y.channel = c
          · simp only [same, beq_self_eq_true, if_true]
            refine ⟨by simpa [same] using adopted, ?_, d, t', by simpa [same] using hd,
              by simpa [same] using ht, ?_⟩ <;> dsimp only <;> omega
          · simp only [beq_iff_eq, same, if_false]
            exact h.others y hy same
        case isFalse keep =>
          refine ⟨h.records, h.nodup, fun x hx => ?_⟩
          by_cases same : x.channel = c
          · obtain rfl := eq_of_channel h.nodup hx mem (same.trans own.symm)
            subst same
            exact ⟨adopted, h.own x hx rfl, d, t', hd, ht, by omega⟩
          · exact h.others x hx same
      case h_2 none =>
        refine ⟨h.records, h.nodup, fun x hx => h.others x hx fun same => ?_⟩
        have := List.find?_eq_none.mp none x hx
        simp [same] at this

/-- What a derivation finds: a record that is ready, with a target where it is frozen, among lawful records,
and entries that are lawful but for the channel's own. -/
structure DeriveReady (was : Option ChannelMode) (c : Chan) (s : State) : Prop where
  cfg : targetsLawful s.cfg
  ready : RecordReady s.channels[c]
  frozen : s.channels[c].adopted = true → was ≠ none → ∃ t, s.channels[c].target = some t ∧ t ≤ 1000
  records : ∀ j : Chan, j ≠ c → recordLawful s.channels[j]
  nodup : (s.admission.queue.map (·.channel)).Nodup
  others : ∀ e ∈ s.admission.queue, e.channel ≠ c → entryLawful s e
  own : ∀ e ∈ s.admission.queue, e.channel = c → 1 ≤ e.wanted

theorem deriveFrom_fits (was : Option ChannelMode) (c : Chan) (s : State) (h : DeriveReady was c s) :
    ChannelsFit (deriveFrom was c s) := by
  obtain ⟨demand, forced, driven, undriven⟩ := h.ready
  refine followTarget_fits c _ ⟨fun j => ?_, h.nodup, fun e he other => ?_, h.own⟩
  · rw [updChannel_get]
    split
    case isFalse other => exact h.records j other
    case isTrue same =>
      subst same
      refine ⟨demand, forced, fun on => ?_, fun off => ⟨undriven off, ?_, modeOf_unadopted s j off⟩⟩
      · obtain ⟨d, hd, dle⟩ := driven on
        obtain ⟨t, ht, tle⟩ := targetOf_le s j was h.cfg h.ready on (h.frozen on)
        exact ⟨d, t, hd, ht, dle, tle⟩
      · show targetOf s j (modeOf s j) was = none
        rw [modeOf_unadopted s j off]
        rfl
  · exact entryLawful_congr (updChannel_other c e.channel _ s other) (h.others e he other)

/-- A lawful plant is ready for a derivation. -/
theorem deriveReady_of_fits (was : Option ChannelMode) (c : Chan) (s : State) (cfg : targetsLawful s.cfg)
    (h : ChannelsFit s) : DeriveReady was c s where
  cfg := cfg
  ready := recordReady_of_lawful (h.1 c)
  frozen on _ := by
    obtain ⟨-, t, -, ht, -, le⟩ := (h.1 c).2.2.1 on
    exact ⟨t, ht, le⟩
  records j _ := h.1 j
  nodup := h.2.1
  others e he _ := h.2.2 e he
  own e he _ := (h.2.2 e he).2.1

theorem derive_fits (c : Chan) (s : State) (cfg : targetsLawful s.cfg) (h : ChannelsFit s) :
    ChannelsFit (derive c s) := deriveFrom_fits _ c s (deriveReady_of_fits _ c s cfg h)

/-! ### Changes that a derivation follows, or that need none -/

/-- A change of a channel's demand, match count, drive fault, start-confirm timer, run state or forced value
that keeps the ranges. -/
theorem updChannel_fits (c : Chan) (f : ChannelRun → ChannelRun) (s : State)
    (lawful : recordLawful s.channels[c] → recordLawful (f s.channels[c]))
    (adopted : (f s.channels[c]).adopted = s.channels[c].adopted)
    (driven : (f s.channels[c]).driven = s.channels[c].driven)
    (target : (f s.channels[c]).target = s.channels[c].target) (h : ChannelsFit s) :
    ChannelsFit (updChannel c f s) := by
  refine ⟨fun j => ?_, h.2.1, fun e he => entryLawful_of_values ?_ ?_ ?_ (h.2.2 e he)⟩
  · rw [updChannel_get]; split
    case isTrue same => subst same; exact lawful (h.1 j)
    case isFalse => exact h.1 j
  all_goals
    rw [updChannel_get]
    split
    case isFalse => rfl
    case isTrue same => subst same; assumption

/-- A change of every record that keeps the ranges and leaves adopted flags, driven values and targets. -/
theorem mapChannels_fits (f : Chan → ChannelRun → ChannelRun) (s : State)
    (lawful : ∀ c ch, recordLawful ch → recordLawful (f c ch))
    (adopted : ∀ c ch, (f c ch).adopted = ch.adopted) (driven : ∀ c ch, (f c ch).driven = ch.driven)
    (target : ∀ c ch, (f c ch).target = ch.target) (h : ChannelsFit s) : ChannelsFit (mapChannels f s) := by
  refine ⟨fun c => ?_, h.2.1, fun e he => entryLawful_of_values ?_ ?_ ?_ (h.2.2 e he)⟩
  · rw [mapChannels_get]; exact lawful c _ (h.1 c)
  all_goals rw [mapChannels_get]
  · exact adopted _ _
  · exact driven _ _
  · exact target _ _

/-- A fall stops at the target (R8). -/
theorem fall_fits (c : Chan) (s : State) (h : ChannelsFit s) : ChannelsFit (fall c s) := by
  unfold fall
  dsimp only
  split
  case h_2 => exact h
  case h_1 d t adopted hd ht =>
    split
    case isFalse => exact h
    case isTrue above =>
      obtain ⟨demand, forced, range, -⟩ := h.1 c
      obtain ⟨d', t', hd', ht', dle, tle⟩ := range adopted
      obtain rfl : d' = d := Option.some.inj (hd'.symm.trans hd)
      obtain rfl : t' = t := Option.some.inj (ht'.symm.trans ht)
      refine ⟨fun j => ?_, h.2.1, fun e he => ?_⟩
      · rw [queueSet_channels, updChannel_get]
        split
        case isFalse => exact h.1 j
        case isTrue same =>
          subst same
          exact ⟨demand, forced, fun _ => ⟨_, t', rfl, ht, by omega, tle⟩,
            fun off => nomatch adopted.symm.trans off⟩
      · have lawful := h.2.2 e he
        have other : e.channel ≠ c := by
          rintro rfl
          obtain ⟨-, pos, x, y, hx, hy, le⟩ := lawful
          have := Option.some.inj (hx.symm.trans hd)
          have := Option.some.inj (hy.symm.trans ht)
          omega
        exact entryLawful_congr (by rw [queueSet_channels, updChannel_other _ _ _ _ other]) lawful

theorem putRequest_fits (c : Chan) (w : Nat) (s : State) (pos : 1 ≤ w) (adopted : s.channels[c].adopted = true)
    (reach : ∃ d t, s.channels[c].driven = some d ∧ s.channels[c].target = some t ∧ d + w ≤ t)
    (h : ChannelsFit s) : ChannelsFit (putRequest c w s) := by
  unfold putRequest
  split
  case isTrue =>
    refine setQueue_fits _ s h.1 ⟨nodup_overwritten _ _ (fun x => by split <;> rfl) h.2.1, fun x hx => ?_⟩
    obtain ⟨y, hy, rfl⟩ := List.mem_map.mp hx
    split
    case isTrue same =>
      obtain rfl : y.channel = c := by simpa using same
      exact ⟨adopted, pos, reach⟩
    case isFalse => exact h.2.2 y hy
  case isFalse fresh =>
    have none : ∀ e ∈ s.admission.queue, e.channel ≠ c := by
      simpa [entryOf] using fresh
    refine setQueue_fits _ s h.1 ⟨?_, fun x hx => ?_⟩
    · rw [List.map_append]
      refine List.Nodup.append h.2.1 (List.nodup_singleton _) fun a ha hb => ?_
      obtain ⟨e, he, rfl⟩ := List.mem_map.mp ha
      exact none e he (by simpa using hb)
    · rcases List.mem_append.mp hx with hx | hx
      · exact h.2.2 x hx
      · obtain rfl := List.mem_singleton.mp hx
        exact ⟨adopted, pos, reach⟩

end Sys2Proof.Proofs
end


section
/-! SUPPORT. What the operations of the computers' side keep of the invariants (`Kept`): the single operations
on channels, queues, ports, contexts, events and the executor. -/

namespace Sys2Proof.Proofs

open Sys2Proof.Machine Sys2Proof.Safety Sys2Proof.Laws

/-! ### The laws, slot by slot and list by list -/

/-- The states in which a slot's restart-in-progress flag may be set (R76). -/
def FlagState (state : ComputerState) : Prop := state = .settle ∨ state = .join ∨ state = .track

/-- The context law for one context (R76). -/
def ContextFits (x : Context) : Prop :=
  (x.phase.isSome ↔ x.state = .join) ∧ (x.trackCause.isSome ↔ (x.state = .track ∨ x.state = .control)) ∧
  (x.settleTimer.isSome → x.state = .settle) ∧ (x.helloTimer.isSome → x.phase = some .hello) ∧
  (x.imageTimer.isSome → x.phase = some .image) ∧ (x.trackTimer.isSome → x.state = .track)

/-- The context law for one port (R68). -/
def ReportFits (p : Port) (x : Context) : Prop :=
  p.reportTimer.isSome ↔ (x.state = .track ∨ x.state = .control)

/-- The failure law for one slot (R97, R102). -/
def FailureFits (enabled : Bool) (x : Context) : Prop :=
  x.failures ≤ 7 ∧ (x.failures = 7 ↔ x.state = .fault) ∧ (x.state = .vacant ↔ enabled = false)

/-- The window law but for what it says outside RUN (R108). -/
def WindowCore (s : State) : Prop :=
  (∀ b : Bore, countOf s b = (inProgressOf s b).length ∧ countOf s b ≤ limitOf s b) ∧
  ∀ k : Slot, s.contexts[k].inProgress = true → FlagState s.contexts[k].state

/-- The outgoing list's part of the capacity law (R160). -/
def NoticesFit (l : List OutFrame) : Prop :=
  (l.filter isNotice).length ≤ 1 ∧ (l.filter fun f => !isNotice f).length ≤ 31

/-- The send lists' part of the capacity law (R71). -/
def OrdersFit (s : State) : Prop := ∀ k : Slot, s.ports[k].sendList.length ≤ 8

/-- One entry for a slot (R109), one for a channel (R31), one SET record for a channel (R12). -/
def WaitsFit (s : State) : Prop := (s.window.waitList.map (·.slot)).Nodup

def RequestsFit (s : State) : Prop := (s.admission.queue.map (·.channel)).Nodup

def RecordsFit (s : State) : Prop := (s.field.sendList.map (·.channel)).Nodup

theorem contextLaw_iff (s : State) :
    ContextLaw s ↔ ∀ k : Slot, ContextFits s.contexts[k] ∧ ReportFits s.ports[k] s.contexts[k] := by
  simp only [ContextLaw, ContextFits, ReportFits, and_assoc]

theorem failureLaw_iff (s : State) :
    FailureLaw s ↔ ∀ k : Slot, FailureFits s.cfg.computers[k].enabled s.contexts[k] := Iff.rfl

theorem windowLaw_iff (s : State) : WindowLaw s ↔ Dormant s ∧ WindowCore s := Iff.rfl

/-- A list with one entry at most for each number below `n` holds `n` entries at most. -/
theorem length_le_of_nodup {α : Type} {n : Nat} {f : α → Fin n} {l : List α} (h : (l.map f).Nodup) :
    l.length ≤ n := by
  simpa using h.length_le_card

theorem capacityLaw_iff (s : State) :
    CapacityLaw s ↔ s.supervisory.queue.length ≤ 4 ∧ NoticesFit s.supervisory.outgoing ∧ OrdersFit s ∧
      WaitsFit s ∧ RequestsFit s ∧ RecordsFit s ∧
      (s.supervisory.queue ≠ [] → portFree s = false) := by
  constructor
  · rintro ⟨queue, one, notices, orders, ⟨waits, -⟩, ⟨requests, -⟩, ⟨records, -⟩, busy⟩
    exact ⟨queue, ⟨one, notices⟩, orders, waits, requests, records, busy⟩
  · rintro ⟨queue, ⟨one, notices⟩, orders, waits, requests, records, busy⟩
    exact ⟨queue, one, notices, orders, ⟨waits, length_le_of_nodup waits⟩,
      ⟨requests, length_le_of_nodup requests⟩, ⟨records, length_le_of_nodup records⟩, busy⟩

/-! ### What is kept -/

/-- An operation of the computers' side that keeps plant and lists in their ranges, raises no credit and takes
no frame from the outgoing list, whatever it does to the contexts. -/
structure ListsKept (s t : State) : Prop where
  moves : ComputerMoves s t
  channels : TargetsFit s → ChannelsFit s → ChannelsFit t
  notices : NoticesFit s.supervisory.outgoing → NoticesFit t.supervisory.outgoing
  longer : s.supervisory.outgoing.length ≤ t.supervisory.outgoing.length
  orders : OrdersFit s → OrdersFit t
  waits : WaitsFit s → WaitsFit t
  requests : RequestsFit s → RequestsFit t
  records : RecordsFit s → RecordsFit t
  credit : t.admission.credit ≤ s.admission.credit

/-- An operation that keeps the laws of the contexts too. -/
structure Kept (s t : State) : Prop extends ListsKept s t where
  failure : FailureLaw s → FailureLaw t
  context : ContextLaw s → ContextLaw t
  window : WindowCore s → WindowCore t

theorem ListsKept.refl (s : State) : ListsKept s s :=
  ⟨ComputerMoves.refl s, fun _ => id, id, Nat.le_refl _, id, id, id, id, Nat.le_refl _⟩

theorem Kept.refl (s : State) : Kept s s := ⟨.refl s, id, id, id⟩

theorem ListsKept.trans {s t u : State} (h : ListsKept s t) (g : ListsKept t u) : ListsKept s u where
  moves := h.moves.trans g.moves
  channels fit := g.channels (targetsFit_of_moves h.moves fit) ∘ h.channels fit
  notices := g.notices ∘ h.notices
  longer := h.longer.trans g.longer
  orders := g.orders ∘ h.orders
  waits := g.waits ∘ h.waits
  requests := g.requests ∘ h.requests
  records := g.records ∘ h.records
  credit := g.credit.trans h.credit

theorem Kept.trans {s t u : State} (h : Kept s t) (g : Kept t u) : Kept s u :=
  ⟨h.toListsKept.trans g.toListsKept, g.failure ∘ h.failure, g.context ∘ h.context, g.window ∘ h.window⟩

theorem foldl_kept {α : Type} (f : State → α → State) (h : ∀ s a, Kept s (f s a)) (l : List α) (s : State) :
    Kept s (l.foldl f s) := foldl_moves Kept.refl Kept.trans f h l s

/-! ### The laws by what they read -/

theorem failureLaw_of {s t : State} (cfg : t.cfg = s.cfg)
    (slot : ∀ k : Slot, FailureFits s.cfg.computers[k].enabled s.contexts[k] →
      FailureFits s.cfg.computers[k].enabled t.contexts[k]) (h : FailureLaw s) : FailureLaw t := fun k => by
  rw [cfg]
  exact slot k (h k)

theorem windowCore_of {s t : State} (cfg : t.cfg = s.cfg) (one : t.window.count1 = s.window.count1)
    (two : t.window.count2 = s.window.count2)
    (flag : ∀ k : Slot, t.contexts[k].inProgress = s.contexts[k].inProgress)
    (state : ∀ k : Slot, s.contexts[k].inProgress = true → FlagState s.contexts[k].state →
      FlagState t.contexts[k].state) (h : WindowCore s) : WindowCore t := by
  have counts : ∀ b, countOf t b = countOf s b := fun b => by cases b <;> assumption
  have limits : ∀ b, limitOf t b = limitOf s b := fun b => by cases b <;> simp only [limitOf, cfg]
  have flags : ∀ b, inProgressOf t b = inProgressOf s b := fun b => by
    simp only [inProgressOf, flag, boreOf, cfg]
  refine ⟨fun b => ?_, fun k set => ?_⟩
  · rw [counts, limits, flags]; exact h.1 b
  · rw [flag] at set
    exact state k set (h.2 k set)

theorem ordersFit_of {s t : State} (same : ∀ k : Slot, t.ports[k].sendList = s.ports[k].sendList)
    (h : OrdersFit s) : OrdersFit t := fun k => by rw [same]; exact h k

/-! ### The plant's operations -/

/-- What the plant's operations leave alone keeps the computers' laws. -/
theorem Kept.of_plant {s t : State} (h : PlantMoves s t)
    (channels : TargetsFit s → ChannelsFit s → ChannelsFit t)
    (requests : RequestsFit s → RequestsFit t) (records : RecordsFit s → RecordsFit t)
    (credit : t.admission.credit ≤ s.admission.credit) : Kept s t where
  moves := h.computer
  failure := failureLaw_of h.cfg fun k => by rw [h.contexts]; exact id
  context law k := by rw [h.contexts, h.ports]; exact law k
  window := windowCore_of h.cfg (by rw [h.window]) (by rw [h.window]) (fun k => by rw [h.contexts])
    fun k _ => by rw [h.contexts]; exact id
  channels := channels
  notices := by rw [h.supervisory]; exact id
  longer := by rw [h.supervisory]
  orders := ordersFit_of fun k => by rw [h.ports]
  waits := by unfold WaitsFit; rw [h.window]; exact id
  requests := requests
  records := records
  credit := credit

/-- The admission queue stays with one entry for a channel, the send list with one record for a channel, and
credit does not rise. -/
structure ListsFit (s t : State) : Prop where
  requests : RequestsFit s → RequestsFit t
  records : RecordsFit s → RecordsFit t
  credit : t.admission.credit ≤ s.admission.credit

theorem ListsFit.refl (s : State) : ListsFit s s := ⟨id, id, Nat.le_refl _⟩

theorem ListsFit.trans {s t u : State} (h : ListsFit s t) (g : ListsFit t u) : ListsFit s u :=
  ⟨g.1 ∘ h.1, g.2 ∘ h.2, g.3.trans h.3⟩

theorem withdraw_lists (c : Chan) (s : State) : ListsFit s (withdraw c s) :=
  ⟨fun h => nodup_of_sublist h List.filter_sublist, id, Nat.le_refl _⟩

theorem overwriteWanted_lists (c : Chan) (w : Nat) (s : State) : ListsFit s (overwriteWanted c w s) :=
  ⟨nodup_overwritten _ _ fun x => by split <;> rfl, id, Nat.le_refl _⟩

theorem putRequest_lists (c : Chan) (w : Nat) (s : State) : ListsFit s (putRequest c w s) := by
  unfold putRequest
  split
  case isTrue => exact overwriteWanted_lists c w s
  case isFalse fresh =>
    have none : ∀ e ∈ s.admission.queue, e.channel ≠ c := by simpa [entryOf] using fresh
    refine ⟨fun h => ?_, id, Nat.le_refl _⟩
    unfold RequestsFit setQueue
    rw [List.map_append]
    refine List.Nodup.append h (List.nodup_singleton _) fun a ha hb => ?_
    obtain ⟨e, he, rfl⟩ := List.mem_map.mp ha
    exact none e he (by simpa using hb)

/-- A SET record takes the place of the waiting one of its channel, or joins where none waits (R12). -/
theorem queueSet_records (c : Chan) (v : Nat) (s : State) (h : RecordsFit s) : RecordsFit (queueSet c v s) := by
  unfold RecordsFit queueSet
  dsimp only
  split
  case isTrue =>
    have same : ∀ r : SetRecord, (if r.channel == c then { channel := c, value := v } else r).channel =
        r.channel := fun r => by
      split
      case isTrue e => exact (beq_iff_eq.mp e).symm
      case isFalse => rfl
    exact nodup_overwritten _ _ same h
  case isFalse fresh =>
    rw [List.map_append]
    refine List.Nodup.append h (List.nodup_singleton _) fun a ha hb => fresh ?_
    obtain ⟨r, hr, rfl⟩ := List.mem_map.mp ha
    exact List.any_eq_true.mpr ⟨r, hr, by simpa using hb⟩

theorem applyGrant_lists (c : Chan) (g : Nat) (s : State) : ListsFit s (applyGrant c g s) :=
  ⟨id, fun h => queueSet_records c _ _ h, Nat.sub_le _ _⟩

/-- A serving leaves a run of the queue from some entry on, with the same channels. -/
theorem serveQueue_requests : ∀ (q : List AdmissionEntry) (s : State), (q.map (·.channel)).Nodup →
    RequestsFit (serveQueue q s)
  | [], s, h => List.nodup_nil
  | e :: rest, s, h => by
    unfold serveQueue
    split
    case isFalse => exact h
    case isTrue =>
      dsimp only
      split
      case isTrue => exact serveQueue_requests rest _ (List.nodup_cons.mp h).2
      case isFalse => rw [count_eq]; exact h

theorem serveQueue_records : ∀ (q : List AdmissionEntry) (s : State), RecordsFit s →
    RecordsFit (serveQueue q s)
  | [], s, h => h
  | e :: rest, s, h => by
    unfold serveQueue
    split
    case isFalse => exact h
    case isTrue =>
      dsimp only
      split
      case isTrue => exact serveQueue_records rest _ ((applyGrant_lists _ _ s).records h)
      case isFalse => rw [count_eq]; exact (applyGrant_lists _ _ s).records h

theorem serve_lists (s : State) : ListsFit s (serve s) :=
  ⟨serveQueue_requests _ s, serveQueue_records _ s, serve_credit_le s⟩

theorem serve_kept (s : State) : Kept s (serve s) :=
  let lists := serve_lists s
  .of_plant (serve_plant s) (fun _ => serve_fits s) lists.1 lists.2 lists.3

theorem followTarget_lists (c : Chan) (s : State) : ListsFit s (followTarget c s) := by
  unfold followTarget
  split
  case h_1 => exact withdraw_lists c s
  case h_2 =>
    dsimp only
    split
    case isTrue => exact withdraw_lists c s
    case isFalse =>
      split
      case h_2 => exact ListsFit.refl s
      case h_1 =>
        split
        case isTrue => exact (overwriteWanted_lists c _ s).trans (serve_lists _)
        case isFalse => exact ListsFit.refl s

theorem deriveFrom_lists (was : Option ChannelMode) (c : Chan) (s : State) :
    ListsFit s (deriveFrom was c s) :=
  ListsFit.trans (t := updChannel c _ s) ⟨id, id, Nat.le_refl _⟩ (followTarget_lists c _)

theorem derive_kept (c : Chan) (s : State) : Kept s (derive c s) :=
  let lists := deriveFrom_lists (frozenNow s c) c s
  .of_plant (derive_plant c s) (fun targets => derive_fits c s targets.1) lists.1 lists.2 lists.3

theorem deriveEach_kept (cs : List Chan) (s : State) : Kept s (deriveEach cs s) :=
  foldl_kept _ (fun s c => derive_kept c s) cs s

theorem deriveOwned_kept (k : Slot) (s : State) : Kept s (deriveOwned k s) := deriveEach_kept _ s

theorem deriveDaylight_kept (s : State) : Kept s (deriveDaylight s) := deriveEach_kept _ s

theorem count_kept (source : CounterSource) (s : State) : Kept s (count source s) :=
  .of_plant (count_plant source s) (by rw [count_eq]; exact fun _ => id) (by rw [count_eq]; exact id)
    (by rw [count_eq]; exact id) (by rw [count_eq])

/-! ### Records of the channels -/

/-- A change that leaves contexts, ports, the window unit, the admission unit and the field line. -/
theorem Kept.of_blocks {s t : State} (moves : ComputerMoves s t) (contexts : t.contexts = s.contexts)
    (ports : t.ports = s.ports) (window : t.window = s.window)
    (channels : TargetsFit s → ChannelsFit s → ChannelsFit t)
    (admission : t.admission = s.admission) (field : t.field = s.field)
    (notices : NoticesFit s.supervisory.outgoing → NoticesFit t.supervisory.outgoing)
    (longer : s.supervisory.outgoing.length ≤ t.supervisory.outgoing.length) : Kept s t where
  moves := moves
  failure := failureLaw_of moves.cfg fun k => by rw [contexts]; exact id
  context law k := by rw [contexts, ports]; exact law k
  window := windowCore_of moves.cfg (by rw [window]) (by rw [window]) (fun k => by rw [contexts])
    fun k _ => by rw [contexts]; exact id
  channels := channels
  notices := notices
  longer := longer
  orders := ordersFit_of fun k => by rw [ports]
  waits := by unfold WaitsFit; rw [window]; exact id
  requests := by unfold RequestsFit; rw [admission]; exact id
  records := by unfold RecordsFit; rw [field]; exact id
  credit := by rw [admission]

theorem updChannel_kept (c : Chan) (f : ChannelRun → ChannelRun) (s : State)
    (stay : FieldFlagsStay s.channels[c] (f s.channels[c]))
    (lawful : recordLawful s.channels[c] → recordLawful (f s.channels[c]))
    (driven : (f s.channels[c]).driven = s.channels[c].driven)
    (target : (f s.channels[c]).target = s.channels[c].target) : Kept s (updChannel c f s) :=
  ⟨⟨updChannel_moves c f s stay, fun _ => updChannel_fits c f s lawful stay.adopted driven target, id,
    Nat.le_refl _, id, id, id, id, Nat.le_refl _⟩, id, id, id⟩

theorem mapChannels_kept (f : Chan → ChannelRun → ChannelRun) (s : State)
    (stay : ∀ c ch, FieldFlagsStay ch (f c ch)) (lawful : ∀ c ch, recordLawful ch → recordLawful (f c ch))
    (driven : ∀ c ch, (f c ch).driven = ch.driven) (target : ∀ c ch, (f c ch).target = ch.target) :
    Kept s (mapChannels f s) :=
  .of_blocks (mapChannels_moves f s stay) (by simp) (by simp) (by simp)
    (fun _ => mapChannels_fits f s lawful (fun c ch => (stay c ch).adopted) driven target) (by simp) (by simp)
    (by simp) (by simp)

theorem clearDemands_kept (k : Slot) (s : State) : Kept s (clearDemands k s) := by
  refine mapChannels_kept _ s (fun c ch => ?_) (fun c ch h => ?_) (fun c ch => ?_) (fun c ch => ?_) <;> split
  case refine_1.isTrue => exact ⟨rfl, rfl, rfl, rfl⟩
  case refine_1.isFalse => exact FieldFlagsStay.refl ch
  case refine_2.isTrue => exact ⟨nofun, h.2⟩
  case refine_2.isFalse => exact h
  all_goals rfl

theorem clearMatches_kept (k : Slot) (s : State) : Kept s (clearMatches k s) := by
  refine mapChannels_kept _ s (fun c ch => ?_) (fun c ch h => ?_) (fun c ch => ?_) (fun c ch => ?_) <;> split
  case refine_1.isTrue => exact ⟨rfl, rfl, rfl, rfl⟩
  case refine_1.isFalse => exact FieldFlagsStay.refl ch
  case refine_2.isTrue | refine_2.isFalse => exact h
  all_goals rfl

/-! ### Notices and orders -/

/-- A change of the outgoing list and the event set alone. -/
theorem Kept.of_outgoing {s t : State} (moves : ComputerMoves s t) (contexts : t.contexts = s.contexts)
    (ports : t.ports = s.ports) (window : t.window = s.window) (channels : t.channels = s.channels)
    (admission : t.admission = s.admission) (field : t.field = s.field)
    (notices : NoticesFit s.supervisory.outgoing → NoticesFit t.supervisory.outgoing)
    (longer : s.supervisory.outgoing.length ≤ t.supervisory.outgoing.length) : Kept s t := by
  refine .of_blocks moves contexts ports window (fun _ fit => ?_) admission field notices longer
  refine ⟨fun c => by rw [channels]; exact fit.1 c, by rw [admission]; exact fit.2.1, fun e he => ?_⟩
  exact entryLawful_congr (by rw [channels]) (fit.2.2 e (by rwa [admission] at he))

theorem noticesFit_renewed (n : List (EventKind × Option Item)) (l : List OutFrame) (h : NoticesFit l) :
    NoticesFit (l.map fun f => if isNotice f then .eventNotice n else f) := by
  have same : ∀ f, isNotice (if isNotice f = true then .eventNotice n else f) = isNotice f := fun f => by
    split
    case isTrue e => exact e.symm
    case isFalse => rfl
  simpa [NoticesFit, List.filter_map, Function.comp_def, same] using h

theorem callNotice_notices (s : State) (h : NoticesFit s.supervisory.outgoing) :
    NoticesFit (callNotice s).supervisory.outgoing := by
  unfold callNotice
  dsimp only
  split
  case isTrue => exact noticesFit_renewed _ _ h
  case isFalse none =>
    have zero : s.supervisory.outgoing.filter isNotice = [] := by
      simpa [List.filter_eq_nil_iff] using none
    unfold NoticesFit
    rw [placeOut_supervisory]
    dsimp only
    rw [List.filter_append, List.filter_append, zero]
    exact ⟨Nat.le_refl 1, by simpa [isNotice] using h.2⟩

theorem callNotice_longer (s : State) :
    s.supervisory.outgoing.length ≤ (callNotice s).supervisory.outgoing.length := by
  unfold callNotice
  dsimp only
  split <;> simp [placeOut]

theorem latch_kept (k : EventKind) (item : Option Item) (s : State) : Kept s (latch k item s) := by
  refine .of_outgoing (latch_moves k item s) (latch_contexts k item s) (latch_ports k item s)
    (latch_window k item s) (latch_channels k item s) (latch_admission k item s) (by rw [latch_eq]) ?_ ?_
  all_goals
    unfold latch
    dsimp only
    split
  · exact id
  · exact callNotice_notices { s with events := s.events.set (eventIndex k) { latched := true, item } }
  · exact Nat.le_refl _
  · exact callNotice_longer { s with events := s.events.set (eventIndex k) { latched := true, item } }

theorem placeMark_kept (plan : PlanNo) (pass step code : Nat) (s : State) :
    Kept s (placeMark plan pass step code s) := by
  have moves := placeMark_moves plan pass step code s
  unfold placeMark at moves ⊢
  split
  case isFalse full =>
    rw [if_neg full] at moves
    exact .of_outgoing moves rfl rfl rfl rfl rfl rfl id (Nat.le_refl _)
  case isTrue room =>
    rw [if_pos room] at moves
    refine .of_outgoing moves rfl rfl rfl rfl rfl rfl (fun h => ?_) (by simp [placeOut])
    have beside := (List.filter_sublist (p := fun f => !isNotice f) (l := s.supervisory.outgoing)).length_le
    have notice : isNotice (.planMark plan pass step code) = false := rfl
    simp only [Config.markLimit] at room
    unfold NoticesFit
    rw [placeOut_supervisory]
    simp only [List.filter_append, List.length_append, List.filter_cons, List.filter_nil, notice]
    exact ⟨h.1, by simpa using Nat.lt_of_le_of_lt beside room⟩

/-- A change of a port that starts or stops no report timer and fits its send list. -/
theorem updPort_kept (k : Slot) (f : Port → Port) (s : State)
    (timer : (f s.ports[k]).reportTimer = s.ports[k].reportTimer)
    (orders : s.ports[k].sendList.length ≤ 8 → (f s.ports[k]).sendList.length ≤ 8) :
    Kept s (updPort k f s) where
  moves := updPort_moves k f s
  failure := id
  context law j := by
    have h := law j
    rw [updPort_get]
    split
    case isFalse => exact h
    case isTrue same => subst same; rw [timer]; exact h
  window := id
  channels _ := id
  notices := id
  longer := Nat.le_refl _
  orders law j := by
    rw [updPort_get]
    split
    case isFalse => exact law j
    case isTrue same => subst same; exact orders (law j)
  waits := id
  requests := id
  records := id
  credit := Nat.le_refl _

theorem sendOrder_kept (k : Slot) (o : Order) (s : State) : Kept s (sendOrder k o s) := by
  refine updPort_kept k _ s ?_ fun h => ?_ <;> split
  case refine_1.isTrue => rfl
  case refine_1.isFalse => split <;> rfl
  case refine_2.isTrue => simpa using h
  case refine_2.isFalse =>
    split
    case isTrue room => simpa [Config.sendListSize] using room
    case isFalse => exact h

theorem sendRestart_kept (k : Slot) (s : State) : Kept s (sendRestart k s) := sendOrder_kept k _ s

theorem clearExpectation_kept (k : Slot) (s : State) : Kept s (clearExpectation k s) :=
  updPort_kept k _ s rfl id

theorem expectAfter_kept (k : Slot) (seq : Nat) (s : State) : Kept s (expectAfter k seq s) :=
  updPort_kept k _ s rfl id

theorem startReport_kept (k : Slot) (s : State) (h : reporting s.contexts[k].state = true) :
    Kept s (startReport k s) where
  moves := startReport_moves k s
  failure := id
  context law := (contextLaw_iff _).mpr fun j => by
    obtain ⟨fits, report⟩ := (contextLaw_iff s).mp law j
    refine ⟨fits, ?_⟩
    unfold startReport
    rw [updPort_get]
    split
    case isFalse => exact report
    case isTrue same =>
      subst same
      refine ⟨fun _ => ?_, fun _ => rfl⟩
      revert h
      show reporting s.contexts[j].state = true → s.contexts[j].state = _ ∨ s.contexts[j].state = _
      cases s.contexts[j].state <;> simp [reporting]
  window := id
  channels _ := id
  notices := id
  longer := Nat.le_refl _
  orders := ordersFit_of fun j => by
    unfold startReport
    rw [updPort_get]
    split <;> rfl
  waits := id
  requests := id
  records := id
  credit := Nat.le_refl _

/-! ### Wait list, executor and contexts -/

theorem setWaitList_kept (l : List WaitEntry) (s : State)
    (waits : WaitsFit s → (l.map (·.slot)).Nodup) : Kept s (setWaitList l s) :=
  ⟨⟨setWaitList_moves l s, fun _ => id, id, Nat.le_refl _, id, waits, id, id, Nat.le_refl _⟩, id, id, id⟩

theorem updExecutor_kept (f : Executor → Executor) (s : State) : Kept s (updExecutor f s) :=
  ⟨⟨updExecutor_moves f s, fun _ => id, id, Nat.le_refl _, id, id, id, id, Nat.le_refl _⟩, id, id, id⟩

theorem updContext_lists (k : Slot) (f : Context → Context) (s : State) : ListsKept s (updContext k f s) :=
  ⟨updContext_moves k f s, fun _ => id, id, Nat.le_refl _, id, id, id, id, Nat.le_refl _⟩

theorem updCount_lists (b : Bore) (f : Nat → Nat) (s : State) : ListsKept s (updCount b f s) := by
  cases b <;> exact ⟨updCount_moves _ f s, fun _ => id, id, Nat.le_refl _, id, id, id, id, Nat.le_refl _⟩

/-- A change of a context that leaves its state keeps the context law where it fits. -/
theorem updContext_context (k : Slot) (f : Context → Context) (s : State)
    (fits : ContextFits s.contexts[k] → ContextFits (f s.contexts[k]))
    (state : (f s.contexts[k]).state = s.contexts[k].state) (law : ContextLaw s) :
    ContextLaw (updContext k f s) := (contextLaw_iff _).mpr fun j => by
  obtain ⟨h, report⟩ := (contextLaw_iff s).mp law j
  rw [updContext_get]
  split
  case isFalse => exact ⟨h, report⟩
  case isTrue same => subst same; exact ⟨fits h, by unfold ReportFits; rw [state]; exact report⟩

/-- A change of a context that leaves its flag, and keeps what the laws say of it. -/
theorem updContext_kept (k : Slot) (f : Context → Context) (s : State)
    (failure : ∀ enabled, FailureFits enabled s.contexts[k] → FailureFits enabled (f s.contexts[k]))
    (fits : ContextFits s.contexts[k] → ContextFits (f s.contexts[k]))
    (state : (f s.contexts[k]).state = s.contexts[k].state)
    (flag : (f s.contexts[k]).inProgress = s.contexts[k].inProgress) : Kept s (updContext k f s) where
  toListsKept := updContext_lists k f s
  failure := failureLaw_of rfl fun j => by
    rw [updContext_get]
    split
    case isFalse => exact id
    case isTrue same => subst same; exact failure _
  context := updContext_context k f s fits state
  window := windowCore_of rfl rfl rfl
    (fun j => by
      rw [updContext_get]; split
      case isFalse => rfl
      case isTrue same => subst same; exact flag)
    fun j _ h => by
      rw [updContext_get]; split
      case isFalse => exact h
      case isTrue same => subst same; rw [state]; exact h

/-- The failures of a slot that is not in FAULT, set to a number below 7 (R88, R97). -/
theorem setFailures_kept (k : Slot) (n : Nat) (s : State) (low : n < 7) (live : s.contexts[k].state ≠ .fault) :
    Kept s (updContext k (fun x => { x with failures := n }) s) :=
  updContext_kept k _ s
    (fun _ h => ⟨Nat.le_of_lt low, ⟨fun e => absurd e (Nat.ne_of_lt low), fun e => absurd e live⟩, h.2.2⟩)
    id rfl rfl

end Sys2Proof.Proofs
end


section
/-! SUPPORT. What the handover controller's changes of state keep of the invariants (R78 to R101): an entry to
a state, a restart order that the window unit issues, and an entry that frees a slot's window. -/

namespace Sys2Proof.Proofs

open Sys2Proof.Machine Sys2Proof.Safety Sys2Proof.Laws

/-! ### A change of state (R78) -/

theorem clearDemands_form (k : Slot) (s : State) : ∃ v, clearDemands k s = { s with channels := v } :=
  ⟨_, rfl⟩

theorem forget_form (k : Slot) (new : ComputerState) (s : State) :
    ∃ v p, forget k new s = { s with channels := v, ports := p } := by
  obtain ⟨v, demands⟩ := clearDemands_form k s
  unfold forget
  split
  case h_3 => exact ⟨s.channels, _, rfl⟩
  case h_4 => exact ⟨s.channels, s.ports, rfl⟩
  all_goals
    rw [demands]
    exact ⟨v, _, rfl⟩

/-- A change of a computer's state reaches contexts, channels and ports only. -/
theorem changeState_form (k : Slot) (new : ComputerState) (phase : Option JoinPhase) (f : Context → Context)
    (s : State) : ∃ v p, changeState k new phase f s = { s with
      contexts := s.contexts.set k (f (contextEnters new phase s.contexts[k])), channels := v, ports := p } := by
  unfold changeState linkEnters
  dsimp only
  obtain ⟨v, p, form⟩ := forget_form k new (updContext k (fun x => f (contextEnters new phase x)) s)
  rw [form]
  split
  case isFalse => exact ⟨v, _, rfl⟩
  case isTrue =>
    split
    case isTrue => exact ⟨v, p, rfl⟩
    case isFalse => exact ⟨v, _, rfl⟩

theorem forget_ports (k j : Slot) (new : ComputerState) (s : State) :
    (forget k new s).ports[j].reportTimer = s.ports[j].reportTimer ∧
    (forget k new s).ports[j].sendList = s.ports[j].sendList := by
  obtain ⟨v, demands⟩ := clearDemands_form k s
  unfold forget
  split
  case h_4 => exact ⟨rfl, rfl⟩
  all_goals
    unfold clearExpectation
    rw [updPort_get]
    try rw [demands]
    split <;> exact ⟨rfl, rfl⟩

/-- The report timer runs on, starts or stops as R68 says. -/
theorem changeState_reportTimer (k : Slot) (new : ComputerState) (phase : Option JoinPhase)
    (f : Context → Context) (s : State) : (changeState k new phase f s).ports[k].reportTimer =
      if reporting new then
        if reporting s.contexts[k].state then s.ports[k].reportTimer
        else some (s.now + s.cfg.computers[k].reportTimeout)
      else none := by
  unfold changeState linkEnters
  dsimp only
  split
  case isFalse => simp only [stopReport, updPort_same]
  case isTrue =>
    split
    case isTrue => rw [(forget_ports k k new _).1]; rfl
    case isFalse =>
      unfold startReport
      rw [updPort_same, (forget_moves k new _).now, (forget_moves k new _).cfg]
      rfl

theorem changeState_reportTimer_other (k j : Slot) (new : ComputerState) (phase : Option JoinPhase)
    (f : Context → Context) (s : State) (other : j ≠ k) :
    (changeState k new phase f s).ports[j].reportTimer = s.ports[j].reportTimer := by
  unfold changeState linkEnters
  dsimp only
  have kept := (forget_ports k j new (updContext k (fun x => f (contextEnters new phase x)) s)).1
  split
  case isFalse => unfold stopReport; rw [updPort_other _ _ _ _ other, kept]; rfl
  case isTrue =>
    split
    case isTrue => rw [kept]; rfl
    case isFalse => unfold startReport; rw [updPort_other _ _ _ _ other, kept]; rfl

/-- A change of a port that fits its send list. -/
theorem updPort_lists (k : Slot) (f : Port → Port) (s : State)
    (orders : s.ports[k].sendList.length ≤ 8 → (f s.ports[k]).sendList.length ≤ 8) :
    ListsKept s (updPort k f s) := by
  refine ⟨updPort_moves k f s, fun _ => id, id, Nat.le_refl _, fun law j => ?_, id, id, id, Nat.le_refl _⟩
  rw [updPort_get]
  split
  case isFalse => exact law j
  case isTrue same => subst same; exact orders (law j)

theorem forget_lists (k : Slot) (new : ComputerState) (s : State) : ListsKept s (forget k new s) := by
  unfold forget
  split
  case h_4 => exact ListsKept.refl s
  case h_3 => exact (clearExpectation_kept k s).toListsKept
  all_goals exact ((clearDemands_kept k s).trans (clearExpectation_kept k _)).toListsKept

theorem linkEnters_lists (k : Slot) (old new : ComputerState) (s : State) :
    ListsKept s (linkEnters k old new s) := by
  unfold linkEnters
  split
  case isFalse => exact updPort_lists k _ s id
  case isTrue =>
    split
    case isTrue => exact ListsKept.refl s
    case isFalse => exact updPort_lists k _ s id

theorem changeState_lists (k : Slot) (new : ComputerState) (phase : Option JoinPhase)
    (f : Context → Context) (s : State) : ListsKept s (changeState k new phase f s) :=
  ((updContext_lists k _ s).trans (forget_lists k new _)).trans (linkEnters_lists k _ new _)

/-- Contexts and report timers of every slot but one fit. -/
def OthersFit (k : Slot) (s : State) : Prop :=
  ∀ j : Slot, j ≠ k → ContextFits s.contexts[j] ∧ ReportFits s.ports[j] s.contexts[j]

/-- An entry to a state makes the slot's own context and report timer fit, whatever they were: only an entry
from one reporting state to another keeps the timer as it ran. -/
theorem changeState_context (k : Slot) (new : ComputerState) (phase : Option JoinPhase)
    (f : Context → Context) (s : State) (state : ∀ x, (f x).state = x.state)
    (fits : ContextFits (f (contextEnters new phase s.contexts[k])))
    (runs : reporting new = true → reporting s.contexts[k].state = true → s.ports[k].reportTimer.isSome = true)
    (others : OthersFit k s) : ContextLaw (changeState k new phase f s) := by
  refine (contextLaw_iff _).mpr fun j => ?_
  by_cases same : j = k
  case neg =>
    have kept : (changeState k new phase f s).contexts[j] = s.contexts[j] := by
      rw [changeState_contexts]
      exact updContext_other k j (fun x => f (contextEnters new phase x)) s same
    unfold ReportFits
    rw [kept, changeState_reportTimer_other k j new phase f s same]
    exact others j same
  case pos =>
    subst same
    have own : (changeState j new phase f s).contexts[j] = f (contextEnters new phase s.contexts[j]) := by
      rw [changeState_contexts]
      exact updContext_same j (fun x => f (contextEnters new phase x)) s
    unfold ReportFits
    rw [own, changeState_reportTimer, state]
    refine ⟨fits, ?_⟩
    show _ ↔ new = .track ∨ new = .control
    split
    case isFalse quiet => cases new <;> simp_all [reporting]
    case isTrue loud =>
      have isReporting : new = .track ∨ new = .control := by cases new <;> simp_all [reporting]
      refine iff_of_true ?_ isReporting
      split
      case isTrue was => exact runs loud was
      case isFalse => rfl

/-- A context after steps 1 and 2 of R78, with its state's own fields set. -/
theorem contextFits_enters (new : ComputerState) (phase : Option JoinPhase) (x : Context)
    (phased : phase.isSome ↔ new = .join) (quiet : reporting new = false) :
    ContextFits (contextEnters new phase x) := by
  refine ⟨phased, ?_, nofun, nofun, nofun, nofun⟩
  simp only [contextEnters, quiet, Bool.false_eq_true, if_false, Option.isSome_none, false_iff]
  cases new <;> simp_all [reporting]

/-- What an entry of a slot to a state must observe to keep the laws. -/
structure Enters (k : Slot) (new : ComputerState) (phase : Option JoinPhase) (f : Context → Context)
    (s : State) : Prop where
  live : s.contexts[k].state ≠ .vacant ∧ s.contexts[k].state ≠ .fault
  entered : new ≠ .vacant ∧ new ≠ .fault
  flag : s.contexts[k].inProgress = true → FlagState s.contexts[k].state → FlagState new
  plain : ∀ x, (f x).state = x.state ∧ (f x).failures = x.failures ∧ (f x).inProgress = x.inProgress
  fits : ContextFits s.contexts[k] → ContextFits (f (contextEnters new phase s.contexts[k]))

theorem changeState_get (k j : Slot) (new : ComputerState) (phase : Option JoinPhase)
    (f : Context → Context) (s : State) : (changeState k new phase f s).contexts[j] =
      if j = k then f (contextEnters new phase s.contexts[j]) else s.contexts[j] := by
  rw [changeState_contexts]
  exact updContext_get k j (fun x => f (contextEnters new phase x)) s

theorem reportFits_runs {p : Port} {x : Context} (h : ReportFits p x) (loud : reporting x.state = true) :
    p.reportTimer.isSome = true := by
  refine h.mpr ?_
  revert loud
  cases x.state <;> simp [reporting]

theorem othersFit_of_law {s : State} (k : Slot) (law : ContextLaw s) : OthersFit k s :=
  fun j _ => (contextLaw_iff s).mp law j

/-- A flag that stays set goes into a state in which it may be set. -/
theorem changeState_window (k : Slot) (new : ComputerState) (phase : Option JoinPhase)
    (f : Context → Context) (s : State)
    (flag : s.contexts[k].inProgress = true → FlagState s.contexts[k].state → FlagState new)
    (plain : ∀ x, (f x).state = x.state ∧ (f x).inProgress = x.inProgress) (law : WindowCore s) :
    WindowCore (changeState k new phase f s) := by
  have window := (changeState_others k new phase f s).1
  refine windowCore_of (changeState_moves k new phase f s).cfg (by rw [window]) (by rw [window])
    (fun j => ?_) (fun j set state => ?_) law
  · rw [changeState_get]; split
    case isFalse => rfl
    case isTrue => exact (plain _).2
  · rw [changeState_get]; split
    case isFalse => exact state
    case isTrue same => subst same; rw [(plain _).1]; exact flag set state

theorem changeState_kept (k : Slot) (new : ComputerState) (phase : Option JoinPhase)
    (f : Context → Context) (s : State) (h : Enters k new phase f s) :
    Kept s (changeState k new phase f s) where
  toListsKept := changeState_lists k new phase f s
  failure := failureLaw_of (changeState_moves k new phase f s).cfg fun j => by
    rw [changeState_get]
    split
    case isFalse => exact id
    case isTrue same =>
      subst same
      obtain ⟨state, failures, -⟩ := h.plain (contextEnters new phase s.contexts[j])
      rintro ⟨le, fault, vacant⟩
      unfold FailureFits
      rw [state, failures]
      refine ⟨le, ⟨fun full => absurd (fault.mp full) h.live.2, fun e => absurd e h.entered.2⟩,
        fun e => absurd e h.entered.1, fun off => absurd (vacant.mpr off) h.live.1⟩
  context law := by
    obtain ⟨own, report⟩ := (contextLaw_iff s).mp law k
    exact changeState_context k new phase f s (fun x => (h.plain x).1) (h.fits own)
      (fun _ => reportFits_runs report) (othersFit_of_law k law)
  window := changeState_window k new phase f s h.flag fun x => ⟨(h.plain x).1, (h.plain x).2.2⟩

/-! ### The entries to a state -/

theorem enterSettle_kept (k : Slot) (s : State)
    (live : s.contexts[k].state ≠ .vacant ∧ s.contexts[k].state ≠ .fault) : Kept s (enterSettle k s) := by
  refine (changeState_kept k _ _ _ s ?_).trans (deriveOwned_kept k _)
  exact
    { live, entered := by decide, flag := fun _ _ => .inl rfl, plain := fun x => ⟨rfl, rfl, rfl⟩
      fits := fun _ => ⟨by simp [contextEnters], by simp [contextEnters, reporting], fun _ => rfl, nofun, nofun,
        nofun⟩ }

theorem enterTrack_kept (k : Slot) (cause : TrackCause) (zero : Bool) (s : State)
    (live : s.contexts[k].state ≠ .vacant ∧ s.contexts[k].state ≠ .fault) :
    Kept s (enterTrack k cause zero s) := by
  have entry := changeState_kept k .track none (fun x =>
    { x with
      trackCause := some cause
      activeStyle := s.cfg.computers[k].style
      trackTimer := if s.cfg.computers[k].trackTimeout = 0 then none
        else some (s.now + s.cfg.computers[k].trackTimeout * Config.second) }) s
    { live, entered := by decide, flag := fun _ _ => .inr (.inr rfl), plain := fun x => ⟨rfl, rfl, rfl⟩
      fits := fun _ => ⟨by simp [contextEnters], by simp [contextEnters], nofun, nofun, nofun, fun _ => rfl⟩ }
  unfold enterTrack
  dsimp only
  split
  · exact (entry.trans (clearMatches_kept k _)).trans (deriveOwned_kept k _)
  · exact entry.trans (deriveOwned_kept k _)

theorem enterLost_kept (k : Slot) (s : State)
    (live : s.contexts[k].state ≠ .vacant ∧ s.contexts[k].state ≠ .fault)
    (flag : s.contexts[k].inProgress = true → ¬ FlagState s.contexts[k].state) : Kept s (enterLost k s) := by
  refine (changeState_kept k _ _ _ s ?_).trans (deriveOwned_kept k _)
  exact
    { live, entered := by decide, flag := fun set state => absurd state (flag set)
      plain := fun x => ⟨rfl, rfl, rfl⟩
      fits := fun _ => contextFits_enters .lost none _ (by decide) rfl }

theorem enterHello_kept (k : Slot) (s : State)
    (live : s.contexts[k].state ≠ .vacant ∧ s.contexts[k].state ≠ .fault) : Kept s (enterHello k s) := by
  refine (changeState_kept k _ _ _ s ?_).trans (deriveOwned_kept k _)
  exact
    { live, entered := by decide, flag := fun _ _ => .inr (.inl rfl), plain := fun x => ⟨rfl, rfl, rfl⟩
      fits := fun _ => ⟨by simp [contextEnters], by simp [contextEnters, reporting], nofun, fun _ => rfl, nofun,
        nofun⟩ }

theorem issueImage_kept (k : Slot) (s : State) : Kept s (issueImage k s) :=
  (updContext_kept k _ s (fun _ => id) id rfl rfl).trans (sendOrder_kept k _ _)

/-- The image timer runs in JOIN phase IMAGE (R76). -/
theorem startImageTimer_kept (k : Slot) (s : State) (phase : s.contexts[k].phase = some .image) :
    Kept s (startImageTimer k s) :=
  updContext_kept k _ s (fun _ => id)
    (fun ⟨join, cause, settle, hello, _, track⟩ => ⟨join, cause, settle, hello, fun _ => phase, track⟩) rfl rfl

theorem issueImage_phase (k : Slot) (s : State) :
    (issueImage k s).contexts[k].phase = s.contexts[k].phase := by
  unfold issueImage sendOrder
  dsimp only
  rw [updPort_contexts, updContext_same]

theorem enterImage_kept (k : Slot) (s : State)
    (live : s.contexts[k].state ≠ .vacant ∧ s.contexts[k].state ≠ .fault) : Kept s (enterImage k s) := by
  have entry := changeState_kept k .join (some .image) id s
    { live, entered := by decide, flag := fun _ _ => .inr (.inl rfl), plain := fun x => ⟨rfl, rfl, rfl⟩
      fits := fun _ => contextFits_enters .join (some .image) _ (by decide) rfl }
  refine ((entry.trans (deriveOwned_kept k _)).trans (issueImage_kept k _)).trans (startImageTimer_kept k _ ?_)
  rw [issueImage_phase, (deriveOwned_plant k _).contexts, changeState_get, if_pos rfl]
  rfl

theorem sendOrder_contexts (k : Slot) (o : Order) (s : State) : (sendOrder k o s).contexts = s.contexts := rfl

theorem selfRestart_kept (k : Slot) (s : State)
    (live : s.contexts[k].state ≠ .vacant ∧ s.contexts[k].state ≠ .fault) : Kept s (selfRestart k s) := by
  unfold selfRestart
  split
  case isTrue => exact (sendOrder_kept k _ s).trans (enterImage_kept k _ live)
  case isFalse => exact enterImage_kept k s live

theorem pausable_iff (x : Context) :
    pausable x = true ↔ x.state = .control ∨ (x.state = .track ∧ x.inProgress = false) := by
  simp [pausable]

theorem pauseSlot_kept (k : Slot) (s : State) (h : pausable s.contexts[k] = true) : Kept s (pauseSlot k s) := by
  have able := (pausable_iff _).mp h
  have live : s.contexts[k].state ≠ .vacant ∧ s.contexts[k].state ≠ .fault := by
    rcases able with e | ⟨e, -⟩ <;> rw [e] <;> decide
  have rest : ∀ t, t.contexts = s.contexts →
      Kept t (deriveOwned k (changeState k .paused none id (sendOrder k .pause t))) := fun t same => by
    refine ((sendOrder_kept k _ t).trans (changeState_kept k _ _ _ _ ?_)).trans (deriveOwned_kept k _)
    refine
      { live := by rw [sendOrder_contexts, same]; exact live
        entered := by decide
        flag := ?_
        plain := fun x => ⟨rfl, rfl, rfl⟩
        fits := fun _ => contextFits_enters .paused none _ (by decide) rfl }
    rw [sendOrder_contexts, same]
    rcases able with e | ⟨-, e⟩
    · rw [e]; rintro - (h | h | h) <;> cases h
    · rw [e]; nofun
  unfold pauseSlot
  dsimp only
  split
  case isTrue => exact (sendOrder_kept k _ s).trans (rest _ rfl)
  case isFalse => exact rest s rfl

theorem resumeSlot_kept (k : Slot) (s : State) (h : s.contexts[k].state = .paused) :
    Kept s (resumeSlot k s) :=
  (sendOrder_kept k _ s).trans (enterTrack_kept k _ _ _ (by rw [sendOrder_contexts, h]; decide))

/-! ### Flags and counts (R108, R111, R116) -/

/-- One flag more or less in a list of slots without repetition. -/
theorem length_filter_set (l : List Slot) (nodup : l.Nodup) (p q : Slot → Bool) (k : Slot) (mem : k ∈ l)
    (off : p k = false) (on : q k = true) (others : ∀ j, j ≠ k → q j = p j) :
    (l.filter q).length = (l.filter p).length + 1 := by
  induction l with
  | nil => simp at mem
  | cons a l ih =>
    obtain ⟨fresh, nodup⟩ := List.nodup_cons.mp nodup
    by_cases same : a = k
    · subst same
      have rest : l.filter q = l.filter p := List.filter_congr fun j hj =>
        others j fun e => fresh (e ▸ hj)
      simp [off, on, rest]
    · have rest := ih nodup ((List.mem_cons.mp mem).resolve_left fun e => same e.symm)
      rw [List.filter_cons, List.filter_cons, others a same]
      split <;> simp [rest]

/-- The flag of a slot is set: its bore's flags are one more. -/
theorem inProgressOf_set {s t : State} (k : Slot) (cfg : t.cfg = s.cfg) (off : s.contexts[k].inProgress = false)
    (on : t.contexts[k].inProgress = true)
    (others : ∀ j : Slot, j ≠ k → t.contexts[j].inProgress = s.contexts[j].inProgress) (b : Bore) :
    (inProgressOf t b).length = (inProgressOf s b).length + (if b = boreOf s k then 1 else 0) := by
  have bore : ∀ j, boreOf t j = boreOf s j := fun j => by simp only [boreOf, cfg]
  unfold inProgressOf
  split
  case isTrue own =>
    refine length_filter_set _ (List.nodup_finRange 8) _ _ k (List.mem_finRange k) ?_ ?_ fun j other => ?_
    · rw [off]; rfl
    · rw [on, bore, own]; simp
    · rw [others j other, bore]
  case isFalse other =>
    rw [Nat.add_zero]
    congr 1
    refine List.filter_congr fun j _ => ?_
    by_cases same : j = k
    · subst same
      rw [bore]
      have : (boreOf s j == b) = false := by simpa using fun e => other e.symm
      rw [this, Bool.and_false, Bool.and_false]
    · rw [others j same, bore]

theorem countOf_updCount (b c : Bore) (f : Nat → Nat) (s : State) :
    countOf (updCount b f s) c = if c = b then f (countOf s c) else countOf s c := by
  split
  case isTrue same => subst same; exact updCount_same c f s
  case isFalse other => exact updCount_other b c f s other

theorem orderTaken_window (k : Slot) (s : State) : (orderTaken k s).window = s.window := by
  have settle : ∀ t, (enterSettle k t).window = t.window := fun t => by
    unfold enterSettle
    rw [(deriveOwned_plant k _).window, (changeState_others k _ _ _ t).1]
  unfold orderTaken
  split <;> first | rw [settle]; rfl | rfl

/-- The context of a slot that a restart order takes to SETTLE (R79). -/
theorem orderTaken_contexts (k : Slot) (s : State) (settle : s.contexts[k].state ≠ .settle)
    (vacant : s.contexts[k].state ≠ .vacant) :
    (orderTaken k s).contexts = s.contexts.set k { contextEnters .settle none s.contexts[k] with
      failures := if s.contexts[k].state = .fault then 0 else s.contexts[k].failures
      settleTimer := some (s.now + settleSeconds s.cfg.computers[k].settleCode * 1000) } := by
  unfold orderTaken
  split
  case h_7 e => exact absurd e settle
  case h_8 e => exact absurd e vacant
  case h_2 e =>
    rw [enterSettle_contexts, if_pos e]
    simp [sendRestart, sendOrder, contextEnters]
  all_goals
    next e =>
    rw [enterSettle_contexts, if_neg (by rw [e]; decide)]
    rfl

end Sys2Proof.Proofs
end


section
/-! SUPPORT. What the restart window unit keeps of the invariants (R108 to R118): an order issued within the
limit, a window slot freed on entry to CONTROL or FAULT, and the requests and servings made of them. -/

namespace Sys2Proof.Proofs

open Sys2Proof.Machine Sys2Proof.Safety Sys2Proof.Laws

/-! ### An order issued (R111) -/

/-- The slot's entry is off the list, its flag set and its bore's count one more (R111, steps 1 to 3). -/
def flagged (k : Slot) (s : State) : State :=
  updCount (boreOf s k) (· + 1) (updContext k (fun x => { x with inProgress := true })
    (setWaitList (s.window.waitList.filter (·.slot != k)) s))

theorem issueOrder_of_can (k : Slot) (s : State) (can : canIssue s.contexts[k] = true) :
    issueOrder k s = noteIssued k (orderTaken k (flagged k s)) := by
  unfold issueOrder
  rw [if_pos can]
  rfl

theorem issueOrder_of_not (k : Slot) (s : State) (can : canIssue s.contexts[k] = false) :
    issueOrder k s = s := by
  unfold issueOrder
  rw [if_neg (by rw [can]; decide)]

theorem canIssue_iff (x : Context) :
    canIssue x = true ↔ x.inProgress = false ∧ x.state ≠ .vacant ∧ x.state ≠ .settle := by
  simp [canIssue, and_assoc]

theorem enterSettle_lists (k : Slot) (s : State) : ListsKept s (enterSettle k s) :=
  (changeState_lists k _ _ _ s).trans (deriveOwned_kept k _).toListsKept

theorem sendRestart_lists (k : Slot) (s : State) : ListsKept s (sendRestart k s) :=
  (sendRestart_kept k s).toListsKept

theorem orderTaken_lists (k : Slot) (s : State) : ListsKept s (orderTaken k s) := by
  have restart : ∀ t, ListsKept t (enterSettle k (sendRestart k t)) := fun t =>
    (sendRestart_lists k t).trans (enterSettle_lists k _)
  unfold orderTaken
  split
  case h_1 => exact (sendOrder_kept k _ s).toListsKept.trans (restart _)
  case h_2 => exact (updContext_lists k _ s).trans (restart _)
  case h_7 | h_8 => exact ListsKept.refl s
  all_goals exact restart s

/-- What an operation on one slot leaves of the others. -/
theorem othersFit_of {s t : State} {k : Slot}
    (contexts : ∀ j : Slot, j ≠ k → t.contexts[j] = s.contexts[j])
    (ports : ∀ j : Slot, j ≠ k → t.ports[j] = s.ports[j]) (h : OthersFit k s) : OthersFit k t :=
  fun j other => by rw [contexts j other, ports j other]; exact h j other

theorem enterSettle_context (k : Slot) (s : State) (others : OthersFit k s) : ContextLaw (enterSettle k s) := by
  refine (deriveOwned_kept k _).context (changeState_context k .settle none _ s (fun _ => rfl) ?_ nofun others)
  exact ⟨by simp [contextEnters], by simp [contextEnters, reporting], fun _ => rfl, nofun, nofun, nofun⟩

theorem restart_context (k : Slot) (s : State) (others : OthersFit k s) :
    ContextLaw (enterSettle k (sendRestart k s)) :=
  enterSettle_context k _
    (othersFit_of (s := s) (fun _ _ => rfl) (fun _ other => sendOrder_other k _ _ s other) others)

theorem orderTaken_context (k : Slot) (s : State) (settle : s.contexts[k].state ≠ .settle)
    (vacant : s.contexts[k].state ≠ .vacant) (others : OthersFit k s) : ContextLaw (orderTaken k s) := by
  unfold orderTaken
  split
  case h_1 =>
    exact restart_context k _
      (othersFit_of (s := s) (fun _ _ => rfl) (fun _ other => sendOrder_other k _ _ s other) others)
  case h_2 =>
    exact restart_context k _
      (othersFit_of (fun _ other => updContext_other k _ _ s other) (fun _ _ => rfl) others)
  case h_7 e => exact absurd e settle
  case h_8 e => exact absurd e vacant
  all_goals exact restart_context k s others

theorem flagged_contexts (k j : Slot) (s : State) : (flagged k s).contexts[j] =
    if j = k then { s.contexts[j] with inProgress := true } else s.contexts[j] := by
  unfold flagged
  rw [updCount_contexts, updContext_get]
  rfl

theorem flagged_cfg (k : Slot) (s : State) : (flagged k s).cfg = s.cfg := by
  simp [flagged]

/-- The contexts after an order has been issued. -/
theorem ordered_contexts (k j : Slot) (s : State) (can : canIssue s.contexts[k] = true) :
    (orderTaken k (flagged k s)).contexts[j] = if j = k then
      { contextEnters .settle none s.contexts[j] with
        inProgress := true
        failures := if s.contexts[j].state = .fault then 0 else s.contexts[j].failures
        settleTimer := some (s.now + settleSeconds s.cfg.computers[j].settleCode * 1000) }
    else s.contexts[j] := by
  obtain ⟨-, vacant, settle⟩ := (canIssue_iff _).mp can
  have own : (flagged k s).contexts[k] = { s.contexts[k] with inProgress := true } := by
    rw [flagged_contexts, if_pos rfl]
  have now : (flagged k s).now = s.now := by simp [flagged]
  rw [orderTaken_contexts k _ (by rw [own]; exact settle) (by rw [own]; exact vacant), own, now, flagged_cfg]
  by_cases same : j = k
  case pos =>
    subst same
    rw [if_pos rfl]
    exact updContext_same j (fun _ => _) (flagged j s)
  case neg =>
    rw [if_neg same]
    exact (updContext_other k j (fun _ => _) (flagged k s) same).trans ((flagged_contexts k j s).trans
      (if_neg same))

theorem flagged_lists (k : Slot) (s : State) : ListsKept s (flagged k s) :=
  (((setWaitList_kept _ s fun h => nodup_of_sublist h List.filter_sublist).toListsKept).trans
    (updContext_lists k _ _)).trans (updCount_lists _ _ _)

/-- A restart order issued below the bore's limit keeps the laws: flag and count rise together (R108). -/
theorem ordered_kept (k : Slot) (s : State) (can : canIssue s.contexts[k] = true)
    (room : countOf s (boreOf s k) < limitOf s (boreOf s k)) : Kept s (orderTaken k (flagged k s)) := by
  obtain ⟨off, vacant, settle⟩ := (canIssue_iff _).mp can
  have lists := (flagged_lists k s).trans (orderTaken_lists k (flagged k s))
  have own : (flagged k s).contexts[k] = { s.contexts[k] with inProgress := true } := by
    rw [flagged_contexts, if_pos rfl]
  refine ⟨lists, failureLaw_of lists.moves.cfg fun j => ?_, fun law => ?_, fun law => ⟨fun b => ?_, fun j => ?_⟩⟩
  · rw [ordered_contexts k j s can]
    split
    case isFalse => exact id
    case isTrue same =>
      subst same
      rintro ⟨le, fault, off⟩
      refine ⟨?_, ⟨fun full => ?_, nofun⟩, ⟨nofun, fun disabled => absurd (off.mpr disabled) vacant⟩⟩ <;>
        dsimp only at * <;> split at * <;> simp_all
  · refine orderTaken_context k _ (by rw [own]; exact settle) (by rw [own]; exact vacant)
      (othersFit_of (fun j other => ?_) (fun j other => by simp [flagged]) (othersFit_of_law k law))
    rw [flagged_contexts, if_neg other]
  · have counts : countOf (orderTaken k (flagged k s)) b =
        countOf s b + (if b = boreOf s k then 1 else 0) := by
      have window : countOf (orderTaken k (flagged k s)) b = countOf (flagged k s) b := by
        cases b <;> simp only [countOf, orderTaken_window]
      rw [window, flagged, countOf_updCount]
      split
      · cases b <;> rfl
      · cases b <;> rfl
    have flags := inProgressOf_set k lists.moves.cfg off (by rw [ordered_contexts k k s can, if_pos rfl])
      (fun j other => by rw [ordered_contexts k j s can, if_neg other]) b
    have limit : limitOf (orderTaken k (flagged k s)) b = limitOf s b := by
      cases b <;> simp only [limitOf, lists.moves.cfg]
    rw [counts, flags, limit]
    obtain ⟨count, le⟩ := law.1 b
    split
    case isTrue same => subst same; omega
    case isFalse => omega
  · rw [ordered_contexts k j s can]
    split
    case isTrue => exact fun _ => .inl rfl
    case isFalse => exact law.2 j

theorem noteIssued_kept (k : Slot) (s : State) : Kept s (noteIssued k s) := by
  unfold noteIssued
  split
  case h_2 => exact Kept.refl s
  case h_1 =>
    split
    case isTrue => exact updExecutor_kept (fun x => { x with watch := { x.watch with ordered := true } }) s
    case isFalse => exact Kept.refl s

theorem issueOrder_kept (k : Slot) (s : State) (room : countOf s (boreOf s k) < limitOf s (boreOf s k)) :
    Kept s (issueOrder k s) := by
  cases can : canIssue s.contexts[k]
  case false => rw [issueOrder_of_not k s can]; exact Kept.refl s
  case true =>
    rw [issueOrder_of_can k s can]
    exact (ordered_kept k s can room).trans (noteIssued_kept k _)

theorem serveEntries_kept (b : Bore) (l : List WaitEntry) (s : State) : Kept s (serveEntries b l s) := by
  refine foldl_kept _ (fun s e => ?_) l s
  split
  case isTrue h =>
    obtain ⟨bore, room⟩ := h
    exact issueOrder_kept e.slot s (bore ▸ room)
  case isFalse => exact Kept.refl s

theorem serveBore_kept (b : Bore) (s : State) : Kept s (serveBore b s) := serveEntries_kept b _ s

/-! ### Requests (R110, R112) -/

theorem joinEntry_slot (r : Requester) (e : WaitEntry) : (joinEntry r e).slot = e.slot := by
  unfold joinEntry
  split <;> rfl

theorem nodup_waits_map (f : WaitEntry → WaitEntry) (l : List WaitEntry) (same : ∀ e, (f e).slot = e.slot)
    (h : (l.map (·.slot)).Nodup) : ((l.map f).map (·.slot)).Nodup := nodup_overwritten l f same h

/-- The rows of R110, with what holds where each is taken. -/
theorem requestRow_cases (s : State) (k : Slot) :
    (requestRow s k = .inProgress ∧ s.contexts[k].inProgress = true) ∨
    (s.contexts[k].inProgress = false ∧
      ((requestRow s k = .waiting ∧ isWaiting s k = true) ∨
       (isWaiting s k = false ∧
        ((requestRow s k = .vacant ∧ s.contexts[k].state = .vacant) ∨
         (s.contexts[k].state ≠ .vacant ∧
          ((requestRow s k = .issue ∧ countOf s (boreOf s k) < limitOf s (boreOf s k) ∧
              boreWaits s (boreOf s k) = false) ∨
           (requestRow s k = .append ∧ (limitOf s (boreOf s k) ≤ countOf s (boreOf s k) ∨
              boreWaits s (boreOf s k) = true)))))))) := by
  unfold requestRow
  dsimp only
  split
  case isTrue set => exact .inl ⟨rfl, set⟩
  case isFalse off =>
    refine .inr ⟨by simpa only [Bool.not_eq_true] using off, ?_⟩
    split
    case isTrue waits => exact .inl ⟨rfl, waits⟩
    case isFalse none =>
      refine .inr ⟨by simpa only [Bool.not_eq_true] using none, ?_⟩
      split
      case isTrue vacant => exact .inl ⟨rfl, vacant⟩
      case isFalse live =>
        refine .inr ⟨live, ?_⟩
        split
        case isTrue room => exact .inl ⟨rfl, room⟩
        case isFalse full =>
          refine .inr ⟨rfl, ?_⟩
          by_contra h
          push Not at h
          exact full ⟨h.1, by simpa using h.2⟩

theorem takeRequest_kept (r : Requester) (k : Slot) (s : State) : Kept s (takeRequest r k s) := by
  have rows := requestRow_cases s k
  unfold takeRequest
  split
  case h_1 => exact Kept.refl s
  case h_2 =>
    refine setWaitList_kept _ s (nodup_waits_map _ _ fun e => ?_)
    split
    case isTrue => exact joinEntry_slot r e
    case isFalse => rfl
  case h_3 => exact Kept.refl s
  case h_4 row =>
    refine issueOrder_kept k s ?_
    simp only [row, reduceCtorEq, false_and, false_or, true_and, or_false] at rows
    exact rows.2.2.2.1
  case h_5 row =>
    simp only [row, reduceCtorEq, false_and, false_or, true_and] at rows
    refine (setWaitList_kept _ s fun h => ?_).trans (latch_kept _ _ _)
    rw [List.map_append]
    refine List.Nodup.append h (List.nodup_singleton _) fun a ha hb => ?_
    obtain ⟨e, he, rfl⟩ := List.mem_map.mp ha
    have waits : isWaiting s k = true :=
      (isWaiting_iff s k).mpr ⟨e, he, by simpa [newEntry] using hb⟩
    rw [rows.2.1] at waits
    exact nomatch waits

theorem requestRecovery_kept (k : Slot) (s : State) : Kept s (requestRecovery k s) := takeRequest_kept _ k s

theorem dropRecovery_kept (k : Slot) (s : State) : Kept s (dropRecovery k s) :=
  setWaitList_kept _ s fun h => nodup_waits_map _ _ (fun e => by split <;> rfl)
    (nodup_of_sublist h List.filter_sublist)

theorem dropEntry_kept (k : Slot) (s : State) : Kept s (dropEntry k s) :=
  setWaitList_kept _ s fun h => nodup_of_sublist h List.filter_sublist

theorem dropPlan_kept (p : PlanNo) (s : State) : Kept s (dropPlan p s) :=
  setWaitList_kept _ s fun h => nodup_waits_map _ _ (fun e => by split <;> rfl)
    (nodup_of_sublist h List.filter_sublist)

/-! ### A window slot freed (R116, R118) -/

/-- A slot's RECOVERY entry is off the list, and where its flag was set it is clear and its bore's count one
less; its bore's queue is yet to be served. -/
def freed (k : Slot) (s : State) : State :=
  if s.contexts[k].inProgress then
    updCount (boreOf s k) (· - 1) (updContext k (fun x => { x with inProgress := false }) (dropRecovery k s))
  else dropRecovery k s

theorem releaseWindow_eq (k : Slot) (s : State) : releaseWindow k s =
    if s.contexts[k].inProgress then serveBore (boreOf s k) (freed k s) else freed k s := by
  unfold releaseWindow freed
  dsimp only
  split
  case isTrue on =>
    have set : s.contexts[k].inProgress = true := on
    rw [if_pos set, if_pos set]
    rfl
  case isFalse off =>
    have clear : ¬ s.contexts[k].inProgress = true := off
    rw [if_neg clear, if_neg clear]

theorem freed_lists (k : Slot) (s : State) : ListsKept s (freed k s) := by
  have drop := (dropRecovery_kept k s).toListsKept
  unfold freed
  split
  case isTrue => exact (drop.trans (updContext_lists k _ _)).trans (updCount_lists _ _ _)
  case isFalse => exact drop

theorem freed_set (k : Slot) (s : State) (on : s.contexts[k].inProgress = true) : freed k s =
    updCount (boreOf s k) (· - 1) (updContext k (fun x => { x with inProgress := false })
      (dropRecovery k s)) := if_pos on

theorem freed_clear (k : Slot) (s : State) (off : s.contexts[k].inProgress = false) :
    freed k s = dropRecovery k s := if_neg (by rw [off]; decide)

theorem clearFlag_of_clear (x : Context) (off : x.inProgress = false) :
    { x with inProgress := false } = x := by
  cases x
  cases off
  rfl

theorem freed_contexts (k j : Slot) (s : State) : (freed k s).contexts[j] =
    if j = k then { s.contexts[j] with inProgress := false } else s.contexts[j] := by
  cases on : s.contexts[k].inProgress
  case true =>
    rw [freed_set k s on, updCount_contexts, updContext_get]
    rfl
  case false =>
    rw [freed_clear k s on]
    split
    case isTrue same => subst same; exact (clearFlag_of_clear _ on).symm
    case isFalse => rfl

theorem freed_ports (k : Slot) (s : State) : (freed k s).ports = s.ports := by
  unfold freed
  split <;> simp [dropRecovery]

theorem freed_count (k : Slot) (s : State) (b : Bore) : countOf (freed k s) b =
    countOf s b - (if b = boreOf s k ∧ s.contexts[k].inProgress = true then 1 else 0) := by
  have drop : ∀ f, countOf (updContext k f (dropRecovery k s)) b = countOf s b := fun f => by cases b <;> rfl
  unfold freed
  split
  case isTrue on =>
    rw [countOf_updCount, drop]
    by_cases same : b = boreOf s k <;> simp only [same, on, and_true, if_true, if_false, Nat.sub_zero]
  case isFalse off =>
    rw [if_neg fun h => off h.2]
    cases b <;> rfl

/-- A slot that has entered CONTROL or FAULT and is then freed keeps the window law: its flag falls with its
bore's count. What the entry did is given by what it left: flags, counts, and the other slots. -/
theorem freed_window {s u : State} (k : Slot) (cfg : u.cfg = s.cfg) (window : u.window = s.window)
    (flags : ∀ j : Slot, u.contexts[j].inProgress = s.contexts[j].inProgress)
    (others : ∀ j : Slot, j ≠ k → u.contexts[j].state = s.contexts[j].state) (law : WindowCore s) :
    WindowCore (freed k u) := by
  have cfg' : (freed k u).cfg = u.cfg := (freed_lists k u).moves.cfg
  have bore : ∀ j, boreOf u j = boreOf s j := fun j => by simp only [boreOf, cfg]
  have count : ∀ b, countOf u b = countOf s b := fun b => by cases b <;> simp only [countOf, window]
  refine ⟨fun b => ?_, fun j => ?_⟩
  · have limit : limitOf (freed k u) b = limitOf s b := by cases b <;> simp only [limitOf, cfg', cfg]
    have flagsU : (inProgressOf u b).length = (inProgressOf s b).length := by
      simp only [inProgressOf, flags, bore]
    obtain ⟨exact', le⟩ := law.1 b
    rw [freed_count, limit, count]
    cases on : u.contexts[k].inProgress
    case false =>
      have same : inProgressOf (freed k u) b = inProgressOf u b := by
        refine List.filter_congr fun j _ => ?_
        rw [freed_contexts]
        split
        case isFalse => simp only [boreOf, cfg']
        case isTrue e => subst e; rw [on]; rfl
      rw [same, flagsU]
      simp only [Bool.false_eq_true, and_false, if_false, Nat.sub_zero]
      exact ⟨exact', le⟩
    case true =>
      have one := inProgressOf_set (s := freed k u) (t := u) k cfg'.symm
        (by rw [freed_contexts, if_pos rfl]) on (fun j other => by rw [freed_contexts, if_neg other]) b
      have : boreOf (freed k u) k = boreOf u k := by simp only [boreOf, cfg']
      rw [this] at one
      simp only [and_true]
      omega
  · rw [freed_contexts]
    split
    case isTrue => exact nofun
    case isFalse other =>
      rw [flags, others j other]
      exact law.2 j

/-- An entry to CONTROL or FAULT, freed, keeps the laws where the entry itself keeps lists, failures and
contexts. -/
theorem freed_kept {s u : State} (k : Slot) (lists : ListsKept s u) (window : u.window = s.window)
    (flags : ∀ j : Slot, u.contexts[j].inProgress = s.contexts[j].inProgress)
    (others : ∀ j : Slot, j ≠ k → u.contexts[j].state = s.contexts[j].state)
    (failure : FailureLaw s → FailureLaw u) (context : ContextLaw s → ContextLaw u) : Kept s (freed k u) where
  toListsKept := lists.trans (freed_lists k u)
  failure law := by
    refine failureLaw_of (freed_lists k u).moves.cfg (fun j => ?_) (failure law)
    rw [freed_contexts]
    split <;> exact id
  context law := by
    refine (contextLaw_iff _).mpr fun j => ?_
    rw [freed_contexts, freed_ports]
    have h := (contextLaw_iff u).mp (context law) j
    split
    case isTrue => exact h
    case isFalse => exact h
  window := freed_window k lists.moves.cfg window flags others

/-- Serving the freed bore follows. -/
theorem releaseWindow_kept {s u : State} (k : Slot) (h : Kept s (freed k u)) : Kept s (releaseWindow k u) := by
  rw [releaseWindow_eq]
  split
  case isTrue => exact h.trans (serveBore_kept _ _)
  case isFalse => exact h

end Sys2Proof.Proofs
end


section
/-! SUPPORT. What the plan executor and the outcomes of a computer's change keep of the invariants (R86 to R98,
R128 to R151). -/

namespace Sys2Proof.Proofs

open Sys2Proof.Machine Sys2Proof.Safety Sys2Proof.Laws

/-! ### The plan executor -/

theorem awaitStep_kept (st : PlanStep) (s : State) : Kept s (awaitStep st s).1 :=
  updExecutor_kept (fun x => { x with stepTimer := timeoutDeadline s st.timeout }) s

theorem startRestart_kept (p : PlanNo) (k : Slot) (st : PlanStep) (s : State) :
    Kept s (startRestart p k st s).1 := by
  unfold startRestart
  dsimp only
  split
  case isTrue =>
    dsimp only
    exact (takeRequest_kept _ k s).trans (updExecutor_kept _ _)
  case isFalse => exact ((takeRequest_kept _ k s).trans (updExecutor_kept _ _)).trans (awaitStep_kept st _)

theorem startPause_kept (k : Slot) (s : State) : Kept s (startPause k s).1 := by
  unfold startPause
  split
  case isTrue able => exact pauseSlot_kept k s able
  case isFalse => exact Kept.refl s

theorem startResume_kept (k : Slot) (st : PlanStep) (s : State) : Kept s (startResume k st s).1 := by
  unfold startResume
  split
  case isTrue paused =>
    exact ((resumeSlot_kept k s paused).trans (updExecutor_kept _ _)).trans (awaitStep_kept st _)
  case isFalse => exact Kept.refl s

theorem startAction_kept (p : PlanNo) (i : Nat) (st : PlanStep) (s : State) :
    Kept s (startAction p i st s).1 := by
  unfold startAction
  split
  case h_1 =>
    split
    · exact startRestart_kept p _ st s
    · exact Kept.refl s
  case h_2 =>
    split
    · exact startPause_kept _ s
    · exact Kept.refl s
  case h_3 =>
    split
    · exact startResume_kept _ st s
    · exact Kept.refl s
  case h_4 =>
    dsimp only
    exact updExecutor_kept _ s
  case h_5 => exact awaitStep_kept st s
  case h_6 =>
    split
    · exact Kept.refl s
    · exact awaitStep_kept st s
  case h_7 => exact (updExecutor_kept _ s).trans (placeMark_kept _ _ _ _ _)

theorem startStep_kept (p : PlanNo) (i : Nat) (st : PlanStep) (s : State) : Kept s (startStep p i st s).1 :=
  (updExecutor_kept _ s).trans (startAction_kept p i st _)

theorem noteFailure_kept (st : PlanStep) (s : State) : Kept s (noteFailure st s) :=
  (updExecutor_kept _ s).trans (latch_kept _ _ _)

theorem endPlan_kept (p : PlanNo) (result : PlanResult) (s : State) : Kept s (endPlan p result s) :=
  (((updExecutor_kept _ s).trans (dropPlan_kept p _)).trans (updExecutor_kept _ _)).trans (latch_kept _ _ _)

theorem runSteps_kept (p : PlanNo) (onFail : OnFail) (onEnd : State → State) (h : ∀ s, Kept s (onEnd s)) :
    ∀ (l : List (PlanStep × Nat)) (s : State), Kept s (runSteps p onFail onEnd l s)
  | [], s => h s
  | (st, i) :: rest, s => by
    have first := startStep_kept p i st s
    unfold runSteps
    split
    case h_1 e => rw [e] at first; exact first
    case h_2 e => rw [e] at first; exact first.trans (runSteps_kept p onFail onEnd h rest _)
    case h_3 e =>
      rw [e] at first
      split
      · exact (first.trans (noteFailure_kept st _)).trans (runSteps_kept p _ onEnd h rest _)
      · exact (first.trans (noteFailure_kept st _)).trans (endPlan_kept p _ _)

theorem countPass_kept (s : State) : Kept s (countPass s) := updExecutor_kept _ s

theorem enterPassWait_kept (s : State) : Kept s (enterPassWait s) := updExecutor_kept _ s

theorem freshPassEnd_kept (p : PlanNo) (r : PlanRecord) (s : State) : Kept s (freshPassEnd p r s) := by
  unfold freshPassEnd
  dsimp only
  refine (countPass_kept s).trans ?_
  split
  case isTrue => exact endPlan_kept p _ _
  case isFalse =>
    split
    · exact enterPassWait_kept _
    · split
      · exact (enterPassWait_kept _).trans (updExecutor_kept _ _)
      · exact enterPassWait_kept _

theorem startPass_kept (p : PlanNo) (r : PlanRecord) (s : State) : Kept s (startPass p r s) :=
  (updExecutor_kept _ s).trans (runSteps_kept p _ _ (freshPassEnd_kept p r) _ _)

theorem passEnd_kept (p : PlanNo) (r : PlanRecord) (s : State) : Kept s (passEnd p r s) := by
  unfold passEnd
  dsimp only
  refine (countPass_kept s).trans ?_
  split
  case isTrue => exact endPlan_kept p _ _
  case isFalse =>
    split
    · exact enterPassWait_kept _
    · split
      · exact (updExecutor_kept _ _).trans (startPass_kept p r _)
      · split
        · exact startPass_kept p r _
        · exact enterPassWait_kept _

theorem completeStep_kept (p : PlanNo) (r : PlanRecord) (i : Nat) (s : State) :
    Kept s (completeStep p r i s) :=
  (updExecutor_kept _ s).trans (runSteps_kept p _ _ (passEnd_kept p r) _ _)

theorem failStep_kept (p : PlanNo) (r : PlanRecord) (i : Nat) (st : PlanStep) (s : State) :
    Kept s (failStep p r i st s) := by
  unfold failStep
  split
  · exact (noteFailure_kept st s).trans (runSteps_kept p _ _ (passEnd_kept p r) _ _)
  · exact (noteFailure_kept st s).trans (endPlan_kept p _ _)

theorem noteControl_kept (k : Slot) (cause : Option TrackCause) (s : State) :
    Kept s (noteControl k cause s) := by
  unfold noteControl
  split
  · split
    · exact completeStep_kept _ _ _ s
    · exact Kept.refl s
  · exact Kept.refl s

theorem noteFault_kept (k : Slot) (s : State) : Kept s (noteFault k s) := by
  unfold noteFault
  split
  · split
    · exact failStep_kept _ _ _ _ s
    · exact Kept.refl s
  · exact Kept.refl s

theorem noteCredit_kept (s : State) : Kept s (noteCredit s) := by
  unfold noteCredit
  split
  · split
    · exact completeStep_kept _ _ _ s
    · exact Kept.refl s
  · exact Kept.refl s

theorem stepExpired_kept (s : State) : Kept s (stepExpired s) := by
  unfold stepExpired
  dsimp only
  refine (updExecutor_kept (fun x => { x with stepTimer := none }) s).trans ?_
  split
  · split
    · exact completeStep_kept _ _ _ _
    · exact failStep_kept _ _ _ _ _
  · exact Kept.refl _

theorem passExpired_kept (s : State) : Kept s (passExpired s) := by
  unfold passExpired
  dsimp only
  refine (updExecutor_kept (fun x => { x with passTimer := none }) s).trans ?_
  split
  case h_1 => exact Kept.refl _
  case h_2 =>
    split
    case h_1 => exact (updExecutor_kept _ _).trans (startPass_kept _ _ _)
    case h_2 =>
      split
      · exact (latch_kept _ _ _).trans (endPlan_kept _ _ _)
      · exact (latch_kept _ _ _).trans (updExecutor_kept _ _)
    all_goals exact Kept.refl _

theorem takeEdge_kept (s : State) : Kept s (takeEdge s) := by
  unfold takeEdge
  split
  case h_1 => exact startPass_kept _ _ s
  case h_2 =>
    dsimp only
    split
    · split
      · exact completeStep_kept _ _ _ s
      · split
        · exact (latch_kept _ _ s).trans (endPlan_kept _ _ _)
        · exact (latch_kept _ _ s).trans (count_kept _ _)
        · exact count_kept _ s
    · exact count_kept _ s
  case h_3 =>
    split
    · exact startPass_kept _ _ s
    · exact count_kept _ s
  case h_4 => exact count_kept _ s

theorem startPlan_kept (p : PlanNo) (s : State) : Kept s (startPlan p s) := by
  unfold startPlan
  dsimp only
  split
  · exact (updExecutor_kept _ s).trans (updExecutor_kept _ _)
  · exact ((updExecutor_kept _ s).trans (updExecutor_kept _ _)).trans (startPass_kept _ _ _)

theorem endExecuting_kept (result : PlanResult) (s : State) : Kept s (endExecuting result s) := by
  unfold endExecuting
  split
  · exact endPlan_kept _ _ s
  · exact Kept.refl s

theorem stopAtPassEnd_kept (s : State) : Kept s (stopAtPassEnd s) := by
  unfold stopAtPassEnd
  split
  · exact updExecutor_kept _ s
  · exact endExecuting_kept _ s

/-! ### Entry to CONTROL and to FAULT (R88, R98) -/

/-- A slot that has entered CONTROL with its GRANT and failures 0, its window not yet released (R88). -/
def controlled (k : Slot) (s : State) : State :=
  let t := changeState k .control none id s
  updContext k (fun x => { x with failures := 0 })
    (sendOrder k (.grant t.contexts[k].generation (ownedBy t k).length) t)

theorem enterControl_eq (k : Slot) (s : State) : enterControl k s =
    (fun t => noteControl k t.contexts[k].trackCause t)
      (deriveOwned k (latch .computerControl (some (.slot k)) (releaseWindow k (controlled k s)))) := rfl

theorem controlled_contexts (k j : Slot) (s : State) : (controlled k s).contexts[j] = if j = k then
      { contextEnters .control none s.contexts[j] with failures := 0 } else s.contexts[j] := by
  unfold controlled
  dsimp only
  rw [updContext_get]
  simp only [sendOrder_contexts]
  rw [changeState_get]
  split <;> rfl

theorem controlled_lists (k : Slot) (s : State) : ListsKept s (controlled k s) := by
  unfold controlled
  dsimp only
  exact ((changeState_lists k _ _ _ s).trans (sendOrder_kept k _ _).toListsKept).trans (updContext_lists k _ _)

theorem controlled_kept (k : Slot) (s : State) (track : s.contexts[k].state = .track) :
    Kept s (freed k (controlled k s)) := by
  refine freed_kept k (controlled_lists k s) ?_ (fun j => ?_) (fun j other => ?_) ?_ fun law => ?_
  · exact (changeState_others k _ _ _ s).1
  · rw [controlled_contexts]; split <;> rfl
  · rw [controlled_contexts, if_neg other]
  · refine failureLaw_of (controlled_lists k s).moves.cfg fun j => ?_
    rw [controlled_contexts]
    split
    case isFalse => exact id
    case isTrue same =>
      subst same
      rintro ⟨-, -, vacant⟩
      refine ⟨Nat.zero_le 7, ⟨nofun, nofun⟩, nofun, fun off => ?_⟩
      exact nomatch track.symm.trans (vacant.mpr off)
  · obtain ⟨⟨-, cause, -⟩, report⟩ := (contextLaw_iff s).mp law k
    have entered := changeState_context k .control none id s (fun _ => rfl)
      ⟨by simp [contextEnters], iff_of_true (cause.mpr (.inl track)) (.inr rfl), nofun, nofun, nofun, nofun⟩
      (fun _ => reportFits_runs report) (othersFit_of_law k law)
    exact updContext_context k _ _ id rfl ((sendOrder_kept k _ _).context entered)

theorem enterControl_kept (k : Slot) (s : State) (track : s.contexts[k].state = .track) :
    Kept s (enterControl k s) :=
  (((releaseWindow_kept k (controlled_kept k s track)).trans (latch_kept _ _ _)).trans
    (deriveOwned_kept k _)).trans (noteControl_kept k _ _)

/-! ### Failed attempts (R97, R98) -/

/-- An attempt is counted with ATTEMPT_FAILED latched (R97). -/
def attempted (k : Slot) (s : State) : State :=
  latch .attemptFailed (some (.slot k))
    (updContext k (fun x => { x with failures := min Config.faultFailures (s.contexts[k].failures + 1) }) s)

theorem failAttempt_eq (k : Slot) (s : State) : failAttempt k s =
    if 7 ≤ s.contexts[k].failures + 1 then enterFault k (attempted k s)
    else if s.contexts[k].inProgress then enterSettle k (sendRestart k (attempted k s))
    else requestRecovery k (enterLost k (attempted k s)) := by
  have flag : (attempted k s).contexts[k].inProgress = s.contexts[k].inProgress := by
    simp only [attempted, latch_contexts, updContext_same]
  rw [← flag]
  rfl

theorem attempted_contexts (k j : Slot) (s : State) : (attempted k s).contexts[j] = if j = k then
    { s.contexts[j] with failures := min 7 (s.contexts[j].failures + 1) } else s.contexts[j] := by
  unfold attempted
  simp only [latch_contexts]
  rw [updContext_get]
  split
  case isTrue same => subst same; rfl
  case isFalse => rfl

theorem attempted_lists (k : Slot) (s : State) : ListsKept s (attempted k s) :=
  (updContext_lists k _ s).trans (latch_kept _ _ _).toListsKept

theorem attempted_kept (k : Slot) (s : State) (low : s.contexts[k].failures + 1 < 7)
    (live : s.contexts[k].state ≠ .fault) : Kept s (attempted k s) := by
  refine Kept.trans (setFailures_kept k _ s ?_ live) (latch_kept _ _ _)
  simp only [Config.faultFailures]
  omega

theorem attempted_others (k : Slot) (s : State) (others : OthersFit k s) : OthersFit k (attempted k s) :=
  othersFit_of (fun j other => by rw [attempted_contexts, if_neg other])
    (fun j _ => by simp [attempted, latch_ports]) others

/-- A slot that has entered FAULT, its channels derived, its window not yet released (R98). -/
def faulted (k : Slot) (s : State) : State := deriveOwned k (changeState k .fault none id s)

theorem enterFault_eq (k : Slot) (s : State) : enterFault k s =
    noteFault k (latch .computerFault (some (.slot k)) (releaseWindow k (faulted k s))) := rfl

theorem faulted_lists (k : Slot) (s : State) : ListsKept s (faulted k s) :=
  (changeState_lists k _ _ _ s).trans (deriveOwned_kept k _).toListsKept

theorem faulted_contexts (k j : Slot) (s : State) : (faulted k s).contexts[j] = if j = k then
    contextEnters .fault none s.contexts[j] else s.contexts[j] := by
  unfold faulted
  simp only [(deriveOwned_plant k _).contexts]
  rw [changeState_get]
  rfl

theorem faulted_context (k : Slot) (s : State) (others : OthersFit k s) : ContextLaw (faulted k s) :=
  (deriveOwned_kept k _).context (changeState_context k .fault none id s (fun _ => rfl)
    (contextFits_enters .fault none _ (by decide) rfl) nofun others)

theorem attempted_faulted_kept (k : Slot) (s : State) (high : 7 ≤ s.contexts[k].failures + 1)
    (vacant : s.contexts[k].state ≠ .vacant) : Kept s (freed k (faulted k (attempted k s))) := by
  have lists := (attempted_lists k s).trans (faulted_lists k _)
  refine freed_kept k lists ?_ (fun j => ?_) (fun j other => ?_) ?_ fun law => ?_
  · unfold faulted
    rw [(deriveOwned_plant k _).window, (changeState_others k _ _ _ _).1]
    simp [attempted, latch_window]
  · rw [faulted_contexts, attempted_contexts]; split <;> rfl
  · rw [faulted_contexts, if_neg other, attempted_contexts, if_neg other]
  · refine failureLaw_of lists.moves.cfg fun j => ?_
    rw [faulted_contexts, attempted_contexts]
    split
    case isFalse => exact id
    case isTrue same =>
      subst same
      rintro ⟨-, -, off⟩
      refine ⟨Nat.min_le_left 7 _, ⟨fun _ => rfl, fun _ => Nat.min_eq_left high⟩, nofun, fun disabled => ?_⟩
      exact absurd (off.mpr disabled) vacant
  · exact faulted_context k _ (attempted_others k s (othersFit_of_law k law))

theorem enterLost_context (k : Slot) (s : State) (others : OthersFit k s) : ContextLaw (enterLost k s) :=
  (deriveOwned_kept k _).context (changeState_context k .lost none id s (fun _ => rfl)
    (contextFits_enters .lost none _ (by decide) rfl) nofun others)

theorem attempted_state (k : Slot) (s : State) :
    (attempted k s).contexts[k].state = s.contexts[k].state ∧
    (attempted k s).contexts[k].inProgress = s.contexts[k].inProgress := by
  rw [attempted_contexts, if_pos rfl]
  exact ⟨rfl, rfl⟩

/-- What follows the entry to FAULT. -/
theorem enterFault_kept {s u : State} (k : Slot) (h : Kept s (freed k (faulted k u))) :
    Kept s (enterFault k u) := by
  rw [enterFault_eq]
  exact ((releaseWindow_kept k h).trans (latch_kept _ _ _)).trans (noteFault_kept k _)

theorem failAttempt_kept (k : Slot) (s : State)
    (live : s.contexts[k].state ≠ .vacant ∧ s.contexts[k].state ≠ .fault) : Kept s (failAttempt k s) := by
  rw [failAttempt_eq]
  split
  case isTrue high => exact enterFault_kept k (attempted_faulted_kept k s high live.1)
  case isFalse low =>
    have counted := attempted_kept k s (by omega) live.2
    have live' : (attempted k s).contexts[k].state ≠ .vacant ∧ (attempted k s).contexts[k].state ≠ .fault := by
      rw [(attempted_state k s).1]; exact live
    split
    case isTrue => exact (counted.trans (sendRestart_kept k _)).trans (enterSettle_kept k _ live')
    case isFalse off =>
      refine (counted.trans (enterLost_kept k _ live' fun on => ?_)).trans (requestRecovery_kept k _)
      rw [(attempted_state k s).2] at on
      exact absurd on off

/-- A failed attempt makes the slot's own context and report timer fit, whatever the timer was (R69, R93). -/
theorem failAttempt_context (k : Slot) (s : State) (others : OthersFit k s) : ContextLaw (failAttempt k s) := by
  have others' := attempted_others k s others
  rw [failAttempt_eq]
  split
  case isTrue =>
    rw [enterFault_eq]
    refine ((latch_kept _ _ _).trans (noteFault_kept k _)).context ?_
    have law := faulted_context k _ others'
    have freedLaw : ContextLaw (freed k (faulted k (attempted k s))) := by
      refine (contextLaw_iff _).mpr fun j => ?_
      rw [freed_contexts, freed_ports]
      have h := (contextLaw_iff _).mp law j
      split <;> exact h
    rw [releaseWindow_eq]
    split
    · exact (serveBore_kept _ _).context freedLaw
    · exact freedLaw
  case isFalse =>
    split
    case isTrue => exact restart_context k _ others'
    case isFalse => exact (requestRecovery_kept k _).context (enterLost_context k _ others')

/-! ### Reports (R65, R86 to R94) -/

theorem judgeChannel_kept (c : Chan) (s : State) : Kept s (judgeChannel c s) := by
  unfold judgeChannel
  split
  · exact updChannel_kept c _ s ⟨rfl, rfl, rfl, rfl⟩ id rfl rfl
  · exact (updChannel_kept c _ s ⟨rfl, rfl, rfl, rfl⟩ id rfl rfl).trans (count_kept _ _)

theorem judge_kept (k : Slot) (s : State) : Kept s (judge k s) :=
  foldl_kept _ (fun s c => judgeChannel_kept c s) _ s

theorem takePair_kept (k : Slot) (p : Nat × Nat) (s : State) : Kept s (takePair k p s) := by
  unfold takePair
  split
  case h_1 c _ =>
    refine updChannel_kept c _ s ⟨rfl, rfl, rfl, rfl⟩ (fun h => ⟨fun m e => ?_, h.2⟩) rfl rfl
    obtain rfl := Option.some.inj e
    exact Nat.min_le_right _ _
  case h_2 => exact count_kept _ s

theorem takePairs_kept (k : Slot) (pairs : List (Nat × Nat)) (s : State) : Kept s (takePairs k pairs s) :=
  foldl_kept _ (fun s p => takePair_kept k p s) _ s

theorem takeBreak_kept (k : Slot) (s : State) (control : s.contexts[k].state = .control) :
    Kept s (takeBreak k s) := by
  have entry : ∀ t, t.contexts = s.contexts →
      Kept t (enterTrack k .broke true (sendOrder k (.revoke .broke) t)) := fun t same =>
    (sendOrder_kept k _ t).trans
      (enterTrack_kept k _ _ _ (by rw [sendOrder_contexts, same, control]; decide))
  have latched := latch_contexts .broke (some (.slot k)) s
  unfold takeBreak
  dsimp only
  split
  case h_1 => exact latch_kept _ _ s
  case h_2 => exact (latch_kept _ _ s).trans (entry _ latched)
  case h_3 => exact ((latch_kept _ _ s).trans (entry _ latched)).trans (requestRecovery_kept k _)

theorem judge_contexts (k : Slot) (s : State) : (judge k s).contexts = s.contexts := by
  refine foldl_moves (R := fun s t => t.contexts = s.contexts) (fun _ => rfl) (fun h g => g.trans h) _
    (fun s c => ?_) _ s
  unfold judgeChannel
  split
  · rfl
  · rw [count_eq]; rfl

theorem controllerTakes_kept (k : Slot) (h : Health) (s : State) : Kept s (controllerTakes k h s) := by
  unfold controllerTakes
  dsimp only
  refine (updContext_kept k (fun x => { x with lastHealth := some h }) s (fun _ => id) id rfl rfl).trans ?_
  have state : (updContext k (fun x => { x with lastHealth := some h }) s).contexts[k].state =
      s.contexts[k].state := by rw [updContext_same]
  split
  case isTrue track =>
    refine (judge_kept k _).trans ?_
    split
    · refine enterControl_kept k _ ?_
      simp only [judge_contexts, state]
      exact track
    · exact Kept.refl _
  case isFalse =>
    split
    case isTrue control =>
      split
      · exact Kept.refl _
      · exact takeBreak_kept k _ (state.trans control)
    case isFalse => exact Kept.refl _

theorem takePairs_contexts (k : Slot) (pairs : List (Nat × Nat)) (s : State) :
    (takePairs k pairs s).contexts = s.contexts := by
  refine foldl_moves (R := fun s t => t.contexts = s.contexts) (fun _ => rfl) (fun h g => g.trans h) _
    (fun s p => ?_) _ s
  unfold takePair
  split
  · rfl
  · rw [count_eq]

theorem acceptReport_kept (k : Slot) (seq : Nat) (h : Health) (pairs : List (Nat × Nat)) (s : State)
    (reports : reporting s.contexts[k].state = true) : Kept s (acceptReport k seq h pairs s) := by
  have gap : Kept s (if isGap s k seq then count .reportGaps s else s) := by
    split
    · exact count_kept _ s
    · exact Kept.refl s
  have contexts : (if isGap s k seq then count .reportGaps s else s).contexts = s.contexts := by
    split
    · rw [count_eq]
    · rfl
  refine ((((gap.trans (expectAfter_kept k seq _)).trans (takePairs_kept k pairs _)).trans
    (startReport_kept k _ ?_)).trans (controllerTakes_kept k h _)).trans (deriveEach_kept _ _)
  simp only [takePairs_contexts, expectAfter, updPort_contexts, contexts]
  exact reports

theorem reportInLost_kept (k : Slot) (seq : Nat) (h : Health) (pairs : List (Nat × Nat)) (s : State)
    (lost : s.contexts[k].state = .lost) : Kept s (reportInLost k seq h pairs s) := by
  have entry := enterTrack_kept k .returned true s (by rw [lost]; decide)
  have report : Kept s (acceptReport k seq h pairs (enterTrack k .returned true s)) := by
    refine entry.trans (acceptReport_kept k seq h pairs _ ?_)
    simp only [enterTrack_contexts]
    rw [show (s.contexts.set k _)[k] = _ from updContext_same k (fun _ => _) s]
    rfl
  unfold reportInLost
  dsimp only
  split
  · exact report.trans (requestRecovery_kept k _)
  · exact report

theorem helloInJoin_kept (k : Slot) (s : State) (join : s.contexts[k].state = .join) :
    Kept s (helloInJoin k s) := by
  refine ((updContext_kept k _ s (fun _ => id)
    (fun ⟨_, cause, settle, _, _, track⟩ =>
      ⟨iff_of_true rfl join, cause, settle, by simp, fun _ => rfl, track⟩) rfl rfl).trans
    (issueImage_kept k _)).trans (startImageTimer_kept k _ ?_)
  rw [issueImage_phase, updContext_same]

end Sys2Proof.Proofs
end


section
/-! SUPPORT. What each event keeps of the seven laws (`LawsKept`): the changes of one record, the resets and
the entries to ADOPT and RUN (R175 to R182). -/

namespace Sys2Proof.Proofs

open Sys2Proof.Machine Sys2Proof.Safety Sys2Proof.Laws

/-! ### The seven laws -/

/-- Each law of Safety.lean holds after a change where it did before. -/
structure LawsKept (s t : State) : Prop where
  window : WindowLaw s → WindowLaw t
  failure : FailureLaw s → FailureLaw t
  mask : MaskLaw s → MaskLaw t
  credit : CreditLaw s → CreditLaw t
  plant : PlantLaw s → PlantLaw t
  context : ContextLaw s → ContextLaw t
  capacity : CapacityLaw s → CapacityLaw t

theorem LawsKept.refl (s : State) : LawsKept s s := ⟨id, id, id, id, id, id, id⟩

theorem LawsKept.trans {s t u : State} (h : LawsKept s t) (g : LawsKept t u) : LawsKept s u :=
  ⟨g.1 ∘ h.1, g.2 ∘ h.2, g.3 ∘ h.3, g.4 ∘ h.4, g.5 ∘ h.5, g.6 ∘ h.6, g.7 ∘ h.7⟩

theorem foldl_laws {α : Type} (f : State → α → State) (h : ∀ s a, LawsKept s (f s a)) (l : List α)
    (s : State) : LawsKept s (l.foldl f s) := foldl_moves LawsKept.refl LawsKept.trans f h l s

/-- The clock stands in no law. -/
theorem setNow_laws (n : Nat) (s : State) : LawsKept s { s with now := n } := ⟨id, id, id, id, id, id, id⟩

theorem expire_laws (timer : Option Nat) (f : State → State) (s : State) (h : ∀ t, LawsKept t (f t)) :
    LawsKept s (expire timer f s) := by
  cases timer with
  | none => exact LawsKept.refl s
  | some d => exact (setNow_laws _ s).trans (h _)

theorem portFree_eq_false_iff (s : State) : portFree s = false ↔
    s.supervisory.resetWait ≠ .none ∨ 16 ≤ s.supervisory.outgoing.length := by
  unfold portFree Config.takeLimit
  rw [Bool.and_eq_false_iff, beq_eq_false_iff_ne, decide_eq_false_iff_not, Nat.not_lt]

/-- A port that cannot take a command still cannot with more frames on its list. -/
theorem portBusy_of_longer {s t : State} (wait : t.supervisory.resetWait = s.supervisory.resetWait)
    (longer : s.supervisory.outgoing.length ≤ t.supervisory.outgoing.length) (busy : portFree s = false) :
    portFree t = false := by
  rw [portFree_eq_false_iff] at busy ⊢
  rw [wait]
  exact busy.imp id fun h => h.trans longer

theorem ListsKept.capacity {s t : State} (h : ListsKept s t) (law : CapacityLaw s) : CapacityLaw t := by
  obtain ⟨queue, notices, orders, waits, requests, records, busy⟩ := (capacityLaw_iff s).mp law
  refine (capacityLaw_iff t).mpr ⟨?_, h.notices notices, h.orders orders, h.waits waits, h.requests requests,
    h.records records, ?_⟩ <;> rw [h.moves.queue]
  · exact queue
  · exact fun some => portBusy_of_longer h.moves.resetWait h.longer (busy some)

theorem ListsKept.plant {s t : State} (h : ListsKept s t) (law : PlantLaw s) : PlantLaw t := by
  obtain ⟨targets, channels⟩ := (plantLaw_iff s).mp law
  exact (plantLaw_iff t).mpr ⟨targetsFit_of_moves h.moves targets, h.channels targets channels⟩

theorem ListsKept.creditLaw {s t : State} (h : ListsKept s t) (law : CreditLaw s) : CreditLaw t := by
  unfold CreditLaw currentCap
  rw [h.moves.feed, h.moves.cfg, h.moves.partState]
  exact ⟨h.credit.trans law.1, law.2⟩

theorem ListsKept.mask {s t : State} (h : ListsKept s t) (law : MaskLaw s) : MaskLaw t := by
  unfold MaskLaw
  rw [h.moves.cfg, h.moves.store]
  exact law

/-- An operation that keeps what the laws say outside RUN too. -/
theorem Kept.laws {s t : State} (h : Kept s t) (dormant : Dormant s → Dormant t) : LawsKept s t :=
  ⟨fun law => ⟨dormant law.1, h.window law.2⟩, h.failure, h.toListsKept.mask, h.toListsKept.creditLaw,
    h.toListsKept.plant, h.context, h.toListsKept.capacity⟩

theorem dormant_of_run {s : State} (run : s.partState = .run) : Dormant s := fun off => absurd run off

/-- In RUN nothing is said of what is dormant. -/
theorem Kept.laws_run {s t : State} (h : Kept s t) (run : s.partState = .run) : LawsKept s t :=
  h.laws fun _ => dormant_of_run (h.moves.partState.trans run)

/-- What leaves contexts, wait list and executor keeps what is dormant. -/
theorem dormant_of {s t : State} (part : t.partState = s.partState) (contexts : t.contexts = s.contexts)
    (window : t.window = s.window) (executor : t.executor = s.executor) (h : Dormant s) : Dormant t := by
  unfold Dormant
  rw [part, contexts, window, executor]
  exact h

theorem Kept.laws_plant {s t : State} (h : Kept s t) (moves : PlantMoves s t) : LawsKept s t :=
  h.laws (dormant_of moves.partState moves.contexts moves.window moves.executor)

theorem count_laws (source : CounterSource) (s : State) : LawsKept s (count source s) :=
  (count_kept source s).laws_plant (count_plant source s)

theorem serve_laws (s : State) : LawsKept s (serve s) := (serve_kept s).laws_plant (serve_plant s)

theorem derive_laws (c : Chan) (s : State) : LawsKept s (derive c s) :=
  (derive_kept c s).laws_plant (derive_plant c s)

theorem deriveFrom_kept (was : Option ChannelMode) (c : Chan) (s : State) : Kept s (deriveFrom was c s) :=
  let lists := deriveFrom_lists was c s
  .of_plant (deriveFrom_plant was c s)
    (fun targets fit => deriveFrom_fits was c s (deriveReady_of_fits was c s targets.1 fit))
    lists.1 lists.2 lists.3

theorem deriveFrom_laws (was : Option ChannelMode) (c : Chan) (s : State) : LawsKept s (deriveFrom was c s) :=
  (deriveFrom_kept was c s).laws_plant (deriveFrom_plant was c s)

theorem withdraw_kept (c : Chan) (s : State) : Kept s (withdraw c s) :=
  let lists := withdraw_lists c s
  .of_plant (withdraw_plant c s)
    (fun _ fit => withdraw_fits c s
      ⟨fit.1, fit.2.1, fun e he _ => fit.2.2 e he, fun e he _ => (fit.2.2 e he).2.1⟩)
    lists.1 lists.2 lists.3

theorem withdraw_laws (c : Chan) (s : State) : LawsKept s (withdraw c s) :=
  (withdraw_kept c s).laws_plant (withdraw_plant c s)

theorem latch_laws (k : EventKind) (item : Option Item) (s : State) : LawsKept s (latch k item s) :=
  (latch_kept k item s).laws (dormant_of (latch_moves k item s).partState (latch_contexts k item s)
    (latch_window k item s) (latch_executor k item s))

theorem updPort_laws (k : Slot) (f : Port → Port) (s : State)
    (timer : (f s.ports[k]).reportTimer = s.ports[k].reportTimer)
    (orders : s.ports[k].sendList.length ≤ 8 → (f s.ports[k]).sendList.length ≤ 8) :
    LawsKept s (updPort k f s) := (updPort_kept k f s timer orders).laws id

/-- A change of a channel's record that keeps the plant law. -/
theorem updChannel_laws (c : Chan) (f : ChannelRun → ChannelRun) (s : State)
    (fits : TargetsFit s → ChannelsFit s → ChannelsFit (updChannel c f s)) :
    LawsKept s (updChannel c f s) := by
  refine ⟨id, id, id, id, fun law => ?_, id, id⟩
  obtain ⟨targets, channels⟩ := (plantLaw_iff s).mp law
  exact (plantLaw_iff _).mpr ⟨targets, fits targets channels⟩

/-! ### Resets (R175, R176) -/



theorem maskLawful_factory : maskLawful factoryConfig := by
  unfold maskLawful
  decide

theorem targetsLawful_factory : targetsLawful factoryConfig := by
  unfold targetsLawful
  decide

theorem recordLawful_resetChannel : recordLawful resetChannel := by
  simp [recordLawful, resetChannel]

theorem contextFits_reset (cfg : ComputerConfig) : ContextFits (resetContext cfg) := by
  cases h : cfg.enabled <;> simp [ContextFits, resetContext, h]

theorem failureFits_reset (cfg : ComputerConfig) : FailureFits cfg.enabled (resetContext cfg) := by
  cases h : cfg.enabled <;> simp [FailureFits, resetContext, h]

theorem resetContext_state (cfg : ComputerConfig) :
    ((resetContext cfg).state = .vacant ∨ (resetContext cfg).state = .lost) ∧
    (resetContext cfg).inProgress = false := by
  cases h : cfg.enabled <;> simp [resetContext, h]

theorem blocksReset_get (cfg : WorkingConfig) (commissioned : Bool) (s : State) (k : Slot) :
    (blocksReset cfg commissioned s).contexts[k] = resetContext cfg.computers[k] := by
  simp [blocksReset]

theorem blocksReset_window (cfg : WorkingConfig) (commissioned : Bool) (s : State) :
    WindowLaw (blocksReset cfg commissioned s) := by
  have none : ∀ k : Slot, (blocksReset cfg commissioned s).contexts[k].inProgress = false := fun k => by
    rw [blocksReset_get]
    exact (resetContext_state _).2
  refine ⟨fun _ => ⟨fun k => ?_, rfl, rfl⟩, fun b => ?_, fun k set => ?_⟩
  · rw [blocksReset_get]
    exact resetContext_state _
  · have empty : inProgressOf (blocksReset cfg commissioned s) b = [] := by
      refine List.filter_eq_nil_iff.mpr fun k _ => ?_
      rw [none]
      simp
    rw [empty]
    cases b <;> exact ⟨rfl, Nat.zero_le _⟩
  · exact nomatch (none k).symm.trans set

theorem blocksReset_failure (cfg : WorkingConfig) (commissioned : Bool) (s : State) :
    FailureLaw (blocksReset cfg commissioned s) := fun k => by
  rw [blocksReset_get]
  exact failureFits_reset _

theorem blocksReset_channels (cfg : WorkingConfig) (commissioned : Bool) (s : State) (c : Chan) :
    recordLawful (blocksReset cfg commissioned s).channels[c] := by
  have get : (blocksReset cfg commissioned s).channels[c] = resetChannel := by simp [blocksReset]
  rw [get]
  exact recordLawful_resetChannel

theorem blocksReset_port (cfg : WorkingConfig) (commissioned : Bool) (s : State) (k : Slot) :
    (blocksReset cfg commissioned s).ports[k] = resetPort := by simp [blocksReset]

theorem blocksReset_context (cfg : WorkingConfig) (commissioned : Bool) (s : State) :
    ContextLaw (blocksReset cfg commissioned s) := (contextLaw_iff _).mpr fun k => by
  rw [blocksReset_get, blocksReset_port]
  refine ⟨contextFits_reset _, iff_of_false nofun ?_⟩
  rcases (resetContext_state cfg.computers[k]).1 with e | e <;> rw [e] <;> decide

theorem blocksReset_capacity (cfg : WorkingConfig) (commissioned : Bool) (s : State) :
    CapacityLaw (blocksReset cfg commissioned s) := by
  refine (capacityLaw_iff _).mpr ⟨Nat.zero_le 4, ⟨Nat.zero_le 1, Nat.zero_le 31⟩, fun k => ?_, List.nodup_nil,
    List.nodup_nil, List.nodup_nil, fun some => absurd rfl some⟩
  rw [blocksReset_port]
  exact Nat.zero_le 8

/-- Where the configuration is lawful a reset leaves every law. -/
theorem blocksReset_laws (cfg : WorkingConfig) (commissioned : Bool) (s : State)
    (mask : MaskLaw s → maskLawful cfg) (targets : PlantLaw s → targetsLawful cfg) :
    LawsKept s (blocksReset cfg commissioned s) where
  window _ := blocksReset_window cfg commissioned s
  failure _ := blocksReset_failure cfg commissioned s
  mask law := ⟨mask law, law.2.1, nofun⟩
  credit _ := ⟨Nat.le_refl _, fun _ => rfl⟩
  plant law := ⟨targets law, law.2.1, nofun, blocksReset_channels cfg commissioned s, List.nodup_nil, nofun⟩
  context _ := blocksReset_context cfg commissioned s
  capacity _ := blocksReset_capacity cfg commissioned s

theorem holdInReset_laws (kind : ResetKind) (s : State) : LawsKept s (holdInReset kind s) :=
  (blocksReset_laws s.cfg s.commissioned s (·.1) (·.1)).trans ⟨id, id, id, id, id, id, id⟩

theorem resetImage_lawful (kind : ResetKind) (s : State) :
    (MaskLaw s → maskLawful (resetImage kind s).config) ∧
    (PlantLaw s → targetsLawful (resetImage kind s).config) := by
  have stored : (MaskLaw s → maskLawful (if s.store.valid then s.store.image
        else { config := factoryConfig, commissioned := false }).config) ∧
      (PlantLaw s → targetsLawful (if s.store.valid then s.store.image
        else { config := factoryConfig, commissioned := false }).config) := by
    split
    case isTrue => exact ⟨(·.2.1), (·.2.1)⟩
    case isFalse => exact ⟨fun _ => maskLawful_factory, fun _ => targetsLawful_factory⟩
  cases kind with
  | command => exact ⟨(·.1), (·.1)⟩
  | power => exact stored
  | line => exact stored

/-! ### Entry to RUN and to ADOPT (R180, R182) -/

theorem startSlot_kept (k : Slot) (s : State) : Kept s (startSlot k s) := by
  unfold startSlot
  dsimp only
  split
  case isTrue h =>
    refine (clearExpectation_kept k s).trans (enterTrack_kept k _ _ _ ?_)
    rw [h.2]
    decide
  case isFalse => exact clearExpectation_kept k s

/-- The part's own changes at the entry to RUN, ahead of the slots. -/
def runBegun (s : State) : State :=
  { s with
    partState := .run
    adoptionTimer := none
    stepTimer := some (s.now + Config.stepPeriod)
    inputs := { s.inputs with computers := Vector.replicate 8 skipping }
    admission := { s.admission with refillTimer := some (s.now + Config.refillPeriod) } }

theorem runBegun_laws (s : State) : LawsKept s (runBegun s) :=
  ⟨fun law => ⟨dormant_of_run rfl, law.2⟩, id, id, fun law => ⟨law.1, fun off => absurd rfl off⟩, id, id, id⟩

theorem setNext_laws (n : Nat) (s : State) : LawsKept s { s with field := { s.field with next := n } } :=
  ⟨id, id, id, id, id, id, id⟩

/-- Every slot is started, ascending (R182, step 3). -/
def slotsStarted (s : State) : State := allSlots.foldl (fun s k => startSlot k s) s

theorem enterRun_eq (s : State) : enterRun s =
    { slotsStarted (runBegun s) with field := { (slotsStarted (runBegun s)).field with next := 0 } } := by
  unfold enterRun slotsStarted runBegun
  rfl

theorem enterRun_laws (s : State) : LawsKept s (enterRun s) := by
  have slots : Kept (runBegun s) (slotsStarted (runBegun s)) :=
    foldl_kept _ (fun s k => startSlot_kept k s) allSlots (runBegun s)
  rw [enterRun_eq]
  exact ((runBegun_laws s).trans (slots.laws_run rfl)).trans (setNext_laws 0 _)

/-- The part enters ADOPT from a state in which nothing is under way. -/
theorem adoptBegun_laws (s : State) (dormant : s.partState ≠ .run) :
    LawsKept s { s with partState := .adopt } :=
  ⟨fun law => ⟨fun _ => law.1 dormant, law.2⟩, id, id, fun law => ⟨law.1, fun _ => law.2 dormant⟩, id, id, id⟩

theorem enterAdopt_laws (s : State) (dormant : s.partState ≠ .run) : LawsKept s (enterAdopt s) := by
  have begun := adoptBegun_laws s dormant
  unfold enterAdopt
  dsimp only
  split
  case isTrue => exact begun.trans ⟨id, id, id, id, id, id, id⟩
  case isFalse => exact begun.trans (enterRun_laws _)

theorem startUp_laws (kind : ResetKind) (s : State) : LawsKept s (startUp kind s) := by
  obtain ⟨mask, targets⟩ := resetImage_lawful kind s
  have blocks := (blocksReset_laws (resetImage kind s).config (resetImage kind s).commissioned s mask
    targets).trans (u := { blocksReset (resetImage kind s).config (resetImage kind s).commissioned s with
      lastReset := kind, held := false }) ⟨id, id, id, id, id, id, id⟩
  unfold startUp
  dsimp only
  split
  case isTrue => exact blocks.trans (enterAdopt_laws _ nofun)
  case isFalse => exact blocks

/-- Settles O60: the reset state is one in which a reset has taken the factory defaults. -/
theorem resetMeetsTheLaws : Obligations.ResetMeetsTheLaws := by
  have blocks : State.reset = blocksReset factoryConfig false State.reset := by
    simp only [blocksReset, State.reset, neverWritten]
    congr 1
  unfold Obligations.ResetMeetsTheLaws
  rw [blocks]
  exact ⟨blocksReset_window _ _ _, blocksReset_failure _ _ _, blocksReset_context _ _ _,
    ⟨maskLawful_factory, maskLawful_factory, nofun⟩, ⟨Nat.le_refl _, fun _ => rfl⟩, blocksReset_capacity _ _ _,
    ⟨targetsLawful_factory, targetsLawful_factory, nofun, blocksReset_channels _ _ _, List.nodup_nil, nofun⟩⟩

end Sys2Proof.Proofs
end


section
/-! SUPPORT. What the effect of each command keeps of the seven laws (R161): the configuration commands. -/

namespace Sys2Proof.Proofs

open Sys2Proof.Machine Sys2Proof.Safety Sys2Proof.Laws

/-! ### Effects behind a reply (R159) -/

/-- The effect of an answer, made behind the reply, keeps the laws. -/
def EffectKeeps (answer : State → Answer) : Prop :=
  ∀ (s : State) (r : OutFrame), LawsKept (placeOut r s) ((answer s).effect (placeOut r s))

theorem refuse_laws (code : ResultCode) (t : State) : LawsKept t ((refuse code).effect t) := LawsKept.refl t

theorem asOrder_laws (s t : State) (a : Answer) (h : s.partState = .run → LawsKept t (a.effect t)) :
    LawsKept t ((asOrder s a).effect t) := by
  unfold asOrder
  split
  case h_3 run => exact h run
  all_goals exact refuse_laws _ t

theorem asConfiguration_laws (s t : State) (a : Answer) (h : Configurable s → LawsKept t (a.effect t)) :
    LawsKept t ((asConfiguration s a).effect t) := by
  unfold asConfiguration
  split
  case h_1 => exact refuse_laws _ t
  case h_2 e => exact h (.inl e)
  case h_3 e => exact h (.inr e)

theorem withSlot_laws (payload : List Byte) (t : State) (a : Slot → Answer)
    (h : ∀ k, LawsKept t ((a k).effect t)) : LawsKept t ((withSlot payload a).effect t) := by
  unfold withSlot
  split
  · split
    · exact h _
    · exact refuse_laws _ t
  · exact refuse_laws _ t

theorem withChannel_laws (payload : List Byte) (t : State) (a : Chan → Answer)
    (h : ∀ c, LawsKept t ((a c).effect t)) : LawsKept t ((withChannel payload a).effect t) := by
  unfold withChannel
  split
  · split
    · exact h _
    · exact refuse_laws _ t
  · exact refuse_laws _ t

theorem withoutPayload_laws (payload : List Byte) (t : State) (a : Answer) (h : LawsKept t (a.effect t)) :
    LawsKept t ((withoutPayload payload a).effect t) := by
  unfold withoutPayload
  split
  · exact h
  · exact refuse_laws _ t

/-- A change that keeps the laws may follow a change that keeps them, or not. -/
theorem LawsKept.thenIf {s t : State} {g : State → State} {c : Prop} [Decidable c] (h : LawsKept s t)
    (keeps : ∀ u, LawsKept u (g u)) : LawsKept s (if c then g t else t) := by
  split
  case isTrue => exact h.trans (keeps t)
  case isFalse => exact h

/-! ### SET-COMPUTER (R102 to R104) -/

theorem setComputerConfig_get (k j : Slot) (c : ComputerConfig) (s : State) :
    (setComputerConfig k c s).cfg.computers[j] = if j = k then c else s.cfg.computers[j] := by
  by_cases same : j = k
  · subst same; simp [setComputerConfig]
  · have : k.val ≠ j.val := fun e => same (Fin.ext e.symm)
    simp [setComputerConfig, same, this]

theorem boreOf_setComputerConfig (k j : Slot) (c : ComputerConfig) (s : State) :
    boreOf (setComputerConfig k c s) j = if j = k then c.bore else boreOf s j := by
  unfold boreOf
  rw [setComputerConfig_get]
  split <;> rfl

/-- A slot that is not engaged has its flag clear (R76, R107). -/
theorem flag_clear_of_unengaged {s : State} {k : Slot} (law : WindowLaw s)
    (quiet : s.partState = .run → engaged s.contexts[k].state = false) : s.contexts[k].inProgress = false := by
  by_cases run : s.partState = .run
  case neg => exact ((law.1 run).1 k).2
  case pos =>
    by_contra set
    have state := law.2.2 k (by simpa only [Bool.not_eq_false] using set)
    have := quiet run
    rcases state with e | e | e <;> rw [e] at this <;> exact nomatch this

/-- A new configuration of a slot whose bore it keeps, or whose flag is clear, leaves the bores' flags. -/
theorem setComputerConfig_window (k : Slot) (c : ComputerConfig) (s : State)
    (keeps : c.bore = boreOf s k ∨ s.contexts[k].inProgress = false) (law : WindowLaw s) :
    WindowLaw (setComputerConfig k c s) := by
  refine ⟨law.1, fun b => ?_, law.2.2⟩
  have flags : inProgressOf (setComputerConfig k c s) b = inProgressOf s b := by
    refine List.filter_congr fun j _ => ?_
    rw [boreOf_setComputerConfig]
    split
    case isFalse => rfl
    case isTrue same =>
      subst same
      rcases keeps with e | e
      · rw [e]; rfl
      · rw [show (setComputerConfig j c s).contexts[j].inProgress = false from e, e]; rfl
  rw [flags]
  exact law.2.1 b

/-- What a SET-COMPUTER must observe of the slot that it changes (R103). -/
structure ComputerMayChange (k : Slot) (new : ComputerConfig) (s : State) : Prop where
  configurable : Configurable s
  bore : new.bore ≠ boreOf s k → s.partState = .run → engaged s.contexts[k].state = false
  enabled : new.enabled ≠ s.cfg.computers[k].enabled → s.partState = .run →
    engaged s.contexts[k].state = false

theorem computerMayChange_of_allowed (k : Slot) (new : ComputerConfig) (s : State) (conf : Configurable s)
    (allowed : s.partState = .run → computerAllowed k new s = true) : ComputerMayChange k new s := by
  refine ⟨conf, fun changed run => ?_, fun changed run => ?_⟩
  all_goals
    have ok := allowed run
    simp only [computerAllowed, Bool.and_eq_true, Bool.not_eq_true', Bool.and_eq_false_iff,
      Bool.or_eq_false_iff, bne_eq_false_iff_eq] at ok
    rcases ok.1 with ⟨⟨-, bore⟩, enabled⟩ | quiet
  · exact absurd bore changed
  · exact quiet
  · exact absurd enabled changed
  · exact quiet

theorem setComputerConfig_laws (k : Slot) (new : ComputerConfig) (s : State)
    (may : ComputerMayChange k new s) (same : new.enabled = s.cfg.computers[k].enabled) :
    LawsKept s (setComputerConfig k new s) where
  window law := setComputerConfig_window k new s (by
    by_cases bore : new.bore = boreOf s k
    · exact .inl bore
    · exact .inr (flag_clear_of_unengaged law (may.bore bore))) law
  failure law j := by
    rw [setComputerConfig_get]
    split
    case isFalse => exact law j
    case isTrue e => subst e; rw [same]; exact law j
  mask := id
  credit := id
  plant := id
  context := id
  capacity := id

theorem vacate_lists (k : Slot) (s : State) : ListsKept s (vacate k s) :=
  ((changeState_lists k _ _ _ s).trans (dropEntry_kept k _).toListsKept).trans (deriveOwned_kept k _).toListsKept

theorem enterTrack_lists (k : Slot) (cause : TrackCause) (zero : Bool) (s : State) :
    ListsKept s (enterTrack k cause zero s) := by
  unfold enterTrack
  dsimp only
  split
  · exact ((changeState_lists k _ _ _ s).trans (clearMatches_kept k _).toListsKept).trans
      (deriveOwned_kept k _).toListsKept
  · exact (changeState_lists k _ _ _ s).trans (deriveOwned_kept k _).toListsKept

theorem enterTrack_get (k j : Slot) (cause : TrackCause) (zero : Bool) (s : State) :
    (enterTrack k cause zero s).contexts[j] = if j = k then
      { contextEnters .track none s.contexts[j] with
        trackCause := some cause
        activeStyle := s.cfg.computers[j].style
        trackTimer := if s.cfg.computers[j].trackTimeout = 0 then none
          else some (s.now + s.cfg.computers[j].trackTimeout * 1000) }
    else s.contexts[j] := by
  simp only [enterTrack_contexts]
  by_cases same : j = k
  · subst same; simp only [Fin.getElem_fin, Vector.getElem_set_self, if_true]
  · have : k.val ≠ j.val := fun e => same (Fin.ext e.symm)
    simp only [same, if_false, Fin.getElem_fin, Vector.getElem_set_ne _ _ this]

theorem vacate_get (k j : Slot) (s : State) : (vacate k s).contexts[j] = if j = k then
    { contextEnters .vacant none s.contexts[j] with failures := 0 } else s.contexts[j] := by
  have form : (vacate k s).contexts =
      (changeState k .vacant none (fun x => { x with failures := 0 }) s).contexts := by
    unfold vacate
    rw [(deriveOwned_plant k _).contexts]
    rfl
  simp only [form]
  exact changeState_get k j .vacant none _ s

theorem enterTrack_context (k : Slot) (cause : TrackCause) (zero : Bool) (s : State) (law : ContextLaw s) :
    ContextLaw (enterTrack k cause zero s) := by
  have entry := changeState_context k .track none (fun x =>
    { x with
      trackCause := some cause
      activeStyle := s.cfg.computers[k].style
      trackTimer := if s.cfg.computers[k].trackTimeout = 0 then none
        else some (s.now + s.cfg.computers[k].trackTimeout * Config.second) }) s (fun _ => rfl)
    ⟨by simp [contextEnters], by simp [contextEnters], nofun, nofun, nofun, fun _ => rfl⟩
    (fun _ => reportFits_runs ((contextLaw_iff s).mp law k).2) (othersFit_of_law k law)
  unfold enterTrack
  dsimp only
  split
  · exact (deriveOwned_kept k _).context ((clearMatches_kept k _).context entry)
  · exact (deriveOwned_kept k _).context entry

theorem vacate_context (k : Slot) (s : State) (law : ContextLaw s) : ContextLaw (vacate k s) :=
  (deriveOwned_kept k _).context ((dropEntry_kept k _).context (changeState_context k .vacant none _ s
    (fun _ => rfl) (contextFits_enters .vacant none s.contexts[k] (by decide) rfl) nofun
    (othersFit_of_law k law)))

/-- What a changed enabled field does keeps the window law where the slot's flag is clear. -/
theorem enabledChanges_window (k : Slot) (new : Bool) (s : State) (clear : s.contexts[k].inProgress = false)
    (conf : Configurable s) (law : WindowLaw s) : WindowLaw (enabledChanges k new s) := by
  have flag : ∀ state, s.contexts[k].inProgress = true → FlagState s.contexts[k].state → FlagState state :=
    fun _ set => nomatch clear.symm.trans set
  have vacated : WindowCore (vacate k s) :=
    (deriveOwned_kept k _).window ((dropEntry_kept k _).window
      (changeState_window k .vacant none _ s (flag _) (fun _ => ⟨rfl, rfl⟩) law.2))
  unfold enabledChanges
  rcases conf with off | run
  case inl =>
    rw [off]
    dsimp only
    have dormant := law.1 (by rw [off]; decide)
    split
    case isTrue =>
      refine ⟨fun _ => ⟨fun j => ?_, ?_, ?_⟩,
        changeState_window k .lost none id s (flag _) (fun _ => ⟨rfl, rfl⟩) law.2⟩
      · rw [changeState_get]
        split
        case isFalse => exact dormant.1 j
        case isTrue same => subst same; exact ⟨.inr rfl, clear⟩
      · rw [(changeState_others k _ _ _ s).1]; exact dormant.2.1
      · rw [(changeState_others k _ _ _ s).2.1]; exact dormant.2.2
    case isFalse =>
      refine ⟨fun _ => ⟨fun j => ?_, ?_, ?_⟩, vacated⟩
      · rw [vacate_get]
        split
        case isFalse => exact dormant.1 j
        case isTrue same => subst same; exact ⟨.inl rfl, clear⟩
      · unfold vacate
        rw [(deriveOwned_plant k _).window]
        simp [dropEntry, (changeState_others k _ _ _ s).1, dormant.2.1]
      · unfold vacate
        rw [(deriveOwned_plant k _).executor]
        exact (congrArg Executor.state (changeState_others k _ _ _ s).2.1).trans dormant.2.2
  case inr =>
    rw [run]
    dsimp only
    split
    case isTrue =>
      refine ⟨dormant_of_run ((enterTrack_moves k _ _ s).partState.trans run), ?_⟩
      have entry := changeState_window k .track none (fun x =>
        { x with
          trackCause := some .enabled
          activeStyle := s.cfg.computers[k].style
          trackTimer := if s.cfg.computers[k].trackTimeout = 0 then none
            else some (s.now + s.cfg.computers[k].trackTimeout * Config.second) }) s (flag _)
        (fun _ => ⟨rfl, rfl⟩) law.2
      exact (deriveOwned_kept k _).window ((clearMatches_kept k _).window entry)
    case isFalse => exact ⟨dormant_of_run ((vacate_moves k s).partState.trans run), vacated⟩

theorem enabledChanges_lists (k : Slot) (new : Bool) (s : State) : ListsKept s (enabledChanges k new s) := by
  unfold enabledChanges
  split <;> split
  · exact enterTrack_lists k _ _ s
  · exact vacate_lists k s
  · exact changeState_lists k _ _ _ s
  · exact vacate_lists k s

theorem enabledChanges_context (k : Slot) (new : Bool) (s : State) (law : ContextLaw s) :
    ContextLaw (enabledChanges k new s) := by
  unfold enabledChanges
  split <;> split
  · exact enterTrack_context k _ _ s law
  · exact vacate_context k s law
  · exact changeState_context k .lost none id s (fun _ => rfl) (contextFits_enters .lost none _ (by decide) rfl)
      nofun (othersFit_of_law k law)
  · exact vacate_context k s law

/-- The context of a slot whose enabled field has changed is VACANT exactly while it is disabled (R102). -/
theorem enabledChanges_failure (k : Slot) (new : ComputerConfig) (s : State)
    (changed : new.enabled ≠ s.cfg.computers[k].enabled) (law : FailureLaw s) :
    FailureLaw (enabledChanges k new.enabled (setComputerConfig k new s)) := by
  have disabled : new.enabled = false → FailureLaw (vacate k (setComputerConfig k new s)) := fun off j => by
    rw [(vacate_moves k _).cfg, vacate_get, setComputerConfig_get]
    split
    case isFalse => exact law j
    case isTrue => exact ⟨Nat.zero_le 7, ⟨nofun, nofun⟩, ⟨fun _ => off, fun _ => rfl⟩⟩
  have enabled : new.enabled = true → s.contexts[k].failures ≤ 7 ∧ s.contexts[k].failures ≠ 7 := fun on => by
    obtain ⟨le, fault, vacant⟩ := law k
    have was : s.cfg.computers[k].enabled = false := by
      rw [on] at changed
      simpa using changed.symm
    refine ⟨le, fun full => ?_⟩
    exact nomatch (vacant.mpr was).symm.trans (fault.mp full)
  unfold enabledChanges
  split <;> split
  case h_1.isFalse off | h_2.isFalse off => exact disabled (by simpa using off)
  case h_1.isTrue on =>
    intro j
    rw [(enterTrack_moves k _ _ _).cfg, enterTrack_get, setComputerConfig_get]
    split
    case isFalse => exact law j
    case isTrue same =>
      subst same
      obtain ⟨le, low⟩ := enabled on
      exact ⟨le, ⟨fun full => absurd full low, nofun⟩, nofun, fun off => nomatch on.symm.trans off⟩
  case h_2.isTrue on =>
    intro j
    rw [(changeState_moves k _ _ _ _).cfg, changeState_get, setComputerConfig_get]
    split
    case isFalse => exact law j
    case isTrue same =>
      subst same
      obtain ⟨le, low⟩ := enabled on
      exact ⟨le, ⟨fun full => absurd full low, nofun⟩, nofun, fun off => nomatch on.symm.trans off⟩

theorem enabledChanges_laws (k : Slot) (new : ComputerConfig) (s : State) (may : ComputerMayChange k new s)
    (changed : new.enabled ≠ s.cfg.computers[k].enabled) :
    LawsKept s (enabledChanges k new.enabled (setComputerConfig k new s)) := by
  have lists := enabledChanges_lists k new.enabled (setComputerConfig k new s)
  refine ⟨fun law => ?_, enabledChanges_failure k new s changed, lists.mask, lists.creditLaw, lists.plant,
    fun law => enabledChanges_context k new.enabled (setComputerConfig k new s) law, lists.capacity⟩
  have clear := flag_clear_of_unengaged law (may.enabled changed)
  exact enabledChanges_window k new.enabled _ clear may.configurable
    (setComputerConfig_window k new s (.inr clear) law)

/-- Nothing waits outside RUN, and nothing is served. -/
theorem serveBore_none (b : Bore) (s : State) (none : s.window.waitList = []) : serveBore b s = s := by
  unfold serveBore serveEntries
  rw [none]
  rfl

theorem serveBore_laws (b : Bore) (s : State) : LawsKept s (serveBore b s) := by
  by_cases run : s.partState = .run
  case pos => exact (serveBore_kept b s).laws_run run
  case neg =>
    refine (serveBore_kept b s).laws fun law => ?_
    rw [serveBore_none b s (law run).2.1]
    exact law

theorem applyComputer_laws (k : Slot) (new : ComputerConfig) (s : State) (may : ComputerMayChange k new s) :
    LawsKept s (applyComputer k new s) := by
  have changes : LawsKept s (if new.enabled = s.cfg.computers[k].enabled then setComputerConfig k new s
      else enabledChanges k new.enabled (setComputerConfig k new s)) := by
    split
    case isTrue same => exact setComputerConfig_laws k new s may same
    case isFalse changed => exact enabledChanges_laws k new s may changed
  exact changes.thenIf fun t => serveBore_laws new.bore t

theorem setComputer_effect (payload : List Byte) : EffectKeeps (setComputerAnswer payload) := fun s r => by
  unfold setComputerAnswer answerSetComputer
  split
  case isFalse => exact refuse_laws _ _
  case isTrue =>
    split
    case h_1 => exact refuse_laws _ _
    case h_2 k _ =>
      refine asConfiguration_laws s _ _ fun conf => ?_
      split
      case h_1 => exact refuse_laws _ _
      case h_2 new _ =>
        split
        case isTrue => exact refuse_laws _ _
        case isFalse allowed =>
          refine applyComputer_laws k new _ (computerMayChange_of_allowed k new _ conf fun run => ?_)
          by_contra off
          exact allowed ⟨run, (Bool.not_eq_true _).mp off⟩

/-! ### SET-CHANNEL (R22, R23) -/

theorem channelRanges_le (c : ChannelConfig) (h : channelRanges c = true) :
    c.fallbackValue ≤ 1000 ∧ c.zoneFactor ≤ 1000 := by
  simp only [channelRanges, Bool.and_eq_true, decide_eq_true_eq] at h
  exact ⟨h.1.1.2, h.1.2⟩

theorem readChannel_ranges (fields : List Byte) (c : ChannelConfig) (h : readChannel fields = some c) :
    channelRanges c = true := by
  unfold readChannel at h
  split at h
  case h_2 => exact nomatch h
  case h_1 =>
    split at h
    case h_2 => exact nomatch h
    case h_1 =>
      dsimp only at h
      split at h
      case isFalse => exact nomatch h
      case isTrue ok => exact Option.some.inj h ▸ ok

theorem setChannelConfig_laws (c : Chan) (new : ChannelConfig) (s : State) (ranges : channelRanges new = true) :
    LawsKept s (setChannelConfig c new s) := by
  refine ⟨id, id, id, id, fun law => ⟨⟨fun d => ?_, law.1.2⟩, law.2⟩, id, id⟩
  by_cases same : d = c
  · subst same; simpa [setChannelConfig] using channelRanges_le new ranges
  · have : c.val ≠ d.val := fun e => same (Fin.ext e.symm)
    simpa [setChannelConfig, this] using law.1.1 d

theorem ownerChanged_laws (c : Chan) (was : Option ChannelMode) (s : State) :
    LawsKept s (ownerChanged c was s) :=
  (updChannel_laws c (fun ch => { ch with demand := none, matchCount := 0 }) s fun _ =>
    updChannel_fits c _ s (fun h => ⟨(fun _ e => nomatch e), h.2⟩) rfl rfl rfl).trans (deriveFrom_laws was c _)

/-- A channel that becomes unused has no entry, no SET record and the record after reset (R3). -/
theorem makeUnused_laws (c : Chan) (s : State) : LawsKept s (makeUnused c s) := by
  refine (withdraw_laws c s).trans ⟨id, id, id, id, fun law => ?_, id, fun law => ?_⟩
  · obtain ⟨targets, records, nodup, entries⟩ := (plantLaw_iff _).mp law
    refine (plantLaw_iff _).mpr ⟨targets, fun d => ?_, nodup, fun e he => ?_⟩
    · unfold makeUnused
      dsimp only
      rw [updChannel_get]
      split
      case isTrue => exact recordLawful_resetChannel
      case isFalse => exact records d
    · have other : e.channel ≠ c := by simpa using (List.mem_filter.mp he).2
      refine entryLawful_congr ?_ (entries e he)
      unfold makeUnused
      exact updChannel_other c e.channel _ _ other
  · obtain ⟨queue, notices, orders, waits, requests, records, busy⟩ := (capacityLaw_iff _).mp law
    exact (capacityLaw_iff _).mpr ⟨queue, notices, orders, waits, requests,
      nodup_of_sublist records List.filter_sublist, busy⟩

theorem applyChannelRun_laws (c : Chan) (new : ChannelConfig) (s : State) (ranges : channelRanges new = true) :
    LawsKept s (applyChannelRun c new s) := by
  have set := setChannelConfig_laws c new s ranges
  unfold applyChannelRun
  dsimp only
  split
  case isFalse =>
    split
    case isTrue => exact set.trans (makeUnused_laws c _)
    case isFalse => exact set
  case isTrue =>
    exact ((set.thenIf fun t => ownerChanged_laws c _ t).thenIf fun t => withdraw_laws c t).thenIf
      fun t => deriveFrom_laws _ c t

theorem setChannel_effect (payload : List Byte) : EffectKeeps (setChannelAnswer payload) := fun s r => by
  unfold setChannelAnswer answerSetChannel
  split
  case isFalse => exact refuse_laws _ _
  case isTrue =>
    split
    case h_1 => exact refuse_laws _ _
    case h_2 c _ =>
      refine asConfiguration_laws s _ _ fun conf => ?_
      split
      case h_1 => exact refuse_laws _ _
      case h_2 new read =>
        have ranges := readChannel_ranges _ _ read
        split
        case isTrue => exact refuse_laws _ _
        case isFalse =>
          rw [accept_effect]
          unfold applyChannel
          split
          case isTrue => exact applyChannelRun_laws c new _ ranges
          case isFalse => exact setChannelConfig_laws c new _ ranges

/-! ### SET-BUDGET, SET-WINDOW, SET-DAYLIGHT and the other settings -/

theorem applyBudget_laws (b : BudgetConfig) (s : State) (conf : Configurable s) :
    LawsKept s (applyBudget b s) := by
  rcases conf with off | run
  case inl =>
    rw [applyBudget_unconfigured b s off]
    refine ⟨id, id, id, fun law => ?_, id, id, id⟩
    have both : s.admission.feed = .both := law.2 (by rw [off]; decide)
    refine ⟨?_, law.2⟩
    simp only [currentCap, both]
    exact Nat.le_refl _
  case inr =>
    rw [applyBudget_run b s run]
    refine ⟨id, id, id, fun law => ⟨?_, law.2⟩, id, id, id⟩
    simp only [currentCap]
    exact Nat.min_le_right _ _

theorem setBudget_effect (payload : List Byte) : EffectKeeps (setBudgetAnswer payload) := fun s r => by
  unfold setBudgetAnswer
  split
  case h_2 => exact refuse_laws _ _
  case h_1 =>
    dsimp only
    refine asConfiguration_laws s _ _ fun conf => ?_
    split
    case isFalse => exact refuse_laws _ _
    case isTrue => exact applyBudget_laws _ _ conf

theorem applyWindow_laws (l1 l2 : Nat) (s : State) (conf : Configurable s)
    (room : s.partState = .run → s.window.count1 ≤ l1 ∧ s.window.count2 ≤ l2) :
    LawsKept s (applyWindow l1 l2 s) := by
  have set : LawsKept s { s with cfg := { s.cfg with limit1 := l1, limit2 := l2 } } := by
    refine ⟨fun law => ⟨law.1, fun b => ⟨(law.2.1 b).1, ?_⟩, law.2.2⟩, id, id, id, id, id, id⟩
    rcases conf with off | run
    case inr => cases b; exacts [(room run).1, (room run).2]
    case inl =>
      have none : inProgressOf s b = [] := List.filter_eq_nil_iff.mpr fun k _ => by
        rw [((law.1 (by rw [off]; decide)).1 k).2]
        simp
      have zero : countOf s b = 0 := by rw [(law.2.1 b).1, none]; rfl
      exact Nat.le_trans (Nat.le_of_eq zero) (Nat.zero_le _)
  exact (set.thenIf fun t => serveBore_laws .one t).thenIf fun t => serveBore_laws .two t

theorem setWindow_effect (payload : List Byte) : EffectKeeps (setWindowAnswer payload) := fun s r => by
  unfold setWindowAnswer
  split
  case h_2 => exact refuse_laws _ _
  case h_1 =>
    dsimp only
    refine asConfiguration_laws s _ _ fun conf => ?_
    split
    case isFalse => exact refuse_laws _ _
    case isTrue =>
      split
      case isTrue => exact refuse_laws _ _
      case isFalse room =>
        refine applyWindow_laws _ _ _ conf fun run => ?_
        by_contra low
        refine room ⟨run, ?_⟩
        by_contra high
        push Not at high
        exact low high

theorem daylightRanges_levels (d : DaylightConfig) (h : daylightRanges d = true) :
    ∀ st ∈ d.stages, st.level ≤ 1000 := by
  simp only [daylightRanges, Bool.and_eq_true] at h
  obtain ⟨⟨-, levels⟩, -⟩ := h
  intro st mem
  exact of_decide_eq_true (List.all_eq_true.mp levels st mem)

theorem readDaylight_ranges (n : Nat) (numbers : List Nat) (d : DaylightConfig)
    (h : readDaylight n numbers = some d) : daylightRanges d = true := by
  unfold readDaylight at h
  dsimp only at h
  split at h
  case isFalse => exact nomatch h
  case isTrue ok => exact Option.some.inj h ▸ ok

theorem deriveDaylight_laws (s : State) : LawsKept s (deriveDaylight s) :=
  (deriveDaylight_kept s).laws_plant (deriveDaylight_plant s)

theorem applyDaylight_laws (d : DaylightConfig) (s : State) (ranges : daylightRanges d = true) :
    LawsKept s (applyDaylight d s) := by
  have set : LawsKept s { s with cfg := { s.cfg with daylight := d } } :=
    ⟨id, id, id, id, fun law => ⟨⟨law.1.1, daylightRanges_levels d ranges⟩, law.2⟩, id, id⟩
  have stage : ∀ (t : State) (n : Nat), LawsKept t { t with daylight := { t.daylight with stage := n } } :=
    fun _ _ => ⟨id, id, id, id, id, id, id⟩
  unfold applyDaylight
  dsimp only
  split
  case h_1 => exact (set.trans (stage _ _)).trans (deriveDaylight_laws _)
  case h_2 => exact set

theorem setDaylight_effect (payload : List Byte) : EffectKeeps (setDaylightAnswer payload) := fun s r => by
  unfold setDaylightAnswer
  split
  case h_2 => exact refuse_laws _ _
  case h_1 =>
    split
    case isFalse => exact refuse_laws _ _
    case isTrue =>
      refine asConfiguration_laws s _ _ fun _ => ?_
      split
      case h_2 => exact refuse_laws _ _
      case h_1 read =>
        obtain ⟨numbers, -, made⟩ := Option.bind_eq_some_iff.mp read
        exact applyDaylight_laws _ _ (readDaylight_ranges _ _ _ made)

theorem setPlan_effect (payload : List Byte) : EffectKeeps (setPlanAnswer payload) := fun s r => by
  unfold setPlanAnswer
  split
  case h_2 => exact refuse_laws _ _
  case h_1 =>
    split
    case isFalse => exact refuse_laws _ _
    case isTrue =>
      unfold answerSetPlan
      split
      case h_1 => exact refuse_laws _ _
      case h_2 =>
        refine asConfiguration_laws s _ _ fun _ => ?_
        split
        case isTrue => exact refuse_laws _ _
        case isFalse =>
          split
          case h_1 => exact refuse_laws _ _
          case h_2 =>
            split
            case h_1 => exact LawsKept.refl _
            case h_2 => exact ⟨id, id, id, id, id, id, id⟩

theorem setMask_laws (m : Vector Bool 16) (s : State) (clear : ∀ c : WorkingConfig, maskLawful { c with mask := m }) :
    LawsKept s { s with cfg := { s.cfg with mask := m } } :=
  ⟨id, id, fun law => ⟨clear _, law.2⟩, id, id, id, id⟩

/-- The flags of the kinds that cannot be masked are taken as clear (R164, R167). -/
theorem readMask_lawful (hi lo : Byte) (c : WorkingConfig) : maskLawful { c with mask := readMask hi lo } := by
  refine ⟨?_, ?_, ?_⟩ <;> exact (readMask_getElem hi lo _).trans (if_pos (by decide))

theorem setEventMask_effect (payload : List Byte) : EffectKeeps (setEventMaskAnswer payload) := fun s r => by
  unfold setEventMaskAnswer
  split
  case h_2 => exact refuse_laws _ _
  case h_1 =>
    refine asConfiguration_laws s _ _ fun _ => ?_
    rw [accept_effect]
    exact setMask_laws _ _ fun c => readMask_lawful _ _ c

theorem setCounterSource_effect (payload : List Byte) : EffectKeeps (setCounterSourceAnswer payload) :=
  fun s r => by
    unfold setCounterSourceAnswer
    split
    case h_2 => exact refuse_laws _ _
    case h_1 =>
      refine asConfiguration_laws s _ _ fun _ => ?_
      split
      case h_2 => exact refuse_laws _ _
      case h_1 => exact ⟨id, id, id, id, id, id, id⟩

/-! ### STORE-CONFIG and COMMISSION -/

theorem beginWrite_laws (s : State) : LawsKept s (beginWrite s) :=
  ⟨id, id, fun law => ⟨law.1, law.2.1, fun _ e => Option.some.inj e ▸ law.1⟩, id,
    fun law => ⟨law.1, law.2.1, fun _ e => Option.some.inj e ▸ law.1, law.2.2.2⟩, id, id⟩

theorem storeConfig_effect (payload : List Byte) : EffectKeeps (storeConfigAnswer payload) := fun s r => by
  refine withoutPayload_laws payload _ _ (asConfiguration_laws s _ _ fun _ => ?_)
  split
  case isTrue => exact refuse_laws _ _
  case isFalse => exact beginWrite_laws _

theorem applyCommission_laws (s : State) (off : s.partState ≠ .run) : LawsKept s (applyCommission s) :=
  LawsKept.trans (t := { s with commissioned := true }) ⟨id, id, id, id, id, id, id⟩
    (enterAdopt_laws _ off)

theorem commission_effect (payload : List Byte) : EffectKeeps (commissionAnswer payload) := fun s r => by
  refine withoutPayload_laws payload _ _ ?_
  split
  case h_1 | h_2 => exact refuse_laws _ _
  case h_3 off =>
    split
    case h_1 => exact LawsKept.refl _
    case h_2 =>
      split
      case isTrue => exact LawsKept.refl _
      case isFalse => exact applyCommission_laws _ (by rw [placeOut_partState, off]; decide)

end Sys2Proof.Proofs
end


section
/-! SUPPORT. What the effect of each order and query keeps of the seven laws, the answer by kind, and the taking
and queueing of commands (R157 to R163). -/

namespace Sys2Proof.Proofs

open Sys2Proof.Machine Sys2Proof.Safety Sys2Proof.Laws

/-! ### Changes of one channel's record that a derivation follows -/

theorem updChannel_ready {was : Option ChannelMode} {c : Chan} (f : ChannelRun → ChannelRun) {s : State}
    (h : DeriveReady was c s) (ready : RecordReady (f s.channels[c]))
    (frozen : (f s.channels[c]).adopted = true → was ≠ none →
      ∃ t, (f s.channels[c]).target = some t ∧ t ≤ 1000) : DeriveReady was c (updChannel c f s) where
  cfg := h.cfg
  ready := by rw [updChannel_same]; exact ready
  frozen := by rw [updChannel_same]; exact frozen
  records j other := by rw [updChannel_other c j f s other]; exact h.records j other
  nodup := h.nodup
  others e he other := entryLawful_congr (updChannel_other c e.channel f s other) (h.others e he other)
  own := h.own

/-- A change that may make a channel counted (R21) is a change of its record that adds at most a match count
of 0. -/
theorem updRecount_eq (c : Chan) (f : ChannelRun → ChannelRun) (s : State) :
    ∃ n : ChannelRun → Nat, updRecount c f s = updChannel c (fun ch => { f ch with matchCount := n ch }) s := by
  refine ⟨fun ch => if (!countedRecord s.cfg.channels[c].owner.isSome ch &&
    countedRecord s.cfg.channels[c].owner.isSome (f ch)) = true then 0 else (f ch).matchCount, ?_⟩
  unfold updRecount
  dsimp only
  congr 1
  funext ch
  split <;> rfl

theorem updChannel_twice (c : Chan) (f g : ChannelRun → ChannelRun) (s : State) :
    updChannel c f (updChannel c g s) = updChannel c (f ∘ g) s := by
  simp [updChannel]

theorem frozenNow_updChannel (c : Chan) (f : ChannelRun → ChannelRun) (s : State)
    (mode : (f s.channels[c]).mode = s.channels[c].mode) : frozenNow (updChannel c f s) c = frozenNow s c := by
  unfold frozenNow
  rw [updChannel_same, mode]
  rfl

/-- The laws of the blocks that a change of a channel's record does not touch. -/
theorem derive_updChannel_laws (c : Chan) (f : ChannelRun → ChannelRun) (s : State)
    (ready : TargetsFit s → ChannelsFit s →
      DeriveReady (frozenNow (updChannel c f s) c) c (updChannel c f s)) :
    LawsKept s (derive c (updChannel c f s)) := by
  obtain ⟨window, failure, mask, credit, -, context, capacity⟩ := derive_laws c (updChannel c f s)
  refine ⟨window, failure, mask, credit, fun law => ?_, context, capacity⟩
  obtain ⟨targets, channels⟩ := (plantLaw_iff s).mp law
  exact (plantLaw_iff _).mpr ⟨targetsFit_of_moves (derive_kept c (updChannel c f s)).moves targets,
    deriveFrom_fits _ c _ (ready targets channels)⟩

/-- A channel that is adopted is ready for its derivation: it stood in no frozen mode (R2, R5). -/
theorem adopted_ready (c : Chan) (value : Nat) (s : State) (le : value ≤ 1000)
    (off : s.channels[c].adopted = false) (targets : TargetsFit s) (h : ChannelsFit s) :
    DeriveReady none c (adoptAt c value s) ∧ frozenNow (adoptAt c value s) c = none := by
  obtain ⟨demand, forced, -, unadopted⟩ := h.1 c
  obtain ⟨-, -, mode⟩ := unadopted off
  obtain ⟨n, form⟩ := updRecount_eq c (fun ch => { ch with driven := some value, adopted := true }) s
  rw [adoptAt, form]
  refine ⟨updChannel_ready _ (deriveReady_of_fits none c s targets.1 h)
    ⟨demand, forced, fun _ => ⟨value, rfl, le⟩, nofun⟩ fun _ none => absurd rfl none, ?_⟩
  rw [frozenNow_updChannel]
  · unfold frozenNow; rw [mode]; rfl
  · rfl

theorem adoptAt_derive_laws (c : Chan) (value : Nat) (s : State) (le : value ≤ 1000)
    (off : s.channels[c].adopted = false) : LawsKept s (derive c (adoptAt c value s)) := by
  have ready := adopted_ready c value s le off
  obtain ⟨n, form⟩ := updRecount_eq c (fun ch => { ch with driven := some value, adopted := true }) s
  rw [adoptAt, form] at ready ⊢
  refine derive_updChannel_laws c _ s fun targets h => ?_
  obtain ⟨now, frozen⟩ := ready targets h
  rw [frozen]
  exact now

theorem recount_laws (c : Chan) (f : ChannelRun → ChannelRun) (s : State)
    (lawful : recordLawful s.channels[c] → recordLawful (f s.channels[c]))
    (adopted : (f s.channels[c]).adopted = s.channels[c].adopted)
    (driven : (f s.channels[c]).driven = s.channels[c].driven)
    (target : (f s.channels[c]).target = s.channels[c].target) : LawsKept s (updRecount c f s) := by
  obtain ⟨n, form⟩ := updRecount_eq c f s
  rw [form]
  exact updChannel_laws c _ s fun _ => updChannel_fits c _ s lawful adopted driven target

/-! ### FORCE, UNFORCE, CLEAR-FAULT (R18 to R20) -/

theorem setForced_ready {was : Option ChannelMode} {c : Chan} (value : Nat) {s : State} (le : value ≤ 1000)
    (h : DeriveReady was c s) :
    DeriveReady was c (updChannel c (fun ch => { ch with forced := some value }) s) := by
  obtain ⟨demand, -, driven, undriven⟩ := h.ready
  refine updChannel_ready _ h ⟨demand, fun f e => ?_, driven, undriven⟩ h.frozen
  exact Option.some.inj e ▸ le

theorem forceChannel_laws (c : Chan) (value : Nat) (s : State) : LawsKept s (forceChannel c value s) := by
  have le : min value Config.fullOutput ≤ 1000 := Nat.min_le_right _ _
  unfold forceChannel
  dsimp only
  split
  case isTrue on =>
    refine derive_updChannel_laws c _ s fun targets h => ?_
    exact setForced_ready _ le (deriveReady_of_fits _ c s targets.1 h)
  case isFalse off =>
    have ready := adopted_ready c 0 s (Nat.zero_le _) (by simpa only [Bool.not_eq_true] using off)
    obtain ⟨n, form⟩ := updRecount_eq c (fun ch => { ch with driven := some 0, adopted := true }) s
    rw [adoptAt, form] at ready ⊢
    rw [updChannel_twice]
    refine derive_updChannel_laws c _ s fun targets h => ?_
    obtain ⟨now, frozen⟩ := ready targets h
    rw [← updChannel_twice, frozenNow_updChannel c _ _ rfl, frozen]
    exact setForced_ready _ le now

theorem unforceChannel_laws (c : Chan) (s : State) : LawsKept s (unforceChannel c s) :=
  (recount_laws c (fun ch => { ch with forced := none }) s
    (fun ⟨demand, _, driven, undriven⟩ => ⟨demand, (fun _ e => nomatch e), driven, undriven⟩)
    rfl rfl rfl).trans (derive_laws c _)

theorem clearDriveFault_laws (c : Chan) (s : State) : LawsKept s (clearDriveFault c s) :=
  recount_laws c _ s id rfl rfl rfl

theorem setDriveFault_laws (c : Chan) (s : State) : LawsKept s (setDriveFault c s) := by
  unfold setDriveFault
  split
  case isTrue => exact LawsKept.refl s
  case isFalse =>
    exact ((updChannel_laws c _ s fun _ => updChannel_fits c _ s id rfl rfl rfl).trans (withdraw_laws c _)).trans
      (latch_laws _ _ _)

/-! ### The orders (R161) -/

theorem asOrder_kept (s : State) (r : OutFrame) (a : Answer)
    (h : s.partState = .run → Kept (placeOut r s) (a.effect (placeOut r s))) :
    LawsKept (placeOut r s) ((asOrder s a).effect (placeOut r s)) :=
  asOrder_laws s _ a fun run => (h run).laws_run run

theorem restart_effect (payload : List Byte) : EffectKeeps (restartAnswer payload) := fun s r => by
  refine withSlot_laws payload _ _ fun k => asOrder_kept s r _ fun _ => ?_
  unfold answerRestart
  split
  case h_1 | h_3 => exact Kept.refl _
  all_goals exact takeRequest_kept _ k _

theorem cancelRestart_effect (payload : List Byte) : EffectKeeps (cancelRestartAnswer payload) := fun s r => by
  refine withSlot_laws payload _ _ fun k => asOrder_kept s r _ fun _ => ?_
  unfold answerCancel
  split
  case isTrue => exact dropEntry_kept k _
  case isFalse => split <;> exact Kept.refl _

theorem pause_effect (payload : List Byte) : EffectKeeps (pauseAnswer payload) := fun s r => by
  refine withSlot_laws payload _ _ fun k => asOrder_kept s r _ fun _ => ?_
  split
  case isTrue can => exact pauseSlot_kept k _ can
  case isFalse => exact Kept.refl _

theorem resume_effect (payload : List Byte) : EffectKeeps (resumeAnswer payload) := fun s r => by
  refine withSlot_laws payload _ _ fun k => asOrder_kept s r _ fun _ => ?_
  split
  case isTrue paused => exact resumeSlot_kept k _ paused
  case isFalse => exact Kept.refl _

theorem force_effect (payload : List Byte) : EffectKeeps (forceAnswer payload) := fun s r => by
  unfold forceAnswer
  split
  case h_2 => exact refuse_laws _ _
  case h_1 =>
    split
    case h_1 => exact refuse_laws _ _
    case h_2 c _ =>
      refine asOrder_laws s _ _ fun _ => ?_
      split
      case isTrue => exact forceChannel_laws c _ _
      case isFalse => exact refuse_laws _ _

theorem unforce_effect (payload : List Byte) : EffectKeeps (unforceAnswer payload) := fun s r => by
  refine withChannel_laws payload _ _ fun c => asOrder_laws s _ _ fun _ => ?_
  split
  case isTrue => exact unforceChannel_laws c _
  case isFalse => exact LawsKept.refl _

theorem clearFault_effect (payload : List Byte) : EffectKeeps (clearFaultAnswer payload) := fun s r => by
  refine withChannel_laws payload _ _ fun c => asOrder_laws s _ _ fun _ => ?_
  split
  case isFalse => exact refuse_laws _ _
  case isTrue =>
    split
    case isTrue => exact clearDriveFault_laws c _
    case isFalse => exact LawsKept.refl _

theorem planStart_effect (payload : List Byte) : EffectKeeps (planStartAnswer payload) := fun s r => by
  unfold planStartAnswer
  split
  case h_2 => exact refuse_laws _ _
  case h_1 =>
    split
    case h_1 => exact refuse_laws _ _
    case h_2 p _ =>
      refine asOrder_kept s r _ fun _ => ?_
      unfold answerPlanStart
      split
      case isTrue => exact Kept.refl _
      case isFalse =>
        split
        case isTrue => exact Kept.refl _
        case isFalse =>
          split
          case h_1 => exact Kept.refl _
          case h_2 => exact startPlan_kept p _

theorem planStop_effect (payload : List Byte) : EffectKeeps (planStopAnswer payload) := fun s r => by
  unfold planStopAnswer
  split
  case h_2 => exact refuse_laws _ _
  case h_1 =>
    split
    case h_1 => exact refuse_laws _ _
    case h_2 =>
      refine asOrder_kept s r _ fun _ => ?_
      unfold answerPlanStop
      split
      case isTrue => exact Kept.refl _
      case isFalse =>
        split
        case isTrue => exact stopAtPassEnd_kept _
        case isFalse => exact endExecuting_kept _ _

theorem takeReading_laws (value : Nat) (s : State) : LawsKept s (takeReading value s) := by
  have taken : ∀ d : Daylight, LawsKept s { s with daylight := d } := fun _ => ⟨id, id, id, id, id, id, id⟩
  unfold takeReading
  dsimp only
  split
  case isTrue => exact taken _
  case isFalse => exact (taken _).trans (deriveDaylight_laws _)

theorem luminance_effect (payload : List Byte) : EffectKeeps (luminanceAnswer payload) := fun s r => by
  unfold luminanceAnswer
  split
  case h_2 => exact refuse_laws _ _
  case h_1 => exact asOrder_laws s _ _ fun _ => takeReading_laws _ _

theorem setFeed_laws (f : FeedState) (s : State) (run : s.partState = .run) : LawsKept s (setFeed f s) := by
  unfold setFeed
  split
  case isTrue => exact LawsKept.refl s
  case isFalse =>
    exact ⟨id, id, id, fun _ => ⟨Nat.min_le_right _ _, fun off => absurd run off⟩, id, id, id⟩

theorem feed_effect (payload : List Byte) : EffectKeeps (feedAnswer payload) := fun s r => by
  unfold feedAnswer
  split
  case h_2 => exact refuse_laws _ _
  case h_1 =>
    split
    case h_1 => exact refuse_laws _ _
    case h_2 f _ => exact asOrder_laws s _ _ fun run => setFeed_laws f _ run

theorem awaitReset_laws (s : State) : LawsKept s (awaitReset s) := by
  refine ⟨id, id, id, id, id, id, fun law => ?_⟩
  obtain ⟨queue, notices, orders, waits, requests, records, -⟩ := (capacityLaw_iff s).mp law
  exact (capacityLaw_iff _).mpr ⟨queue, notices, orders, waits, requests, records,
    fun _ => (portFree_eq_false_iff _).mpr (.inl nofun)⟩

/-! ### The answer by kind (R158 check 1, R184) -/

theorem clearReportLost_laws (k : Slot) (s : State) : LawsKept s (clearReportLost k s) :=
  updPort_laws k _ s rfl id

theorem query_effect (payload : List Byte) (data : State → List Byte) (clears : State → State)
    (h : ∀ s, LawsKept s (clears s)) :
    EffectKeeps fun s => withoutPayload payload (answerData (data s) clears) :=
  fun _ _ => withoutPayload_laws payload _ _ (h _)

theorem resetPart_effect (payload : List Byte) : EffectKeeps (resetPartAnswer payload) :=
  fun _ _ => withoutPayload_laws _ _ _ (awaitReset_laws _)

theorem getComputer_effect (payload : List Byte) : EffectKeeps (getComputerAnswer payload) :=
  fun _ _ => withSlot_laws _ _ _ fun k => clearReportLost_laws k _

theorem getChannel_effect (payload : List Byte) : EffectKeeps (getChannelAnswer payload) :=
  fun _ _ => withChannel_laws _ _ _ fun _ => LawsKept.refl _

theorem getBudget_effect (payload : List Byte) : EffectKeeps (getBudgetAnswer payload) :=
  query_effect _ budgetData id LawsKept.refl

theorem getWaitList_effect (payload : List Byte) : EffectKeeps (getWaitListAnswer payload) :=
  query_effect _ waitListData id LawsKept.refl

theorem getPlanStatus_effect (payload : List Byte) : EffectKeeps (getPlanStatusAnswer payload) :=
  query_effect _ planStatusData id LawsKept.refl

theorem getDaylight_effect (payload : List Byte) : EffectKeeps (getDaylightAnswer payload) :=
  query_effect _ daylightData id LawsKept.refl

theorem readEvents_effect (payload : List Byte) : EffectKeeps (readEventsAnswer payload) :=
  query_effect _ eventsData clearSet fun _ => ⟨id, id, id, id, id, id, id⟩

theorem readCounter_effect (payload : List Byte) : EffectKeeps (readCounterAnswer payload) :=
  query_effect _ counterData zeroCounter fun _ => ⟨id, id, id, id, id, id, id⟩

theorem identify_effect (payload : List Byte) : EffectKeeps (identifyAnswer payload) :=
  query_effect _ identifyData id LawsKept.refl

theorem answerOf_effect (f : CommandFrame) : EffectKeeps (answerOf f) := by
  unfold answerOf
  split
  · exact setComputer_effect _
  · exact setChannel_effect _
  · exact setBudget_effect _
  · exact setWindow_effect _
  · exact setDaylight_effect _
  · exact setPlan_effect _
  · exact setEventMask_effect _
  · exact setCounterSource_effect _
  · exact storeConfig_effect _
  · exact commission_effect _
  · exact restart_effect _
  · exact cancelRestart_effect _
  · exact pause_effect _
  · exact resume_effect _
  · exact force_effect _
  · exact unforce_effect _
  · exact clearFault_effect _
  · exact planStart_effect _
  · exact planStop_effect _
  · exact luminance_effect _
  · exact feed_effect _
  · exact resetPart_effect _
  · exact getComputer_effect _
  · exact getChannel_effect _
  · exact getBudget_effect _
  · exact getWaitList_effect _
  · exact getPlanStatus_effect _
  · exact getDaylight_effect _
  · exact readEvents_effect _
  · exact readCounter_effect _
  · exact identify_effect _
  · exact fun _ _ => refuse_laws _ _

/-! ### Taking and queueing (R157, R158) -/

theorem noticesFit_of_length {l : List OutFrame} (h : NoticesFit l) (f : OutFrame)
    (reply : isNotice f = false) (room : l.length < 31) : NoticesFit (l ++ [f]) := by
  obtain ⟨one, -⟩ := h
  refine ⟨?_, ?_⟩
  · simpa [List.filter_append, reply] using one
  · exact (List.length_filter_le _ _).trans (by simpa using room)

/-- A command that no other stands before is taken by a port whose list has room for the reply. -/
theorem answerCommand_laws_of {s t : State} (f : CommandFrame) (answer : State → Answer)
    (keeps : EffectKeeps answer) (window : WindowLaw s → WindowLaw t) (failure : FailureLaw s → FailureLaw t)
    (mask : MaskLaw s → MaskLaw t) (credit : CreditLaw s → CreditLaw t) (plant : PlantLaw s → PlantLaw t)
    (context : ContextLaw s → ContextLaw t)
    (capacity : CapacityLaw s → ∀ r, isNotice r = false → CapacityLaw (placeOut r (leaveQueue t))) :
    LawsKept s (answerCommand f answer t) := by
  have effect := keeps (leaveQueue t) (.reply f.kind f.tag (answer (leaveQueue t)).code
    (answer (leaveQueue t)).detail (answer (leaveQueue t)).data)
  have placed : LawsKept s (placeOut (.reply f.kind f.tag (answer (leaveQueue t)).code
      (answer (leaveQueue t)).detail (answer (leaveQueue t)).data) (leaveQueue t)) :=
    ⟨window, failure, mask, credit, plant, context, fun law => capacity law _ rfl⟩
  exact placed.trans effect

theorem portFree_outgoing {s : State} (free : portFree s = true) :
    s.supervisory.resetWait = .none ∧ s.supervisory.outgoing.length < 16 := by
  unfold portFree at free
  rw [Bool.and_eq_true, beq_iff_eq, decide_eq_true_eq] at free
  exact free

/-- The port of a lawful state that can take a command has none waiting (R158). -/
theorem queue_nil_of_free {s : State} (law : CapacityLaw s) (free : portFree s = true) :
    s.supervisory.queue = [] := by
  by_contra some
  exact nomatch (law.2.2.2.2.2.2.2 some).symm.trans free

theorem answerCommand_laws (f : CommandFrame) (answer : State → Answer) (keeps : EffectKeeps answer) (s : State)
    (free : portFree s = true) : LawsKept s (answerCommand f answer s) := by
  refine answerCommand_laws_of f answer keeps id id id id id id fun law r reply => ?_
  have none := queue_nil_of_free law free
  obtain ⟨-, room⟩ := portFree_outgoing free
  obtain ⟨-, notices, orders, waits, requests, records, -⟩ := (capacityLaw_iff s).mp law
  have left : (placeOut r (leaveQueue s)).supervisory.queue = [] := by simp [none]
  refine (capacityLaw_iff _).mpr ⟨?_, ?_, orders, waits, requests, records, fun some => absurd left some⟩
  · rw [left]; exact Nat.zero_le 4
  · exact noticesFit_of_length notices r reply (Nat.lt_of_lt_of_le room (by decide))

theorem receiveFrame_laws (f : CommandFrame) (s : State) (busy : CapacityLaw s → portFree s = false) :
    LawsKept s (receiveFrame f s) := by
  unfold receiveFrame
  split
  case isFalse =>
    refine LawsKept.trans ?_ (count_laws _ _)
    exact ⟨id, id, id, id, id, id, id⟩
  case isTrue room =>
    refine ⟨id, id, id, id, id, id, fun law => ?_⟩
    obtain ⟨-, notices, orders, waits, requests, records, -⟩ := (capacityLaw_iff s).mp law
    refine (capacityLaw_iff _).mpr ⟨?_, notices, orders, waits, requests, records, fun _ => busy law⟩
    simpa [Config.commandQueueSize] using room

theorem whenLive_laws {f : State → State} {s t : State} (h : ∀ u, LawsKept u (f u))
    (next : whenLive f s = .next t) : LawsKept s t := by
  unfold whenLive at next
  obtain rfl := Host.Outcome.next.inj next
  split
  case isTrue => exact LawsKept.refl s
  case isFalse => exact h s

theorem takeCommand_laws {f : CommandFrame} {answer : State → Answer} {s t : State} (keeps : EffectKeeps answer)
    (next : takeCommand f answer s = .next t) : LawsKept s t := by
  refine whenLive_laws (fun u => ?_) next
  split
  case isTrue h => exact answerCommand_laws f answer keeps u h.1
  case isFalse h =>
    refine receiveFrame_laws f u fun law => ?_
    by_contra free
    rw [Bool.not_eq_false] at free
    exact h ⟨free, .inl (queue_nil_of_free law free)⟩

theorem arrive_laws (f : CommandFrame) (s : State) : LawsKept s (arrive f s) := by
  unfold arrive
  split
  case isTrue h => exact answerCommand_laws f _ (answerOf_effect f) s h.1
  case isFalse h =>
    refine receiveFrame_laws f s fun law => ?_
    by_contra free
    rw [Bool.not_eq_false] at free
    exact h ⟨free, queue_nil_of_free law free⟩

theorem discardFrame_laws (cause : DiscardCause) (s : State) : LawsKept s (discardFrame cause s) := by
  refine LawsKept.trans ?_ (count_laws _ _)
  cases cause <;> exact ⟨id, id, id, id, id, id, id⟩

/-! ### The sending of a frame (R160) -/

theorem beginSending_outgoing (s : State) :
    (beginSending s).supervisory.outgoing = s.supervisory.outgoing.tail := by
  unfold beginSending
  split
  case h_1 none => simp [none]
  case h_2 f rest some => simp [some]

theorem beginSending_resetWait (s : State) :
    (beginSending s).supervisory.resetWait = .none ↔ s.supervisory.resetWait = .none := by
  unfold beginSending
  split
  case h_1 => exact Iff.rfl
  case h_2 =>
    dsimp only
    split
    case isTrue waits => rw [waits.1]; exact iff_of_false nofun nofun
    case isFalse => exact Iff.rfl

/-- What `beginSending` leaves alone. -/
theorem beginSending_eq (s : State) : ∃ line resetWait, beginSending s =
    { s with supervisory := { s.supervisory with outgoing := s.supervisory.outgoing.tail, line, resetWait } } := by
  unfold beginSending
  split
  case h_1 none => exact ⟨[], s.supervisory.resetWait, by simp [none]⟩
  case h_2 f rest some => exact ⟨_, _, by simp only [some, List.tail_cons]; rfl⟩

theorem noticesFit_tail {l : List OutFrame} (h : NoticesFit l) : NoticesFit l.tail :=
  ⟨((l.tail_sublist.filter _).length_le).trans h.1, ((l.tail_sublist.filter _).length_le).trans h.2⟩

/-- The list of a port that a waiting command found full, and that the sending of a frame leaves free, held 16
frames, so the reply fills it again. -/
theorem takeHead_beginSending_laws (s : State) : LawsKept s (takeHead (beginSending s)) := by
  obtain ⟨line, resetWait, form⟩ := beginSending_eq s
  have tail := beginSending_outgoing s
  have wait := beginSending_resetWait s
  have queue : (beginSending s).supervisory.queue = s.supervisory.queue := by rw [form]
  have lists : CapacityLaw s → NoticesFit (beginSending s).supervisory.outgoing ∧ OrdersFit (beginSending s) ∧
      WaitsFit (beginSending s) ∧ RequestsFit (beginSending s) ∧ RecordsFit (beginSending s) := fun law => by
    obtain ⟨-, notices, orders, waits, requests, records, -⟩ := (capacityLaw_iff s).mp law
    rw [tail]
    rw [form]
    exact ⟨noticesFit_tail notices, orders, waits, requests, records⟩
  have others : (WindowLaw s → WindowLaw (beginSending s)) ∧ (FailureLaw s → FailureLaw (beginSending s)) ∧
      (MaskLaw s → MaskLaw (beginSending s)) ∧ (CreditLaw s → CreditLaw (beginSending s)) ∧
      (PlantLaw s → PlantLaw (beginSending s)) ∧ (ContextLaw s → ContextLaw (beginSending s)) := by
    rw [form]
    exact ⟨id, id, id, id, id, id⟩
  obtain ⟨window, failure, mask, credit, plant, context⟩ := others
  have stays : (s.supervisory.queue ≠ [] → portFree (beginSending s) = false) →
      LawsKept s (beginSending s) := fun busy => by
    refine ⟨window, failure, mask, credit, plant, context, fun law => ?_⟩
    obtain ⟨notices, orders, waits, requests, records⟩ := lists law
    exact (capacityLaw_iff _).mpr ⟨by rw [queue]; exact law.1, notices, orders, waits, requests, records,
      by rw [queue]; exact busy⟩
  unfold takeHead
  split
  case h_1 none => exact stays fun some => absurd (queue ▸ none) some
  case h_2 f rest waiting =>
    split
    case isFalse busy => exact stays fun _ => by simpa only [Bool.not_eq_true] using busy
    case isTrue free =>
      refine answerCommand_laws_of f _ (answerOf_effect f) window failure mask credit plant context
        fun law r reply => ?_
      obtain ⟨notices, orders, waits, requests, records⟩ := lists law
      obtain ⟨noWait, short⟩ := portFree_outgoing free
      rw [tail, List.length_tail] at short
      have was := law.2.2.2.2.2.2.2 (by rw [← queue, waiting]; exact nofun)
      have full : 16 ≤ s.supervisory.outgoing.length :=
        ((portFree_eq_false_iff s).mp was).resolve_left fun some => some (wait.mp noWait)
      refine (capacityLaw_iff _).mpr ⟨?_, ?_, orders, waits, requests, records, fun _ => ?_⟩
      · have four := law.1
        rw [← queue] at four
        simp only [placeOut_supervisory, leaveQueue_supervisory, List.length_tail]
        omega
      · refine noticesFit_of_length notices r reply ?_
        rw [tail, List.length_tail]
        omega
      · refine (portFree_eq_false_iff _).mpr (.inr ?_)
        simp only [placeOut_supervisory, leaveQueue_supervisory, tail, List.length_append, List.length_tail,
          List.length_singleton]
        omega

theorem frameSent_laws (s : State) :
    LawsKept s (if replyBeingSent s then startUp .command s else takeHead (beginSending s)) := by
  split
  case isTrue => exact startUp_laws .command s
  case isFalse => exact takeHead_beginSending_laws s

end Sys2Proof.Proofs
end


section
/-! SUPPORT. What every row, and so every step, keeps of the seven laws of Safety.lean. -/

namespace Sys2Proof.Proofs

open Sys2Proof.Machine Sys2Proof.Safety Sys2Proof.Laws

/-! ### What is dormant stays so (R107, R122, R155) -/

/-- An operation that leaves a dormant part dormant. -/
theorem Kept.laws_quiet {s t : State} (h : Kept s t) (still : Dormant s → s.partState ≠ .run → Dormant t) :
    LawsKept s t := by
  by_cases run : s.partState = .run
  case pos => exact h.laws_run run
  case neg => exact h.laws fun d => still d run

theorem runningStep_of_idle {s : State} (idle : s.executor.state = .idle) : runningStep s = none := by
  unfold runningStep
  rw [idle]

theorem dormant_updExecutor {f : Executor → Executor} {s : State}
    (state : (f s.executor).state = s.executor.state) (h : Dormant s) : Dormant (updExecutor f s) := fun off =>
  ⟨(h off).1, (h off).2.1, state.trans (h off).2.2⟩

theorem dormant_updContext {k : Slot} {f : Context → Context} {s : State}
    (state : (f s.contexts[k]).state = s.contexts[k].state)
    (flag : (f s.contexts[k]).inProgress = s.contexts[k].inProgress) (h : Dormant s) :
    Dormant (updContext k f s) := fun off => by
  refine ⟨fun j => ?_, (h off).2⟩
  rw [updContext_get]
  split
  case isFalse => exact (h off).1 j
  case isTrue same => subst same; rw [state, flag]; exact (h off).1 j

theorem state_of_dormant {s : State} (h : Dormant s) (off : s.partState ≠ .run) (k : Slot) :
    s.contexts[k].state = .vacant ∨ s.contexts[k].state = .lost := ((h off).1 k).1

/-! ### Step timer (R8, R9) -/

theorem fall_laws (c : Chan) (s : State) : LawsKept s (fall c s) := by
  have lists : ListsFit s (fall c s) := by
    unfold fall
    dsimp only
    split
    · split
      · exact ⟨id, queueSet_records c _ _, Nat.le_refl _⟩
      · exact ListsFit.refl s
    · exact ListsFit.refl s
  exact (Kept.of_plant (fall_plant c s) (fun _ => fall_fits c s) lists.1 lists.2 lists.3).laws_plant
    (fall_plant c s)

theorem putRequest_channels (c : Chan) (w : Nat) (s : State) : (putRequest c w s).channels = s.channels := by
  unfold putRequest
  split <;> rfl

/-- A rise that a channel wants reaches its target at most. -/
theorem riseWanted_some {s : State} {c : Chan} {w : Nat} (h : riseWanted s c = some w) :
    ∃ d t, s.channels[c].adopted = true ∧ s.channels[c].driveFault = false ∧ s.channels[c].driven = some d ∧
      s.channels[c].target = some t ∧ d < t ∧ w = min (t - d) (stepSize s.cfg.channels[c]) := by
  unfold riseWanted at h
  dsimp only at h
  split at h
  case h_2 => exact nomatch h
  case h_1 d t on driven target =>
    split at h
    case isFalse => exact nomatch h
    case isTrue below =>
      rw [Bool.and_eq_true, Bool.not_eq_true'] at on
      exact ⟨d, t, on.1, on.2, driven, target, below, (Option.some.inj h).symm⟩

theorem stepSize_pos (c : ChannelConfig) : 1 ≤ stepSize c := by
  unfold stepSize
  exact Nat.le_max_left 1 _

theorem putRequests_fits (s : State) : ∀ (l : List Chan) (t : State),
    (∀ c ∈ l, (riseWanted s c).isSome = true) → t.channels = s.channels → ChannelsFit t →
    ChannelsFit (l.foldl (fun t c => putRequest c ((riseWanted s c).getD 0) t) t)
  | [], _, _, _, fit => fit
  | c :: rest, t, rises, same, fit => by
    obtain ⟨w, wants⟩ := Option.isSome_iff_exists.mp (rises c (by simp))
    obtain ⟨d, target, adopted, -, driven, aims, below, rfl⟩ := riseWanted_some wants
    have pos := stepSize_pos s.cfg.channels[c]
    refine putRequests_fits s rest _ (fun e he => rises e (List.mem_cons_of_mem c he))
      ((putRequest_channels c _ t).trans same) ?_
    refine putRequest_fits c _ t ?_ ?_ ?_ fit
    · rw [wants, Option.getD_some]; omega
    · simp only [same]; exact adopted
    · refine ⟨d, target, ?_, ?_, ?_⟩
      · simp only [same]; exact driven
      · simp only [same]; exact aims
      · rw [wants, Option.getD_some]; omega

theorem putRequests_lists (s : State) (l : List Chan) (t : State) :
    ListsFit t (l.foldl (fun t c => putRequest c ((riseWanted s c).getD 0) t) t) :=
  foldl_moves ListsFit.refl ListsFit.trans _ (fun t c => putRequest_lists c _ t) l t

theorem requestAll_laws (s : State) : LawsKept s (requestAll s) := by
  have plant := foldl_plant (fun t c => putRequest c ((riseWanted s c).getD 0) t)
    (fun t c => putRequest_plant c _ t) (allChannels.filter fun c => (riseWanted s c).isSome) s
  have lists := putRequests_lists s (allChannels.filter fun c => (riseWanted s c).isSome) s
  have put := (Kept.of_plant plant (fun _ fit => putRequests_fits s _ s
    (fun c mem => (List.mem_filter.mp mem).2) rfl fit) lists.1 lists.2 lists.3).laws_plant plant
  unfold requestAll
  dsimp only
  split
  case isTrue => exact put
  case isFalse => exact put.trans (serve_laws _)

theorem setStepTimer_laws (timer : Option Nat) (s : State) : LawsKept s { s with stepTimer := timer } :=
  ⟨id, id, id, id, id, id, id⟩

theorem stepTimer_laws (s : State) :
    LawsKept s (requestAll (fallAll { s with stepTimer := some (s.now + Config.stepPeriod) })) :=
  ((setStepTimer_laws _ s).trans (foldl_laws _ (fun s c => fall_laws c s) allChannels _)).trans
    (requestAll_laws _)

/-! ### Refill, start-confirm, starvation and age timers -/

theorem noteCredit_laws (s : State) : LawsKept s (noteCredit s) := by
  refine (noteCredit_kept s).laws_quiet fun d off => ?_
  unfold noteCredit
  rw [runningStep_of_idle (d off).2.2]
  exact d

theorem refillCredit_laws (s : State) : LawsKept s (refillCredit (restartRefill s)) :=
  ⟨id, id, id, fun law => ⟨Nat.min_le_left _ _, law.2⟩, id, id, id⟩

theorem refill_laws (s : State) : LawsKept s (noteCredit (serve (refillCredit (restartRefill s)))) :=
  ((refillCredit_laws s).trans (serve_laws _)).trans (noteCredit_laws _)

theorem startConfirm_laws (c : Chan) (s : State) :
    LawsKept s (setDriveFault c (updChannel c (fun ch => { ch with startConfirm := none }) s)) :=
  (updChannel_laws c _ s fun _ => updChannel_fits c _ s id rfl rfl rfl).trans (setDriveFault_laws c _)

theorem updEntry_laws (c : Chan) (f : AdmissionEntry → AdmissionEntry) (s : State)
    (channel : ∀ e, (f e).channel = e.channel) (wanted : ∀ e, (f e).wanted = e.wanted) :
    LawsKept s (updEntry c f s) := by
  have same : ∀ e : AdmissionEntry, (if e.channel == c then f e else e).channel = e.channel := fun e => by
    split
    · exact channel e
    · rfl
  refine ⟨id, id, id, id, fun law => ?_, id, fun law => ?_⟩
  · obtain ⟨targets, records, nodup, entries⟩ := (plantLaw_iff s).mp law
    refine (plantLaw_iff _).mpr ⟨targets, records, nodup_overwritten _ _ same nodup, fun x hx => ?_⟩
    obtain ⟨e, he, rfl⟩ := List.mem_map.mp hx
    split
    case isFalse => exact entries e he
    case isTrue =>
      obtain ⟨adopted, pos, d, t, driven, target, le⟩ := entries e he
      unfold entryLawful
      rw [wanted]
      simp only [channel]
      exact ⟨adopted, pos, d, t, driven, target, le⟩
  · obtain ⟨queue, notices, orders, waits, requests, records, busy⟩ := (capacityLaw_iff s).mp law
    exact (capacityLaw_iff _).mpr ⟨queue, notices, orders, waits, nodup_overwritten _ _ same requests, records,
      busy⟩

theorem starve_laws (c : Chan) (e : AdmissionEntry) (s : State) : LawsKept s (starve c e s) := by
  have marked := updEntry_laws c (fun e => { e with starvation := none, reported := true }) s (fun _ => rfl)
    fun _ => rfl
  unfold starve
  dsimp only
  split
  case isTrue => exact marked
  case isFalse => exact marked.trans (latch_laws _ _ _)

theorem starvation_laws (c : Chan) (s : State) : LawsKept s (match entryOf s c with
    | none => s
    | some e => expire e.starvation (starve c e) s) := by
  split
  case h_1 => exact LawsKept.refl s
  case h_2 e _ => exact expire_laws _ _ s (starve_laws c e)

theorem age_laws (s : State) : LawsKept s (latch .daylightStale none
    { s with daylight := { s.daylight with ageTimer := none, stale := true } }) := by
  refine LawsKept.trans ?_ (latch_laws _ _ _)
  exact ⟨id, id, id, id, id, id, id⟩

/-! ### Report timer (R69, R89, R93) -/

theorem rearmReport_kept (k : Slot) (s : State) : Kept s (rearmReport k s) := by
  unfold rearmReport
  split
  case isTrue reports => exact startReport_kept k s reports
  case isFalse => exact Kept.refl s

/-- The report timer has run out and is marked so. -/
def reportEnded (k : Slot) (s : State) : State :=
  updPort k (fun p => { p with reportTimer := none, reportLost := true }) s

theorem reportEnded_others (k : Slot) (s : State) (law : ContextLaw s) : OthersFit k (reportEnded k s) :=
  fun j other => by
    unfold reportEnded
    rw [updPort_other k j _ s other]
    exact (contextLaw_iff s).mp law j

theorem reportEnded_context (k : Slot) (s : State) (quiet : reporting s.contexts[k].state = false)
    (law : ContextLaw s) : ContextLaw (reportEnded k s) := (contextLaw_iff _).mpr fun j => by
  obtain ⟨context, report⟩ := (contextLaw_iff s).mp law j
  refine ⟨context, ?_⟩
  unfold reportEnded
  rw [updPort_get]
  split
  case isFalse => exact report
  case isTrue same =>
    subst same
    refine iff_of_false nofun ?_
    show ¬(s.contexts[j].state = .track ∨ s.contexts[j].state = .control)
    revert quiet
    cases s.contexts[j].state <;> simp [reporting]

/-- An operation after the report timer's end keeps what it keeps by itself, and mends the slot's context. -/
theorem reportEnded_then_kept (k : Slot) (s : State) {t : State} (h : Kept (reportEnded k s) t)
    (context : ContextLaw s → ContextLaw t) : Kept s t :=
  ⟨(updPort_lists k _ s id).trans h.toListsKept, h.failure, context, h.window⟩

theorem reportMissed_kept (k : Slot) (s : State) : Kept s (reportMissed k (reportEnded k s)) := by
  have others := reportEnded_others k s
  unfold reportMissed
  split
  case h_1 track =>
    have live : (reportEnded k s).contexts[k].state ≠ .vacant ∧ (reportEnded k s).contexts[k].state ≠ .fault := by
      rw [track]; decide
    split
    case isTrue =>
      exact reportEnded_then_kept k s (failAttempt_kept k _ live) fun law =>
        failAttempt_context k _ (others law)
    case isFalse off =>
      exact reportEnded_then_kept k s (enterLost_kept k _ live fun set => absurd set off) fun law =>
        enterLost_context k _ (others law)
  case h_2 control =>
    have lost := enterLost_kept k (reportEnded k s) (by rw [control]; decide)
      (fun _ => by rw [control]; unfold FlagState; decide)
    exact (reportEnded_then_kept k s lost fun law => enterLost_context k _ (others law)).trans (latch_kept _ _ _)
  case h_3 track control =>
    refine reportEnded_then_kept k s (Kept.refl _) (reportEnded_context k s ?_)
    revert track control
    show ((s.contexts[k].state = .track → False) → (s.contexts[k].state = .control → False) → _)
    cases s.contexts[k].state <;> simp [reporting]

theorem reportTimer_laws (k : Slot) (s : State) :
    LawsKept s (rearmReport k (reportMissed k (reportEnded k s))) := by
  refine ((reportMissed_kept k s).trans (rearmReport_kept k _)).laws_quiet fun d off => ?_
  have quiet : reportMissed k (reportEnded k s) = reportEnded k s := by
    unfold reportMissed
    rcases state_of_dormant d off k with e | e <;>
      rw [show (reportEnded k s).contexts[k].state = _ from e]
  have idle : rearmReport k (reportEnded k s) = reportEnded k s := by
    unfold rearmReport
    rcases state_of_dormant d off k with e | e <;>
      rw [show (reportEnded k s).contexts[k].state = _ from e] <;> rfl
  rw [quiet, idle]
  exact d

/-! ### The timers of a context (R76, R80, R81, R84, R89) -/

theorem settleEnds_laws (k : Slot) (s : State) : LawsKept s (if s.contexts[k].state = .settle then
    enterHello k s else updContext k (fun x => { x with settleTimer := none }) s) := by
  split
  case isTrue settle =>
    refine (enterHello_kept k s (by rw [settle]; decide)).laws_quiet fun d off => ?_
    rcases state_of_dormant d off k with e | e <;> exact nomatch settle.symm.trans e
  case isFalse =>
    refine (updContext_kept k _ s (fun _ => id) ?_ rfl rfl).laws (dormant_updContext rfl rfl)
    exact fun ⟨join, cause, _, hello, image, track⟩ => ⟨join, cause, nofun, hello, image, track⟩

/-- A timer that is cleared, and whose end fails the attempt in its state. -/
theorem timerFails_laws (k : Slot) (state : ComputerState) (f : Context → Context) (s : State)
    (live : state ≠ .vacant ∧ state ≠ .fault ∧ state ≠ .lost) (cleared : Kept s (updContext k f s))
    (same : (f s.contexts[k]).state = s.contexts[k].state)
    (flag : (f s.contexts[k]).inProgress = s.contexts[k].inProgress) :
    LawsKept s (if (updContext k f s).contexts[k].state = state then failAttempt k (updContext k f s)
      else updContext k f s) := by
  obtain ⟨vacant, fault, lost⟩ := live
  split
  case isFalse => exact cleared.laws (dormant_updContext same flag)
  case isTrue e =>
    refine (cleared.trans (failAttempt_kept k _ (by rw [e]; exact ⟨vacant, fault⟩))).laws_quiet fun d off => ?_
    rw [updContext_same, same] at e
    rcases state_of_dormant d off k with here | here <;> rw [here] at e
    · exact absurd e.symm vacant
    · exact absurd e.symm lost

theorem helloTimer_laws (k : Slot) (s : State) :
    LawsKept s (if (updContext k (fun x => { x with helloTimer := none }) s).contexts[k].state = .join then
      failAttempt k (updContext k (fun x => { x with helloTimer := none }) s)
      else updContext k (fun x => { x with helloTimer := none }) s) :=
  timerFails_laws k .join (fun x => { x with helloTimer := none }) s (by decide)
    (updContext_kept k _ s (fun _ => id)
      (fun ⟨join, cause, settle, _, image, track⟩ => ⟨join, cause, settle, nofun, image, track⟩) rfl rfl) rfl rfl

theorem imageTimer_laws (k : Slot) (s : State) :
    LawsKept s (if (updContext k (fun x => { x with imageTimer := none }) s).contexts[k].state = .join then
      failAttempt k (updContext k (fun x => { x with imageTimer := none }) s)
      else updContext k (fun x => { x with imageTimer := none }) s) :=
  timerFails_laws k .join (fun x => { x with imageTimer := none }) s (by decide)
    (updContext_kept k _ s (fun _ => id)
      (fun ⟨join, cause, settle, hello, _, track⟩ => ⟨join, cause, settle, hello, nofun, track⟩) rfl rfl) rfl rfl

theorem trackTimer_laws (k : Slot) (s : State) :
    LawsKept s (if (updContext k (fun x => { x with trackTimer := none }) s).contexts[k].state = .track then
      failAttempt k (updContext k (fun x => { x with trackTimer := none }) s)
      else updContext k (fun x => { x with trackTimer := none }) s) :=
  timerFails_laws k .track (fun x => { x with trackTimer := none }) s (by decide)
    (updContext_kept k _ s (fun _ => id)
      (fun ⟨join, cause, settle, hello, image, _⟩ => ⟨join, cause, settle, hello, image, nofun⟩) rfl rfl) rfl rfl

/-! ### Executor, adoption, store (R127, R144 to R147, R178, R181) -/

theorem stepExpired_laws (s : State) : LawsKept s (stepExpired s) := by
  refine (stepExpired_kept s).laws_quiet fun d off => ?_
  have none : runningStep (updExecutor (fun x => { x with stepTimer := none }) s) = none :=
    runningStep_of_idle (d off).2.2
  unfold stepExpired
  dsimp only
  rw [none]
  exact dormant_updExecutor rfl d

theorem passExpired_laws (s : State) : LawsKept s (passExpired s) := by
  refine (passExpired_kept s).laws_quiet fun d off => ?_
  have idle : (updExecutor (fun x => { x with passTimer := none }) s).executor.state = .idle := (d off).2.2
  unfold passExpired
  dsimp only
  split
  · exact dormant_updExecutor rfl d
  · rw [idle]
    exact dormant_updExecutor rfl d

theorem takeEdge_laws (s : State) : LawsKept s (takeEdge s) := by
  refine (takeEdge_kept s).laws_quiet fun d off => ?_
  unfold takeEdge
  rw [(d off).2.2]
  have moves := count_plant .triggerIgnored s
  exact dormant_of moves.partState moves.contexts moves.window moves.executor d

theorem adoptionExpired_laws (s : State) : LawsKept s (adoptionExpired s) := by
  unfold adoptionExpired
  split
  · exact (latch_laws _ _ s).trans (enterRun_laws _)
  · exact enterRun_laws s

theorem adoptionTimer_laws (s : State) :
    LawsKept s (if { s with adoptionTimer := none }.partState = .adopt then
      adoptionExpired { s with adoptionTimer := none } else { s with adoptionTimer := none }) := by
  have cleared : LawsKept s { s with adoptionTimer := none } := ⟨id, id, id, id, id, id, id⟩
  exact cleared.thenIf adoptionExpired_laws

theorem writeEnds_laws (ok : Bool) (image : StoredImage) (s : State) (writes : s.store.writing = some image) :
    LawsKept s (writeEnds ok image s) := by
  unfold writeEnds
  split <;> refine LawsKept.trans ?_ (latch_laws _ _ _)
  · exact ⟨id, id, fun law => ⟨law.1, law.2.2 image writes, nofun⟩, id,
      fun law => ⟨law.1, law.2.2.1 image writes, nofun, law.2.2.2⟩, id, id⟩
  · exact ⟨id, id, fun law => ⟨law.1, law.2.1, nofun⟩, id, fun law => ⟨law.1, law.2.1, nofun, law.2.2.2⟩, id, id⟩

theorem writeCompletion_laws (ok : Bool) (s : State) : LawsKept s (match s.store.writing with
    | none => s
    | some image => writeEnds ok image s) := by
  split
  case h_1 => exact LawsKept.refl s
  case h_2 image writes => exact writeEnds_laws ok image s writes

/-! ### Computer lines (R60 to R67, R71, R81 to R84, R94 to R96) -/

theorem inRun_laws {f : State → State} (h : ∀ s, Kept s (f s)) (s : State) : LawsKept s (inRun f s) := by
  unfold inRun
  split
  case isTrue run => exact (h s).laws_run run
  case isFalse => exact LawsKept.refl s

theorem demand_kept (k : Slot) (seq : Nat) (health : Health) (pairs : List (Nat × Nat)) (s : State) :
    Kept s (match s.contexts[k].state with
      | .track => acceptReport k seq health pairs s
      | .control => acceptReport k seq health pairs s
      | .lost => reportInLost k seq health pairs s
      | .settle | .join | .paused | .fault | .vacant => expectAfter k seq (count .reportsDiscarded s)) := by
  split
  case h_1 track => exact acceptReport_kept k seq health pairs s (by rw [track]; rfl)
  case h_2 control => exact acceptReport_kept k seq health pairs s (by rw [control]; rfl)
  case h_3 lost => exact reportInLost_kept k seq health pairs s lost
  all_goals exact (count_kept _ s).trans (expectAfter_kept k seq _)

theorem hello_kept (k : Slot) (s : State) :
    Kept s (match s.contexts[k].state with
      | .join => helloInJoin k s
      | .track => if s.contexts[k].inProgress then rejoin k s else selfRestart k s
      | .control => selfRestart k s
      | .lost => selfRestart k s
      | .settle => count .prematureHello s
      | .paused | .fault | .vacant => count .reportsDiscarded s) := by
  split
  case h_1 join => exact helloInJoin_kept k s join
  case h_2 track =>
    split
    · exact enterImage_kept k s (by rw [track]; decide)
    · exact selfRestart_kept k s (by rw [track]; decide)
  case h_3 control => exact selfRestart_kept k s (by rw [control]; decide)
  case h_4 lost => exact selfRestart_kept k s (by rw [lost]; decide)
  all_goals exact count_kept _ s

theorem replyCurrent_state {x : Context} {generation : Nat} (h : replyCurrent x generation = true) :
    x.state = .join ∧ x.phase = some .image ∧ x.generation = generation := by
  simpa [replyCurrent, and_assoc] using h

theorem imageOk_kept (k : Slot) (generation : Nat) (s : State) :
    Kept s (if replyCurrent s.contexts[k] generation then enterTrack k (joinCause s.contexts[k]) true s
      else count .staleImageReplies s) := by
  split
  case isTrue now => exact enterTrack_kept k _ _ s (by rw [(replyCurrent_state now).1]; decide)
  case isFalse => exact count_kept _ s

theorem imageReject_kept (k : Slot) (generation reason : Nat) (s : State) :
    Kept s (if replyCurrent s.contexts[k] generation then
        failAttempt k (updPort k (fun p => { p with lastReject := some reason }) s)
      else count .staleImageReplies s) := by
  split
  case isTrue now =>
    refine (updPort_kept k _ s rfl id).trans (failAttempt_kept k _ ?_)
    show s.contexts[k].state ≠ _ ∧ s.contexts[k].state ≠ _
    rw [(replyCurrent_state now).1]
    decide
  case isFalse => exact count_kept _ s

theorem beginOrder_kept (k : Slot) (s : State) : Kept s (updPort k beginOrder s) := by
  refine updPort_kept k _ s ?_ ?_ <;> unfold beginOrder <;> split
  · rfl
  · rfl
  · exact id
  case _ rest list =>
    intro room
    rw [list] at room
    exact (Nat.le_succ _).trans room

/-! ### Field line (R13, R14, R180, R181) -/

theorem onField_laws {f : State → State} (h : ∀ s, LawsKept s (f s)) (s : State) :
    LawsKept s (onField f s) := by
  unfold onField
  split
  case h_1 => exact LawsKept.refl s
  all_goals exact h s

theorem closeWindow_laws (address : Nat) (s : State) : LawsKept s (closeWindow address s) := by
  unfold closeWindow
  split
  case h_2 => exact LawsKept.refl s
  case h_1 =>
    split
    case isTrue => exact ⟨id, id, id, id, id, id, id⟩
    case isFalse => exact LawsKept.refl s

theorem judgeRecord_laws (c : Chan) (run : ModuleRun) (s : State) : LawsKept s (judgeRecord c run s) := by
  unfold judgeRecord
  split
  case h_1 =>
    exact (updChannel_laws c (fun ch => { ch with startConfirm := none }) s fun _ =>
      updChannel_fits c _ s id rfl rfl rfl).trans (clearDriveFault_laws c _)
  case h_2 =>
    split
    case isTrue => exact setDriveFault_laws c s
    case isFalse => exact LawsKept.refl s
  case h_3 => exact setDriveFault_laws c s

theorem takeState_laws (c : Chan) (value : Nat) (run : ModuleRun) (s : State) :
    LawsKept s (takeState c value run s) := by
  have reported : LawsKept s (updChannel c (fun ch => { ch with runState := reportedRun run }) s) :=
    updChannel_laws c _ s fun _ => updChannel_fits c _ s id rfl rfl rfl
  unfold takeState
  dsimp only
  refine LawsKept.trans ?_ (judgeRecord_laws c run _)
  split
  case isTrue => exact reported
  case isFalse off =>
    exact reported.trans (adoptAt_derive_laws c _ _ (Nat.min_le_right _ _) (by
      simpa only [Bool.not_eq_true] using off))

theorem endAdoption_laws (adopted : Bool) (s : State) : LawsKept s (endAdoption adopted s) := by
  unfold endAdoption
  split
  case isTrue => exact enterRun_laws s
  case isFalse => exact LawsKept.refl s

theorem stateRecord_laws (address value : Nat) (run : ModuleRun) (s : State) :
    LawsKept s (match chanOf address with
      | none => closeWindow address s
      | some c => if isUsed (closeWindow address s) c then
          endAdoption (!(closeWindow address s).channels[c].adopted)
            (takeState c value run (closeWindow address s))
        else closeWindow address s) := by
  have closed := closeWindow_laws address s
  split
  case h_1 => exact closed
  case h_2 c _ =>
    split
    case isFalse => exact closed
    case isTrue => exact (closed.trans (takeState_laws c value run _)).trans (endAdoption_laws _ _)

theorem pollNext_laws (visit : Chan → Bool) (s : State) : LawsKept s (pollNext visit s) := by
  unfold pollNext
  split
  case h_1 => exact ⟨id, id, id, id, id, id, id⟩
  case h_2 => exact LawsKept.refl s

theorem sendRecord_laws (s : State) : LawsKept s (sendRecord s) := by
  unfold sendRecord
  split
  case h_1 => exact LawsKept.refl s
  case h_2 => exact pollNext_laws _ s
  case h_3 =>
    split
    case h_2 => exact pollNext_laws _ s
    case h_1 r rest list =>
      refine ⟨id, id, id, id, id, id, fun law => ?_⟩
      obtain ⟨queue, notices, orders, waits, requests, records, busy⟩ := (capacityLaw_iff s).mp law
      refine (capacityLaw_iff _).mpr ⟨queue, notices, orders, waits, requests, ?_, busy⟩
      have both : ((r :: rest).map (·.channel)).Nodup := list ▸ records
      exact (List.nodup_cons.mp both).2

theorem windowEnds_laws (c : Chan) (s : State) :
    LawsKept s (updChannel c (fun ch => { ch with runState := .unknown })
      { s with field := { s.field with window := none } }) := by
  have closed : LawsKept s { s with field := { s.field with window := none } } := ⟨id, id, id, id, id, id, id⟩
  exact closed.trans (updChannel_laws c _ _ fun _ => updChannel_fits c _ _ id rfl rfl rfl)

theorem answerWindow_laws (s : State) : LawsKept s (match s.field.window with
    | none => s
    | some w => expire (some w.deadline) (fun s => updChannel w.channel (fun ch => { ch with runState := .unknown })
        { s with field := { s.field with window := none } }) s) := by
  split
  case h_1 => exact LawsKept.refl s
  case h_2 w _ => exact expire_laws _ _ s (windowEnds_laws w.channel)

theorem lineFree_laws (s : State) :
    LawsKept s (if s.field.window.isSome ∨ s.field.period.isSome then s else sendRecord s) := by
  split
  case isTrue => exact LawsKept.refl s
  case isFalse => exact sendRecord_laws s

theorem periodEnds_laws (s : State) : LawsKept s (sendRecord { s with field := { s.field with period := none } }) := by
  have closed : LawsKept s { s with field := { s.field with period := none } } := ⟨id, id, id, id, id, id, id⟩
  exact closed.trans (sendRecord_laws _)

/-! ### Every row and every step -/

theorem next_laws {s t u : State} (h : LawsKept s t)
    (next : (.next t : Host.Outcome State Fault Refusal) = .next u) : LawsKept s u :=
  Host.Outcome.next.inj next ▸ h

theorem gap_laws (s : State) : LawsKept s (count .framesDiscarded
    { s with supervisory := { s.supervisory with gapErrors := bump16 s.supervisory.gapErrors } }) := by
  refine LawsKept.trans ?_ (count_laws _ _)
  exact ⟨id, id, id, id, id, id, id⟩

theorem frameReceived_laws (f : CommandFrame) (s : State) : LawsKept s
    (if Config.maxPayload < f.payload.length then discardFrame .format s else arrive f s) := by
  split
  case isTrue => exact discardFrame_laws _ s
  case isFalse => exact arrive_laws f s

theorem exec_laws {i : Instr} {s t : State} (next : exec i s = .next t) : LawsKept s t := by
  cases i with
  | setComputer => exact takeCommand_laws (setComputer_effect _) next
  | setChannel => exact takeCommand_laws (setChannel_effect _) next
  | setBudget => exact takeCommand_laws (setBudget_effect _) next
  | setWindow => exact takeCommand_laws (setWindow_effect _) next
  | setDaylight => exact takeCommand_laws (setDaylight_effect _) next
  | setPlan => exact takeCommand_laws (setPlan_effect _) next
  | setEventMask => exact takeCommand_laws (setEventMask_effect _) next
  | setCounterSource => exact takeCommand_laws (setCounterSource_effect _) next
  | storeConfig => exact takeCommand_laws (storeConfig_effect _) next
  | commission => exact takeCommand_laws (commission_effect _) next
  | restart => exact takeCommand_laws (restart_effect _) next
  | cancelRestart => exact takeCommand_laws (cancelRestart_effect _) next
  | pause => exact takeCommand_laws (pause_effect _) next
  | resume => exact takeCommand_laws (resume_effect _) next
  | force => exact takeCommand_laws (force_effect _) next
  | unforce => exact takeCommand_laws (unforce_effect _) next
  | clearFault => exact takeCommand_laws (clearFault_effect _) next
  | planStart => exact takeCommand_laws (planStart_effect _) next
  | planStop => exact takeCommand_laws (planStop_effect _) next
  | luminance => exact takeCommand_laws (luminance_effect _) next
  | feed => exact takeCommand_laws (feed_effect _) next
  | resetPart => exact takeCommand_laws (resetPart_effect _) next
  | getComputer => exact takeCommand_laws (getComputer_effect _) next
  | getChannel => exact takeCommand_laws (getChannel_effect _) next
  | getBudget => exact takeCommand_laws (getBudget_effect _) next
  | getWaitList => exact takeCommand_laws (getWaitList_effect _) next
  | getPlanStatus => exact takeCommand_laws (getPlanStatus_effect _) next
  | getDaylight => exact takeCommand_laws (getDaylight_effect _) next
  | readEvents => exact takeCommand_laws (readEvents_effect _) next
  | readCounter => exact takeCommand_laws (readCounter_effect _) next
  | identify => exact takeCommand_laws (identify_effect _) next
  | unknownCommand => exact takeCommand_laws (answerOf_effect _) next
  | supervisoryFrameReceived kind tag payload =>
    exact whenLive_laws (frameReceived_laws { kind, tag, payload }) next
  | supervisoryFrameDiscard cause => exact whenLive_laws (discardFrame_laws cause) next
  | supervisoryGap => exact whenLive_laws gap_laws next
  | supervisoryFrameSent => exact whenLive_laws frameSent_laws next
  | commandReset => exact whenLive_laws (fun u => (LawsKept.refl u).thenIf (startUp_laws .command)) next
  | powerReset =>
    refine next_laws ?_ next
    split
    · exact holdInReset_laws _ s
    · exact startUp_laws _ s
  | lineResetAssert =>
    refine next_laws ?_ next
    split
    · exact LawsKept.refl s
    · exact holdInReset_laws _ s
  | lineResetRelease => exact next_laws ((LawsKept.refl s).thenIf (startUp_laws s.lastReset)) next
  | demand k seq health pairs => exact whenLive_laws (inRun_laws (demand_kept k seq health pairs)) next
  | hello k => exact whenLive_laws (inRun_laws (hello_kept k)) next
  | imageOk k _ generation => exact whenLive_laws (inRun_laws (imageOk_kept k generation)) next
  | imageReject k _ generation reason =>
    exact whenLive_laws (inRun_laws (imageReject_kept k generation reason)) next
  | computerFrameDiscard k cause =>
    refine whenLive_laws (inRun_laws fun u => (updPort_kept k _ u ?_ ?_).trans (count_kept _ _)) next
    · cases cause <;> rfl
    · cases cause <;> exact id
  | computerGap k =>
    exact whenLive_laws (inRun_laws fun u => (updPort_kept k _ u rfl id).trans (count_kept _ _)) next
  | computerOrderSent k => exact whenLive_laws (inRun_laws (beginOrder_kept k)) next
  | stateRecord address value run =>
    exact whenLive_laws (onField_laws (stateRecord_laws address value run)) next
  | fieldRecordDiscard => exact whenLive_laws (onField_laws (count_laws _)) next
  | fieldGap => exact whenLive_laws (onField_laws (count_laws _)) next
  | fieldLineFree => exact whenLive_laws lineFree_laws next
  | answerWindow => exact whenLive_laws answerWindow_laws next
  | answerPeriod => exact whenLive_laws (fun u => expire_laws _ _ u periodEnds_laws) next
  | stepTimer => exact whenLive_laws (fun u => expire_laws _ _ u stepTimer_laws) next
  | refillTimer => exact whenLive_laws (fun u => expire_laws _ _ u refill_laws) next
  | startConfirmTimer c => exact whenLive_laws (fun u => expire_laws _ _ u (startConfirm_laws c)) next
  | starvationTimer c => exact whenLive_laws (starvation_laws c) next
  | ageTimer => exact whenLive_laws (fun u => expire_laws _ _ u age_laws) next
  | reportTimer k => exact whenLive_laws (fun u => expire_laws _ _ u (reportTimer_laws k)) next
  | settleTimer k => exact whenLive_laws (fun u => expire_laws _ _ u (settleEnds_laws k)) next
  | helloTimer k => exact whenLive_laws (fun u => expire_laws _ _ u (helloTimer_laws k)) next
  | imageTimer k => exact whenLive_laws (fun u => expire_laws _ _ u (imageTimer_laws k)) next
  | trackTimer k => exact whenLive_laws (fun u => expire_laws _ _ u (trackTimer_laws k)) next
  | planStepTimer => exact whenLive_laws (fun u => expire_laws _ _ u stepExpired_laws) next
  | passTimer => exact whenLive_laws (fun u => expire_laws _ _ u passExpired_laws) next
  | adoptionTimer => exact whenLive_laws (fun u => expire_laws _ _ u adoptionTimer_laws) next
  | storeWriteCompletion ok => exact whenLive_laws (writeCompletion_laws ok) next
  | planTriggerEdge => exact whenLive_laws takeEdge_laws next

/-! ### The queue, the arrivals and what the part does of itself (assumption logs 1, 2, 14, 15) -/

/-- The inputs, the queues and the clock stand in no law. -/
theorem inputs_laws (s : State) (pending : List Instr) (arriving : List Arrival) (now : Nat) (inputs : Inputs)
    (pins : Pins) : LawsKept s { s with pending, arriving, now, inputs, pins } := ⟨id, id, id, id, id, id, id⟩

theorem filterTaken_laws (pin : Pin) (s : State) : LawsKept s (filterTaken pin s) := by
  cases pin <;> exact inputs_laws s _ _ _ _ _

theorem pinEvent_laws {s t : State} {i : Instr} (h : pinEvent s = some (i, t)) : LawsKept s t := by
  unfold pinEvent at h
  split at h
  · obtain ⟨-, rfl⟩ := Prod.mk.inj (Option.some.inj h)
    exact filterTaken_laws _ s
  · split at h
    · obtain ⟨-, rfl⟩ := Prod.mk.inj (Option.some.inj h)
      exact filterTaken_laws _ s
    · exact nomatch h

theorem ownEvent_laws {s t : State} {i : Instr} (h : ownEvent s = some (i, t)) : LawsKept s t := by
  unfold ownEvent at h
  split at h
  case h_1 pin => exact pinEvent_laws (pin.trans h)
  case h_2 =>
    obtain ⟨_, -, same⟩ := Option.map_eq_some_iff.mp h
    obtain ⟨-, rfl⟩ := Prod.mk.inj same
    exact LawsKept.refl s

theorem hearAt_laws (input : Input) (c : LineByte) (s : State) : LawsKept s (hearAt input c s).1 := by
  unfold hearAt
  split
  case isTrue => exact inputs_laws s _ _ _ _ _
  case isFalse => exact LawsKept.refl s

theorem quietPasses_laws (n : Nat) (s : State) : LawsKept s (quietPasses n s) := by
  cases n with
  | zero => exact LawsKept.refl s
  | succ m => exact inputs_laws s _ _ _ _ _

theorem setLevel_laws (pin : Pin) (high : Bool) (s : State) : LawsKept s (setLevel pin high s).1 := by
  cases pin <;> exact inputs_laws s _ _ _ _ _

theorem takeIn_laws (a : Arrival) (s : State) : LawsKept s (takeIn a s).1 := by
  cases a with
  | char input c => exact hearAt_laws input c s
  | level pin high =>
    simp only [takeIn]
    split
    case h_1 e => exact (pinEvent_laws e).trans (inputs_laws _ _ _ _ _ _)
    case h_2 => exact setLevel_laws pin high s
  | quiet n =>
    simp only [takeIn]
    split
    case h_1 e => exact (ownEvent_laws e).trans (inputs_laws _ _ _ _ _ _)
    case h_2 => exact quietPasses_laws n s

theorem takeArrival_laws {a : Arrival} {s t : State} (next : takeArrival a s = .next t) : LawsKept s t := by
  have taken := takeIn_laws a s
  unfold takeArrival at next
  split at next
  case h_1 e => rw [e] at taken; exact taken.trans (exec_laws next)
  case h_2 e => rw [e] at taken; exact next_laws taken next

theorem ownAct_laws {s t : State} (next : ownAct s = .next t) : LawsKept s t := by
  unfold ownAct at next
  split at next
  case h_1 e => exact (ownEvent_laws e).trans (exec_laws next)
  case h_2 => exact next_laws (inputs_laws s _ _ _ _ _) next

/-- Every step keeps every law. -/
theorem step_laws {s t : State} (next : step s = .next t) : LawsKept s t := by
  unfold step at next
  split at next
  case h_1 => exact (inputs_laws s _ _ _ _ _).trans (exec_laws next)
  case h_2 =>
    unfold idle at next
    split at next
    case h_1 => exact (inputs_laws s _ _ _ _ _).trans (takeArrival_laws next)
    case h_2 => exact ownAct_laws next

/-! ### The seven invariants -/

/-- Settles O53: a step moves a flag and its bore's count together (`Kept`, with the issue of an order under
the limit and the release of a window slot), and dormancy ends at the entry to RUN only. -/
theorem stepKeepsWindowLaw : Obligations.StepKeepsWindowLaw := fun _ _ law next => (step_laws next).window law

/-- Settles O54: failures rise in an attempt's failure only, whose seventh enters FAULT, and VACANT is entered
and left with the enabled field. -/
theorem stepKeepsFailureLaw : Obligations.StepKeepsFailureLaw := fun _ _ law next => (step_laws next).failure law

/-- Settles O55: a mask is read with the three flags clear, and an image comes from the working configuration,
the store or the factory defaults. -/
theorem stepKeepsMaskLaw : Obligations.StepKeepsMaskLaw := fun _ _ law next => (step_laws next).mask law

/-- Settles O56: credit rises at a refill only, and is clamped wherever the cap changes. -/
theorem stepKeepsCreditLaw : Obligations.StepKeepsCreditLaw := fun _ _ law next => (step_laws next).credit law

/-- Settles O57: targets come from values in range, and a lowered target withdraws or lowers its entry. -/
theorem stepKeepsPlantLaw : Obligations.StepKeepsPlantLaw := fun _ _ law next => (step_laws next).plant law

/-- Settles O58: the phase, the track cause and the timers are set at the entry to a state (`changeState_context`)
and cleared at the next. -/
theorem stepKeepsContextLaw : Obligations.StepKeepsContextLaw := fun _ _ law next => (step_laws next).context law

/-- Settles O59: each list grows under its bound only, and a waiting command finds the list of a busy port
full again behind the reply of the one that was taken. -/
theorem stepKeepsCapacityLaw : Obligations.StepKeepsCapacityLaw := fun _ _ law next =>
  (step_laws next).capacity law

/-! ### The queue's front -/

/-- Settles O1: `step` looks at the queue first. -/
theorem stepRunsFront : Obligations.StepRunsFront := fun s i rest front => by
  unfold step
  rw [front]

end Sys2Proof.Proofs
end


section
/-! SUPPORT. The effects that commands have, each with the kind that it belongs to (`Effect`), and what every
row leaves as it is of the pieces of state that only some rows touch (`Stays`). -/

namespace Sys2Proof.Proofs

open Sys2Proof.Machine Sys2Proof.Safety Sys2Proof.Laws

/-! ### The effects of the commands (R158, R159) -/

/-- What a command may do behind its reply. -/
inductive Effect
  | nothing
  | computer (k : Slot) (new : ComputerConfig)
  | channel (c : Chan) (new : ChannelConfig)
  | budget (b : BudgetConfig)
  | windows (l1 l2 : Nat)
  | daylight (d : DaylightConfig)
  | plan (p : PlanNo) (r : PlanRecord)
  | mask (hi lo : Byte)
  | source (x : CounterSource)
  | store
  | commission
  | request (k : Slot)
  | cancel (k : Slot)
  | pause (k : Slot)
  | resume (k : Slot)
  | force (c : Chan) (value : Nat)
  | unforce (c : Chan)
  | clearFault (c : Chan)
  | start (p : PlanNo)
  | stop (atPassEnd : Bool)
  | reading (value : Nat)
  | feed (f : FeedState)
  | reset
  | reportSeen (k : Slot)
  | eventsRead
  | counterRead

/-- The effect on the part. -/
def Effect.run : Effect → State → State
  | .nothing => id
  | .computer k new => applyComputer k new
  | .channel c new => applyChannel c new
  | .budget b => applyBudget b
  | .windows l1 l2 => applyWindow l1 l2
  | .daylight d => applyDaylight d
  | .plan p r => applyPlan p r
  | .mask hi lo => fun s => { s with cfg := { s.cfg with mask := readMask hi lo } }
  | .source x => fun s => { s with cfg := { s.cfg with counterSource := x }, counter := 0 }
  | .store => beginWrite
  | .commission => applyCommission
  | .request k => takeRequest .supervisor k
  | .cancel k => dropEntry k
  | .pause k => pauseSlot k
  | .resume k => resumeSlot k
  | .force c value => forceChannel c value
  | .unforce c => unforceChannel c
  | .clearFault c => clearDriveFault c
  | .start p => startPlan p
  | .stop atPassEnd => if atPassEnd then stopAtPassEnd else endExecuting .abortedStop
  | .reading value => takeReading value
  | .feed f => setFeed f
  | .reset => awaitReset
  | .reportSeen k => clearReportLost k
  | .eventsRead => clearSet
  | .counterRead => zeroCounter

/-- The kind of the commands that have the effect (R184), 0 for no effect. -/
def Effect.kind : Effect → Nat
  | .nothing => 0
  | .computer _ _ => 0x10
  | .channel _ _ => 0x11
  | .budget _ => 0x12
  | .windows _ _ => 0x13
  | .daylight _ => 0x14
  | .plan _ _ => 0x15
  | .mask _ _ => 0x16
  | .source _ => 0x17
  | .store => 0x18
  | .commission => 0x19
  | .request _ => 0x30
  | .cancel _ => 0x31
  | .pause _ => 0x32
  | .resume _ => 0x33
  | .force _ _ => 0x34
  | .unforce _ => 0x35
  | .clearFault _ => 0x36
  | .start _ => 0x37
  | .stop _ => 0x38
  | .reading _ => 0x39
  | .feed _ => 0x3A
  | .reset => 0x3B
  | .reportSeen _ => 0x50
  | .eventsRead => 0x56
  | .counterRead => 0x57

/-- An answer to a command of kind n. -/
def Runs (n : Nat) (a : Answer) : Prop := ∃ e : Effect, a.effect = e.run ∧ (e.kind = 0 ∨ e.kind = n)

theorem Runs.nothing {n : Nat} {a : Answer} (h : a.effect = id) : Runs n a := ⟨.nothing, h, .inl rfl⟩

theorem Runs.refuse (n : Nat) (code : ResultCode) : Runs n (refuse code) := .nothing rfl

theorem Runs.of (e : Effect) {a : Answer} (h : a.effect = e.run) : Runs e.kind a := ⟨e, h, .inr rfl⟩

theorem Runs.asOrder {n : Nat} {s : State} {a : Answer} (h : Runs n a) : Runs n (asOrder s a) := by
  unfold Machine.asOrder
  split
  case h_3 => exact h
  all_goals exact .refuse n _

theorem Runs.asConfiguration {n : Nat} {s : State} {a : Answer} (h : Runs n a) : Runs n (asConfiguration s a) := by
  unfold Machine.asConfiguration
  split
  case h_1 => exact .refuse n _
  all_goals exact h

theorem Runs.withSlot {n : Nat} {payload : List Byte} {a : Slot → Answer} (h : ∀ k, Runs n (a k)) :
    Runs n (withSlot payload a) := by
  unfold Machine.withSlot
  split
  · split
    · exact h _
    · exact .refuse n _
  · exact .refuse n _

theorem Runs.withChannel {n : Nat} {payload : List Byte} {a : Chan → Answer} (h : ∀ c, Runs n (a c)) :
    Runs n (withChannel payload a) := by
  unfold Machine.withChannel
  split
  · split
    · exact h _
    · exact .refuse n _
  · exact .refuse n _

theorem Runs.withoutPayload {n : Nat} {payload : List Byte} {a : Answer} (h : Runs n a) :
    Runs n (withoutPayload payload a) := by
  unfold Machine.withoutPayload
  split
  · exact h
  · exact .refuse n _

theorem setComputer_runs (payload : List Byte) (s : State) : Runs 0x10 (setComputerAnswer payload s) := by
  unfold setComputerAnswer answerSetComputer
  split
  case isFalse => exact .refuse _ _
  case isTrue =>
    split
    · exact .refuse _ _
    · refine .asConfiguration ?_
      split
      · exact .refuse _ _
      · split
        · exact .refuse _ _
        · exact .of (.computer _ _) rfl

theorem setChannel_runs (payload : List Byte) (s : State) : Runs 0x11 (setChannelAnswer payload s) := by
  unfold setChannelAnswer answerSetChannel
  split
  case isFalse => exact .refuse _ _
  case isTrue =>
    split
    · exact .refuse _ _
    · refine .asConfiguration ?_
      split
      · exact .refuse _ _
      · split
        · exact .refuse _ _
        · exact .of (.channel _ _) rfl

theorem setBudget_runs (payload : List Byte) (s : State) : Runs 0x12 (setBudgetAnswer payload s) := by
  unfold setBudgetAnswer
  split
  case h_2 => exact .refuse _ _
  case h_1 =>
    refine .asConfiguration ?_
    split
    · exact .of (.budget _) rfl
    · exact .refuse _ _

theorem setWindow_runs (payload : List Byte) (s : State) : Runs 0x13 (setWindowAnswer payload s) := by
  unfold setWindowAnswer
  split
  case h_2 => exact .refuse _ _
  case h_1 =>
    refine .asConfiguration ?_
    split
    · split
      · exact .refuse _ _
      · exact .of (.windows _ _) rfl
    · exact .refuse _ _

theorem setDaylight_runs (payload : List Byte) (s : State) : Runs 0x14 (setDaylightAnswer payload s) := by
  unfold setDaylightAnswer
  split
  case h_2 => exact .refuse _ _
  case h_1 =>
    split
    · refine .asConfiguration ?_
      split
      · exact .of (.daylight _) rfl
      · exact .refuse _ _
    · exact .refuse _ _

theorem answerSetPlan_runs (plan : Byte) (settings : Option PlanRecord) (steps : List Byte) (s : State) :
    Runs 0x15 (answerSetPlan plan settings steps s) := by
  unfold answerSetPlan
  split
  · exact .refuse _ _
  · refine .asConfiguration ?_
    split
    · exact .refuse _ _
    · split
      · exact .refuse _ _
      · split
        · exact .nothing rfl
        · exact .of (.plan _ _) rfl

theorem setPlan_runs (payload : List Byte) (s : State) : Runs 0x15 (setPlanAnswer payload s) := by
  unfold setPlanAnswer
  split
  · split
    · exact answerSetPlan_runs _ _ _ s
    · exact .refuse _ _
  · exact .refuse _ _

theorem setEventMask_runs (payload : List Byte) (s : State) : Runs 0x16 (setEventMaskAnswer payload s) := by
  unfold setEventMaskAnswer
  split
  · exact .asConfiguration (.of (.mask _ _) rfl)
  · exact .refuse _ _

theorem setCounterSource_runs (payload : List Byte) (s : State) :
    Runs 0x17 (setCounterSourceAnswer payload s) := by
  unfold setCounterSourceAnswer
  split
  · refine .asConfiguration ?_
    split
    · exact .of (.source _) rfl
    · exact .refuse _ _
  · exact .refuse _ _

theorem storeConfig_runs (payload : List Byte) (s : State) : Runs 0x18 (storeConfigAnswer payload s) := by
  refine .withoutPayload (.asConfiguration ?_)
  split
  · exact .refuse _ _
  · exact .of .store rfl

theorem commission_runs (payload : List Byte) (s : State) : Runs 0x19 (commissionAnswer payload s) := by
  refine .withoutPayload ?_
  split
  · exact .refuse _ _
  · exact .refuse _ _
  · split
    · exact .nothing rfl
    · split
      · exact .nothing rfl
      · exact .of .commission rfl

theorem restart_runs (payload : List Byte) (s : State) : Runs 0x30 (restartAnswer payload s) := by
  refine .withSlot fun k => .asOrder ?_
  unfold answerRestart
  split
  case h_1 | h_3 => exact .refuse _ _
  all_goals exact .of (.request k) rfl

theorem cancelRestart_runs (payload : List Byte) (s : State) : Runs 0x31 (cancelRestartAnswer payload s) := by
  refine .withSlot fun k => .asOrder ?_
  unfold answerCancel
  split
  · exact .of (.cancel k) rfl
  · split
    · exact .refuse _ _
    · exact .nothing rfl

theorem pause_runs (payload : List Byte) (s : State) : Runs 0x32 (pauseAnswer payload s) := by
  refine .withSlot fun k => .asOrder ?_
  split
  · exact .of (.pause k) rfl
  · exact .refuse _ _

theorem resume_runs (payload : List Byte) (s : State) : Runs 0x33 (resumeAnswer payload s) := by
  refine .withSlot fun k => .asOrder ?_
  split
  · exact .of (.resume k) rfl
  · exact .refuse _ _

theorem force_runs (payload : List Byte) (s : State) : Runs 0x34 (forceAnswer payload s) := by
  unfold forceAnswer
  split
  · split
    · exact .refuse _ _
    · refine .asOrder ?_
      split
      · exact .of (.force _ _) rfl
      · exact .refuse _ _
  · exact .refuse _ _

theorem unforce_runs (payload : List Byte) (s : State) : Runs 0x35 (unforceAnswer payload s) := by
  refine .withChannel fun c => .asOrder ?_
  split
  · exact .of (.unforce c) rfl
  · exact .nothing rfl

theorem clearFault_runs (payload : List Byte) (s : State) : Runs 0x36 (clearFaultAnswer payload s) := by
  refine .withChannel fun c => .asOrder ?_
  split
  · split
    · exact .of (.clearFault c) rfl
    · exact .nothing rfl
  · exact .refuse _ _

theorem planStart_runs (payload : List Byte) (s : State) : Runs 0x37 (planStartAnswer payload s) := by
  unfold planStartAnswer answerPlanStart
  split
  · split
    · exact .refuse _ _
    · refine .asOrder ?_
      split
      · exact .refuse _ _
      · split
        · exact .refuse _ _
        · split
          · exact .nothing rfl
          · exact .of (.start _) rfl
  · exact .refuse _ _

theorem planStop_runs (payload : List Byte) (s : State) : Runs 0x38 (planStopAnswer payload s) := by
  unfold planStopAnswer answerPlanStop
  split
  · split
    · exact .refuse _ _
    · refine .asOrder ?_
      split
      · exact .refuse _ _
      · split
        · exact .of (.stop true) rfl
        · exact .of (.stop false) rfl
  · exact .refuse _ _

theorem luminance_runs (payload : List Byte) (s : State) : Runs 0x39 (luminanceAnswer payload s) := by
  unfold luminanceAnswer
  split
  · exact .asOrder (.of (.reading _) rfl)
  · exact .refuse _ _

theorem feed_runs (payload : List Byte) (s : State) : Runs 0x3A (feedAnswer payload s) := by
  unfold feedAnswer
  split
  · split
    · exact .refuse _ _
    · exact .asOrder (.of (.feed _) rfl)
  · exact .refuse _ _

/-- Every command has one of the effects, its kind's or none. -/
theorem answerOf_runs (f : CommandFrame) (s : State) : Runs f.kind.toNat (answerOf f s) := by
  generalize h : answerOf f = answer
  unfold answerOf at h
  split at h <;> subst h
  case h_1 n => rw [n]; exact setComputer_runs _ s
  case h_2 n => rw [n]; exact setChannel_runs _ s
  case h_3 n => rw [n]; exact setBudget_runs _ s
  case h_4 n => rw [n]; exact setWindow_runs _ s
  case h_5 n => rw [n]; exact setDaylight_runs _ s
  case h_6 n => rw [n]; exact setPlan_runs _ s
  case h_7 n => rw [n]; exact setEventMask_runs _ s
  case h_8 n => rw [n]; exact setCounterSource_runs _ s
  case h_9 n => rw [n]; exact storeConfig_runs _ s
  case h_10 n => rw [n]; exact commission_runs _ s
  case h_11 n => rw [n]; exact restart_runs _ s
  case h_12 n => rw [n]; exact cancelRestart_runs _ s
  case h_13 n => rw [n]; exact pause_runs _ s
  case h_14 n => rw [n]; exact resume_runs _ s
  case h_15 n => rw [n]; exact force_runs _ s
  case h_16 n => rw [n]; exact unforce_runs _ s
  case h_17 n => rw [n]; exact clearFault_runs _ s
  case h_18 n => rw [n]; exact planStart_runs _ s
  case h_19 n => rw [n]; exact planStop_runs _ s
  case h_20 n => rw [n]; exact luminance_runs _ s
  case h_21 n => rw [n]; exact feed_runs _ s
  case h_22 n => rw [n]; exact .withoutPayload (.of .reset rfl)
  case h_23 n => rw [n]; exact .withSlot fun k => .of (.reportSeen k) rfl
  case h_24 => exact .withChannel fun _ => .nothing rfl
  case h_25 => exact .withoutPayload (.nothing rfl)
  case h_26 => exact .withoutPayload (.nothing rfl)
  case h_27 => exact .withoutPayload (.nothing rfl)
  case h_28 => exact .withoutPayload (.nothing rfl)
  case h_29 n => rw [n]; exact .withoutPayload (.of .eventsRead rfl)
  case h_30 n => rw [n]; exact .withoutPayload (.of .counterRead rfl)
  case h_31 => exact .withoutPayload (.nothing rfl)
  case h_32 => exact .refuse _ _

/-! ### What rows leave as it is (R161, R173 to R178) -/

/-- Which of the guarded pieces of state stay. -/
structure Scope where
  reset : Prop
  cfg : Prop
  store : Prop
  part : Prop
  flag : Prop
  replies : Prop

/-- Nothing of the model's queues and inputs changes, and of the guarded pieces what the scope names. -/
structure Stays (k : Scope) (s t : State) : Prop where
  pending : t.pending = s.pending
  arriving : t.arriving = s.arriving
  pins : t.pins = s.pins
  reset : k.reset → t.lastReset = s.lastReset ∧ t.held = s.held
  cfg : k.cfg → t.cfg = s.cfg
  store : k.store → t.store = s.store
  part : k.part → t.partState = s.partState ∧ t.inputs = s.inputs
  flag : k.flag → t.commissioned = s.commissioned
  replies : k.replies → repliesOf t.supervisory.outgoing = repliesOf s.supervisory.outgoing

theorem Stays.refl (k : Scope) (s : State) : Stays k s s :=
  ⟨rfl, rfl, rfl, fun _ => ⟨rfl, rfl⟩, fun _ => rfl, fun _ => rfl, fun _ => ⟨rfl, rfl⟩, fun _ => rfl,
    fun _ => rfl⟩

theorem Stays.trans {k : Scope} {s t u : State} (h : Stays k s t) (g : Stays k t u) : Stays k s u where
  pending := g.pending.trans h.pending
  arriving := g.arriving.trans h.arriving
  pins := g.pins.trans h.pins
  reset on := ⟨(g.reset on).1.trans (h.reset on).1, (g.reset on).2.trans (h.reset on).2⟩
  cfg on := (g.cfg on).trans (h.cfg on)
  store on := (g.store on).trans (h.store on)
  part on := ⟨(g.part on).1.trans (h.part on).1, (g.part on).2.trans (h.part on).2⟩
  flag on := (g.flag on).trans (h.flag on)
  replies on := (g.replies on).trans (h.replies on)

theorem Stays.thenIf {k : Scope} {s t : State} {g : State → State} {c : Prop} [Decidable c] (h : Stays k s t)
    (keeps : ∀ u, Stays k u (g u)) : Stays k s (if c then g t else t) := by
  split
  case isTrue => exact h.trans (keeps t)
  case isFalse => exact h

theorem stays_of_moves {s t : State} (h : ComputerMoves s t) (k : Scope) : Stays k s t :=
  ⟨h.pending, h.arriving, h.pins, fun _ => ⟨h.lastReset, h.held⟩, fun _ => h.cfg, fun _ => h.store,
    fun _ => ⟨h.partState, h.inputs⟩, fun _ => h.commissioned, fun _ => h.replies⟩

theorem stays_of_plant {s t : State} (h : PlantMoves s t) (k : Scope) : Stays k s t := stays_of_moves h.computer k

theorem setCfg_stays {k : Scope} (c : WorkingConfig) (s : State) (open_ : k.cfg → c = s.cfg) :
    Stays k s { s with cfg := c } :=
  ⟨rfl, rfl, rfl, fun _ => ⟨rfl, rfl⟩, open_, fun _ => rfl, fun _ => ⟨rfl, rfl⟩, fun _ => rfl, fun _ => rfl⟩

theorem updChannel_stays (k : Scope) (c : Chan) (f : ChannelRun → ChannelRun) (s : State) :
    Stays k s (updChannel c f s) :=
  ⟨rfl, rfl, rfl, fun _ => ⟨rfl, rfl⟩, fun _ => rfl, fun _ => rfl, fun _ => ⟨rfl, rfl⟩, fun _ => rfl,
    fun _ => rfl⟩

theorem updRecount_stays (k : Scope) (c : Chan) (f : ChannelRun → ChannelRun) (s : State) :
    Stays k s (updRecount c f s) := by
  obtain ⟨n, form⟩ := updRecount_eq c f s
  rw [form]
  exact updChannel_stays k c _ s

theorem setNext_stays (k : Scope) (n : Nat) (s : State) :
    Stays k s { s with field := { s.field with next := n } } :=
  ⟨rfl, rfl, rfl, fun _ => ⟨rfl, rfl⟩, fun _ => rfl, fun _ => rfl, fun _ => ⟨rfl, rfl⟩, fun _ => rfl,
    fun _ => rfl⟩

theorem enterRun_stays {k : Scope} (s : State) (open_ : ¬k.part) : Stays k s (enterRun s) := by
  have begun : Stays k s (runBegun s) :=
    ⟨rfl, rfl, rfl, fun _ => ⟨rfl, rfl⟩, fun _ => rfl, fun _ => rfl, fun on => absurd on open_, fun _ => rfl,
      fun _ => rfl⟩
  have slots : Kept (runBegun s) (slotsStarted (runBegun s)) :=
    foldl_kept _ (fun s k => startSlot_kept k s) allSlots (runBegun s)
  rw [enterRun_eq]
  exact (begun.trans (stays_of_moves slots.moves k)).trans (setNext_stays k 0 _)

theorem enterAdopt_stays {k : Scope} (s : State) (open_ : ¬k.part) : Stays k s (enterAdopt s) := by
  have begun : ∀ t, t = { s with partState := .adopt } → Stays k s t := fun t e =>
    e ▸ ⟨rfl, rfl, rfl, fun _ => ⟨rfl, rfl⟩, fun _ => rfl, fun _ => rfl, fun on => absurd on open_, fun _ => rfl,
      fun _ => rfl⟩
  unfold enterAdopt
  dsimp only
  split
  case isTrue =>
    refine (begun _ rfl).trans ?_
    exact ⟨rfl, rfl, rfl, fun _ => ⟨rfl, rfl⟩, fun _ => rfl, fun _ => rfl, fun _ => ⟨rfl, rfl⟩, fun _ => rfl,
      fun _ => rfl⟩
  case isFalse => exact (begun _ rfl).trans (enterRun_stays _ open_)

/-- The scope of the effects of one kind: all but what the kind is there to change. -/
def kindScope (n : Nat) : Scope where
  reset := True
  cfg := n < 0x10 ∨ 0x17 < n
  store := n ≠ 0x18
  part := n ≠ 0x19
  flag := n ≠ 0x19
  replies := True

/-- The kinds of the settings (R161). -/
theorem kindScope_settings (n : Nat) (low : 0x10 ≤ n) (high : n ≤ 0x17) : ¬(kindScope n).cfg := by
  simp only [kindScope]
  omega

theorem forceChannel_stays (k : Scope) (c : Chan) (value : Nat) (s : State) :
    Stays k s (forceChannel c value s) := by
  unfold forceChannel
  dsimp only
  refine Stays.trans (t := if s.channels[c].adopted = true then s else adoptAt c 0 s) ?_
    ((updChannel_stays k c _ _).trans (stays_of_plant (derive_plant c _) k))
  split
  case isTrue => exact Stays.refl k s
  case isFalse => exact updRecount_stays k c _ s

theorem enabledChanges_moves (k : Slot) (new : Bool) (s : State) : ComputerMoves s (enabledChanges k new s) :=
  (enabledChanges_lists k new s).moves

theorem applyComputer_stays {n : Scope} (k : Slot) (new : ComputerConfig) (s : State) (open_ : ¬n.cfg) :
    Stays n s (applyComputer k new s) :=
  ((setCfg_stays _ s fun on => absurd on open_).trans (Stays.refl n (setComputerConfig k new s))
    |>.trans (by
      split
      · exact Stays.refl n _
      · exact stays_of_moves (enabledChanges_moves k _ _) n)).thenIf fun t => stays_of_moves (serveBore_moves _ t) n

theorem applyChannel_stays {n : Scope} (c : Chan) (new : ChannelConfig) (s : State) (open_ : ¬n.cfg) :
    Stays n s (applyChannel c new s) := by
  have set : Stays n s (setChannelConfig c new s) := setCfg_stays _ s fun on => absurd on open_
  have unused : ∀ t, Stays n t (makeUnused c t) := fun t => by
    refine (stays_of_plant (withdraw_plant c t) n).trans ?_
    exact ⟨rfl, rfl, rfl, fun _ => ⟨rfl, rfl⟩, fun _ => rfl, fun _ => rfl, fun _ => ⟨rfl, rfl⟩, fun _ => rfl,
      fun _ => rfl⟩
  unfold applyChannel
  split
  case isFalse => exact set
  case isTrue =>
    unfold applyChannelRun
    dsimp only
    split
    case isFalse => exact set.thenIf unused
    case isTrue =>
      refine ((set.thenIf fun t => ?_).thenIf fun t => stays_of_plant (withdraw_plant c t) n).thenIf
        fun t => stays_of_plant (deriveFrom_plant _ c t) n
      exact (updChannel_stays n c _ t).trans (stays_of_plant (deriveFrom_plant _ c _) n)

theorem applyBudget_stays {n : Scope} (b : BudgetConfig) (s : State) (open_ : ¬n.cfg) :
    Stays n s (applyBudget b s) := by
  have set := setCfg_stays (k := n) { s.cfg with budget := b } s fun on => absurd on open_
  unfold applyBudget
  dsimp only
  split
  · exact set.trans (stays_of_plant (clampCredit_plant _) n)
  · refine set.trans ⟨rfl, rfl, rfl, fun _ => ⟨rfl, rfl⟩, fun _ => rfl, fun _ => rfl, fun _ => ⟨rfl, rfl⟩,
      fun _ => rfl, fun _ => rfl⟩

theorem applyWindow_stays {n : Scope} (l1 l2 : Nat) (s : State) (open_ : ¬n.cfg) :
    Stays n s (applyWindow l1 l2 s) :=
  ((setCfg_stays (k := n) { s.cfg with limit1 := l1, limit2 := l2 } s fun on => absurd on open_).thenIf
    fun t => stays_of_moves (serveBore_moves .one t) n).thenIf fun t => stays_of_moves (serveBore_moves .two t) n

theorem setDaylightState_stays (k : Scope) (d : Daylight) (s : State) : Stays k s { s with daylight := d } :=
  ⟨rfl, rfl, rfl, fun _ => ⟨rfl, rfl⟩, fun _ => rfl, fun _ => rfl, fun _ => ⟨rfl, rfl⟩, fun _ => rfl,
    fun _ => rfl⟩

theorem applyDaylight_stays {n : Scope} (d : DaylightConfig) (s : State) (open_ : ¬n.cfg) :
    Stays n s (applyDaylight d s) := by
  have set := setCfg_stays (k := n) { s.cfg with daylight := d } s fun on => absurd on open_
  unfold applyDaylight
  dsimp only
  split
  · exact (set.trans (setDaylightState_stays n _ _)).trans (stays_of_plant (deriveDaylight_plant _) n)
  · exact set

theorem takeReading_stays (k : Scope) (value : Nat) (s : State) : Stays k s (takeReading value s) := by
  unfold takeReading
  dsimp only
  split
  · exact setDaylightState_stays k _ s
  · exact (setDaylightState_stays k _ s).trans (stays_of_plant (deriveDaylight_plant _) k)

theorem setFeed_stays (k : Scope) (f : FeedState) (s : State) : Stays k s (setFeed f s) := by
  unfold setFeed
  split
  · exact Stays.refl k s
  · exact ⟨rfl, rfl, rfl, fun _ => ⟨rfl, rfl⟩, fun _ => rfl, fun _ => rfl, fun _ => ⟨rfl, rfl⟩, fun _ => rfl,
      fun _ => rfl⟩

/-- An effect touches of the guarded pieces what its kind is there to change, and no reply. -/
theorem Effect.stays (e : Effect) (s : State) : Stays (kindScope e.kind) s (e.run s) := by
  cases e with
  | nothing => exact Stays.refl _ s
  | computer k new => exact applyComputer_stays k new s (kindScope_settings 0x10 (by decide) (by decide))
  | channel c new => exact applyChannel_stays c new s (kindScope_settings 0x11 (by decide) (by decide))
  | budget b => exact applyBudget_stays b s (kindScope_settings 0x12 (by decide) (by decide))
  | windows l1 l2 => exact applyWindow_stays l1 l2 s (kindScope_settings 0x13 (by decide) (by decide))
  | daylight d => exact applyDaylight_stays d s (kindScope_settings 0x14 (by decide) (by decide))
  | plan p r =>
    exact setCfg_stays _ s fun on => absurd on (kindScope_settings 0x15 (by decide) (by decide))
  | mask hi lo =>
    exact setCfg_stays _ s fun on => absurd on (kindScope_settings 0x16 (by decide) (by decide))
  | source x =>
    exact ⟨rfl, rfl, rfl, fun _ => ⟨rfl, rfl⟩, fun on => absurd on (kindScope_settings 0x17 (by decide)
      (by decide)), fun _ => rfl, fun _ => ⟨rfl, rfl⟩, fun _ => rfl, fun _ => rfl⟩
  | store =>
    exact ⟨rfl, rfl, rfl, fun _ => ⟨rfl, rfl⟩, fun _ => rfl, fun on => absurd rfl on, fun _ => ⟨rfl, rfl⟩,
      fun _ => rfl, fun _ => rfl⟩
  | commission =>
    refine Stays.trans (t := { s with commissioned := true }) ?_ (enterAdopt_stays _ fun on => on rfl)
    exact ⟨rfl, rfl, rfl, fun _ => ⟨rfl, rfl⟩, fun _ => rfl, fun _ => rfl, fun _ => ⟨rfl, rfl⟩,
      fun on => absurd rfl on, fun _ => rfl⟩
  | request k => exact stays_of_moves (takeRequest_moves _ k s) _
  | cancel k => exact stays_of_moves (dropEntry_moves k s) _
  | pause k => exact stays_of_moves (pauseSlot_moves k s) _
  | resume k => exact stays_of_moves (resumeSlot_moves k s) _
  | force c value => exact forceChannel_stays _ c value s
  | unforce c => exact (updRecount_stays _ c _ s).trans (stays_of_plant (derive_plant c _) _)
  | clearFault c => exact updRecount_stays _ c (fun ch => { ch with driveFault := false }) s
  | start p => exact stays_of_moves (startPlan_moves p s) _
  | stop atPassEnd =>
    cases atPassEnd
    · exact stays_of_moves (endExecuting_moves _ s) _
    · exact stays_of_moves (stopAtPassEnd_moves s) _
  | reading value => exact takeReading_stays _ value s
  | feed f => exact setFeed_stays _ f s
  | reset =>
    exact ⟨rfl, rfl, rfl, fun _ => ⟨rfl, rfl⟩, fun _ => rfl, fun _ => rfl, fun _ => ⟨rfl, rfl⟩, fun _ => rfl,
      fun _ => rfl⟩
  | reportSeen k => exact stays_of_moves (updPort_moves k (fun p => { p with reportLost := false }) s) _
  | eventsRead =>
    exact ⟨rfl, rfl, rfl, fun _ => ⟨rfl, rfl⟩, fun _ => rfl, fun _ => rfl, fun _ => ⟨rfl, rfl⟩, fun _ => rfl,
      fun _ => rfl⟩
  | counterRead =>
    exact ⟨rfl, rfl, rfl, fun _ => ⟨rfl, rfl⟩, fun _ => rfl, fun _ => rfl, fun _ => ⟨rfl, rfl⟩, fun _ => rfl,
      fun _ => rfl⟩

/-! ### One reply (R159) -/

theorem repliesOf_reply (l : List OutFrame) (kind tag : Byte) (code : ResultCode) (detail : Detail)
    (data : List Byte) : repliesOf (l ++ [.reply kind tag code detail data]) =
      repliesOf l ++ [.reply kind tag code detail data] := repliesOf_append l _

/-- Settles O4: the port places the reply before the effect, and no effect adds or removes a reply. -/
theorem takenCommandHasOneReply : Obligations.TakenCommandHasOneReply := by
  intro kind tag payload s taken
  obtain ⟨e, effect, -⟩ := answerOf_runs { kind, tag, payload } (leaveQueue s)
  have next := (exec_commandOf kind tag payload s).trans (takeCommand_taken kind tag payload _ s taken)
  have reply := fun r => (e.stays (replied kind tag
    (answerOf { kind, tag, payload } (leaveQueue s)).code r
    (answerOf { kind, tag, payload } (leaveQueue s)).data s)).replies trivial
  rw [effect] at next
  exact ⟨_, _, _, _, next, (reply _).trans (repliesOf_reply _ _ _ _ _ _)⟩

end Sys2Proof.Proofs
end


section
/-! SUPPORT. Which rows change which pieces of state: every row, by its scope (R161, R173 to R178), and the rows
of the plant and of the computers by the blocks that they leave (spec/00, section 3). -/

namespace Sys2Proof.Proofs

open Sys2Proof.Machine Sys2Proof.Safety Sys2Proof.Laws

/-! ### Commands -/

/-- The scope of a row: what it leaves as it is where `quiet` says that no reset and no waiting command comes
with it. -/
def rowScope (quiet : Prop) (i : Instr) : Scope where
  reset := quiet
  cfg := quiet ∧ configures (rowMeant i) = false
  store := quiet ∧ actsOnStore (rowMeant i) = false
  part := quiet ∧ movesPart (rowMeant i) = false
  flag := quiet ∧ ∀ tag payload, rowMeant i ≠ .commission tag payload
  replies := False

theorem Stays.weaken {k m : Scope} {s t : State} (h : Stays k s t) (reset : m.reset → k.reset)
    (cfg : m.cfg → k.cfg) (store : m.store → k.store) (part : m.part → k.part) (flag : m.flag → k.flag)
    (replies : m.replies → k.replies) : Stays m s t :=
  ⟨h.pending, h.arriving, h.pins, h.reset ∘ reset, h.cfg ∘ cfg, h.store ∘ store, h.part ∘ part, h.flag ∘ flag,
    h.replies ∘ replies⟩

/-- A scope that leaves everything as it is, but for the replies. -/
def allScope : Scope := ⟨True, True, True, True, True, False⟩

theorem Stays.row {quiet : Prop} {i : Instr} {s t : State} (h : Stays allScope s t) :
    Stays (rowScope quiet i) s t :=
  h.weaken (fun _ => trivial) (fun _ => trivial) (fun _ => trivial) (fun _ => trivial) (fun _ => trivial) id

/-- A command's kind decides which row it is, and so what the row may change. -/
theorem kindScope_of_row (kind tag : Byte) (payload : List Byte) :
    (configures (commandOf kind tag payload) = false → (kindScope kind.toNat).cfg) ∧
    (actsOnStore (commandOf kind tag payload) = false → (kindScope kind.toNat).store) ∧
    (movesPart (commandOf kind tag payload) = false → (kindScope kind.toNat).part) ∧
    ((∀ t p, commandOf kind tag payload ≠ .commission t p) → (kindScope kind.toNat).flag) := by
  unfold kindScope
  refine ⟨fun h => ?_, fun h e => ?_, fun h e => ?_, fun h e => h tag payload ?_⟩
  · by_contra inside
    simp only [not_or, Nat.not_lt] at inside
    obtain ⟨low, high⟩ := inside
    generalize n : kind.toNat = k at low high
    unfold commandOf at h
    rw [n] at h
    interval_cases k <;> exact nomatch h
  · simp [commandOf, e, actsOnStore] at h
  · simp [commandOf, e, movesPart] at h
  · simp [commandOf, e]

/-- An effect of no kind leaves everything. -/
theorem kindScope_zero : (kindScope 0).cfg ∧ (kindScope 0).store ∧ (kindScope 0).part ∧ (kindScope 0).flag := by
  simp [kindScope]

theorem Runs.stays {kind tag : Byte} {payload : List Byte} {a : Answer} (h : Runs kind.toNat a) (quiet : Prop)
    {i : Instr} (row : rowMeant i = commandOf kind tag payload) (s : State) :
    Stays (rowScope quiet i) s (a.effect s) := by
  obtain ⟨e, effect, own⟩ := h
  obtain ⟨cfg, store, part, flag⟩ := kindScope_of_row kind tag payload
  obtain ⟨cfg0, store0, part0, flag0⟩ := kindScope_zero
  rw [effect]
  have stays := e.stays s
  simp only [rowScope, row]
  rcases own with none | own
  · rw [none] at stays
    exact stays.weaken (fun _ => trivial) (fun _ => cfg0) (fun _ => store0) (fun _ => part0) (fun _ => flag0)
      nofun
  · rw [own] at stays
    exact stays.weaken (fun _ => trivial) (fun on => cfg on.2) (fun on => store on.2) (fun on => part on.2)
      (fun on => flag on.2) nofun

theorem setSupervisory_stays (x : Supervisory) (s : State) : Stays allScope s { s with supervisory := x } :=
  ⟨rfl, rfl, rfl, fun _ => ⟨rfl, rfl⟩, fun _ => rfl, fun _ => rfl, fun _ => ⟨rfl, rfl⟩, fun _ => rfl, nofun⟩

theorem count_stays (k : Scope) (source : CounterSource) (s : State) : Stays k s (count source s) :=
  stays_of_plant (count_plant source s) k

theorem answerCommand_stays (quiet : Prop) {i : Instr} (f : CommandFrame)
    (row : rowMeant i = commandOf f.kind f.tag f.payload) (s : State) :
    Stays (rowScope quiet i) s (answerCommand f (answerOf f) s) :=
  (setSupervisory_stays _ s).row.trans ((answerOf_runs f (leaveQueue s)).stays quiet row _)

theorem receiveFrame_stays (f : CommandFrame) (s : State) : Stays allScope s (receiveFrame f s) := by
  unfold receiveFrame
  split
  case isTrue => exact setSupervisory_stays _ s
  case isFalse => exact (setSupervisory_stays _ s).trans (count_stays _ _ _)

theorem whenLive_stays {k : Scope} {f : State → State} {s t : State} (h : Stays k s (f s))
    (next : whenLive f s = .next t) : Stays k s t := by
  unfold whenLive at next
  obtain rfl := Host.Outcome.next.inj next
  split
  case isTrue => exact Stays.refl k s
  case isFalse => exact h

theorem whenLive_stays_all {k : Scope} {f : State → State} {s t : State} (h : ∀ u, Stays k u (f u))
    (next : whenLive f s = .next t) : Stays k s t := whenLive_stays (h s) next

/-- The row of a command, and the one that stands for a kind of no command. -/
theorem takeCommand_stays (quiet : Prop) {i : Instr} {f : CommandFrame} {s t : State}
    (row : rowMeant i = commandOf f.kind f.tag f.payload) (next : takeCommand f (answerOf f) s = .next t) :
    Stays (rowScope quiet i) s t := by
  refine whenLive_stays ?_ next
  split
  case isTrue => exact answerCommand_stays quiet f row s
  case isFalse => exact (receiveFrame_stays f s).row

theorem arrive_stays (quiet : Prop) {i : Instr} (f : CommandFrame)
    (row : rowMeant i = commandOf f.kind f.tag f.payload) (s : State) :
    Stays (rowScope quiet i) s (arrive f s) := by
  unfold arrive
  split
  case isTrue => exact answerCommand_stays quiet f row s
  case isFalse => exact (receiveFrame_stays f s).row

/-! ### Resets (R175, R176) -/

/-- The scope of a reset: nothing but the queues and the pins. -/
def resetScope : Scope := ⟨False, False, False, False, False, False⟩

theorem blocksReset_stays (cfg : WorkingConfig) (commissioned : Bool) (s : State) :
    Stays resetScope s (blocksReset cfg commissioned s) :=
  ⟨rfl, rfl, rfl, nofun, nofun, nofun, nofun, nofun, nofun⟩

theorem holdInReset_stays (kind : ResetKind) (s : State) : Stays resetScope s (holdInReset kind s) :=
  ⟨rfl, rfl, rfl, nofun, nofun, nofun, nofun, nofun, nofun⟩

theorem startUp_stays (kind : ResetKind) (s : State) : Stays resetScope s (startUp kind s) := by
  have blocks : Stays resetScope s { blocksReset (resetImage kind s).config (resetImage kind s).commissioned s with
      lastReset := kind, held := false } := ⟨rfl, rfl, rfl, nofun, nofun, nofun, nofun, nofun, nofun⟩
  exact blocks.thenIf fun t => enterAdopt_stays t id

theorem Stays.rowLoud {quiet : Prop} {i : Instr} {s t : State} (h : Stays resetScope s t) (loud : ¬quiet) :
    Stays (rowScope quiet i) s t :=
  h.weaken loud (fun on => loud on.1) (fun on => loud on.1) (fun on => loud on.1) (fun on => loud on.1) id

/-! ### The sending of a frame (R158, R160) -/

theorem beginSending_stays (s : State) : Stays allScope s (beginSending s) := by
  obtain ⟨line, resetWait, form⟩ := beginSending_eq s
  rw [form]
  exact setSupervisory_stays _ s

/-- A command that waits may have any effect, but the queues and pins stay. -/
theorem takeHead_stays (s : State) : Stays resetScope s (takeHead s) := by
  unfold takeHead
  split
  case h_1 => exact Stays.refl _ s
  case h_2 f _ _ =>
    split
    case isFalse => exact Stays.refl _ s
    case isTrue =>
      exact (answerCommand_stays False (i := .supervisoryFrameReceived f.kind f.tag f.payload) f rfl s).weaken
        nofun nofun nofun nofun nofun id

/-- With no command waiting and no reply to RESET-PART on the line the sending of a frame is that and no more. -/
abbrev SendsOnly (s : State) : Prop := s.supervisory.queue = [] ∧ s.supervisory.resetWait ≠ .replySending

theorem frameSent_stays (s : State) : Stays (rowScope (SendsOnly s) .supervisoryFrameSent) s
    (if replyBeingSent s then startUp .command s else takeHead (beginSending s)) := by
  have begun := beginSending_stays s
  by_cases quiet : SendsOnly s
  case pos =>
    obtain ⟨line, resetWait, form⟩ := beginSending_eq s
    have none : (beginSending s).supervisory.queue = [] := by rw [form]; exact quiet.1
    rw [if_neg (by rw [replyBeingSent_eq]; exact quiet.2), takeHead_empty _ none]
    exact begun.row
  case neg =>
    refine Stays.rowLoud ?_ quiet
    split
    case isTrue => exact startUp_stays .command s
    case isFalse =>
      exact (begun.weaken (m := resetScope) nofun nofun nofun nofun nofun nofun).trans (takeHead_stays _)

/-! ### Events -/

theorem setNow_stays (k : Scope) (n : Nat) (s : State) : Stays k s { s with now := n } :=
  ⟨rfl, rfl, rfl, fun _ => ⟨rfl, rfl⟩, fun _ => rfl, fun _ => rfl, fun _ => ⟨rfl, rfl⟩, fun _ => rfl,
    fun _ => rfl⟩

theorem expire_stays {k : Scope} (timer : Option Nat) (f : State → State) (s : State)
    (h : ∀ t, Stays k t (f t)) : Stays k s (expire timer f s) := by
  cases timer with
  | none => exact Stays.refl k s
  | some d => exact (setNow_stays k _ s).trans (h _)

theorem setField_stays (k : Scope) (x : FieldMaster) (s : State) : Stays k s { s with field := x } :=
  ⟨rfl, rfl, rfl, fun _ => ⟨rfl, rfl⟩, fun _ => rfl, fun _ => rfl, fun _ => ⟨rfl, rfl⟩, fun _ => rfl,
    fun _ => rfl⟩

theorem inRun_stays {k : Scope} {f : State → State} (h : ∀ s, Kept s (f s)) (s : State) :
    Stays k s (inRun f s) := (Stays.refl k s).thenIf fun t => stays_of_moves (h t).moves k

theorem onField_stays {k : Scope} {f : State → State} (h : ∀ s, Stays k s (f s)) (s : State) :
    Stays k s (onField f s) := by
  unfold onField
  split
  case h_1 => exact Stays.refl k s
  all_goals exact h s

theorem setDriveFault_stays (k : Scope) (c : Chan) (s : State) : Stays k s (setDriveFault c s) := by
  unfold setDriveFault
  split
  · exact Stays.refl k s
  · exact ((updChannel_stays k c _ s).trans (stays_of_plant (withdraw_plant c _) k)).trans
      (stays_of_moves (latch_moves _ _ _) k)

theorem judgeRecord_stays (k : Scope) (c : Chan) (run : ModuleRun) (s : State) :
    Stays k s (judgeRecord c run s) := by
  unfold judgeRecord
  split
  · exact (updChannel_stays k c _ s).trans (updRecount_stays k c _ _)
  · split
    · exact setDriveFault_stays k c s
    · exact Stays.refl k s
  · exact setDriveFault_stays k c s

theorem takeState_stays (k : Scope) (c : Chan) (value : Nat) (run : ModuleRun) (s : State) :
    Stays k s (takeState c value run s) := by
  have reported := updChannel_stays k c (fun ch => { ch with runState := reportedRun run }) s
  unfold takeState
  dsimp only
  refine Stays.trans ?_ (judgeRecord_stays k c run _)
  split
  · exact reported
  · exact (reported.trans (updRecount_stays k c _ _)).trans (stays_of_plant (derive_plant c _) k)

theorem closeWindow_stays (k : Scope) (address : Nat) (s : State) : Stays k s (closeWindow address s) := by
  unfold closeWindow
  split
  · split
    · exact setField_stays k _ s
    · exact Stays.refl k s
  · exact Stays.refl k s

theorem stateRecord_stays {k : Scope} (open_ : ¬k.part) (address value : Nat) (run : ModuleRun) (s : State) :
    Stays k s (match chanOf address with
      | none => closeWindow address s
      | some c => if isUsed (closeWindow address s) c then
          endAdoption (!(closeWindow address s).channels[c].adopted)
            (takeState c value run (closeWindow address s))
        else closeWindow address s) := by
  have closed := closeWindow_stays k address s
  split
  case h_1 => exact closed
  case h_2 c _ =>
    split
    · have taken := closed.trans (takeState_stays k c value run (closeWindow address s))
      exact taken.thenIf fun t => enterRun_stays t open_
    · exact closed

theorem pollNext_stays (k : Scope) (visit : Chan → Bool) (s : State) : Stays k s (pollNext visit s) := by
  unfold pollNext
  split
  · exact setField_stays k _ s
  · exact Stays.refl k s

theorem sendRecord_stays (k : Scope) (s : State) : Stays k s (sendRecord s) := by
  unfold sendRecord
  split
  · exact Stays.refl k s
  · exact pollNext_stays k _ s
  · split
    · exact setField_stays k _ s
    · exact pollNext_stays k _ s

theorem adoptionExpired_stays {k : Scope} (open_ : ¬k.part) (s : State) : Stays k s (adoptionExpired s) := by
  unfold adoptionExpired
  split
  · exact (stays_of_moves (latch_moves _ _ s) k).trans (enterRun_stays _ open_)
  · exact enterRun_stays s open_

theorem adoptionTimer_stays {k : Scope} (open_ : ¬k.part) (s : State) :
    Stays k s (if { s with adoptionTimer := none }.partState = .adopt then
      adoptionExpired { s with adoptionTimer := none } else { s with adoptionTimer := none }) := by
  have cleared : Stays k s { s with adoptionTimer := none } :=
    ⟨rfl, rfl, rfl, fun _ => ⟨rfl, rfl⟩, fun _ => rfl, fun _ => rfl, fun _ => ⟨rfl, rfl⟩, fun _ => rfl,
      fun _ => rfl⟩
  exact cleared.thenIf (adoptionExpired_stays open_)

theorem setStore_stays {k : Scope} (open_ : ¬k.store) (x : Store) (s : State) : Stays k s { s with store := x } :=
  ⟨rfl, rfl, rfl, fun _ => ⟨rfl, rfl⟩, fun _ => rfl, fun on => absurd on open_, fun _ => ⟨rfl, rfl⟩,
    fun _ => rfl, fun _ => rfl⟩

theorem writeCompletion_stays {k : Scope} (open_ : ¬k.store) (ok : Bool) (s : State) :
    Stays k s (match s.store.writing with
      | none => s
      | some image => writeEnds ok image s) := by
  split
  · exact Stays.refl k s
  · unfold writeEnds
    split
    · exact (setStore_stays open_ _ s).trans (stays_of_moves (latch_moves _ _ _) k)
    · exact (setStore_stays open_ _ s).trans (stays_of_moves (latch_moves _ _ _) k)

theorem stepTimer_stays (k : Scope) (s : State) :
    Stays k s (requestAll (fallAll { s with stepTimer := some (s.now + Config.stepPeriod) })) := by
  refine Stays.trans (t := { s with stepTimer := some (s.now + Config.stepPeriod) }) ?_
    (stays_of_plant ((fallAll_plant _).trans (requestAll_plant _)) k)
  exact ⟨rfl, rfl, rfl, fun _ => ⟨rfl, rfl⟩, fun _ => rfl, fun _ => rfl, fun _ => ⟨rfl, rfl⟩, fun _ => rfl,
    fun _ => rfl⟩

theorem setAdmission_stays (k : Scope) (x : Admission) (s : State) : Stays k s { s with admission := x } :=
  ⟨rfl, rfl, rfl, fun _ => ⟨rfl, rfl⟩, fun _ => rfl, fun _ => rfl, fun _ => ⟨rfl, rfl⟩, fun _ => rfl,
    fun _ => rfl⟩

theorem refill_stays (k : Scope) (s : State) :
    Stays k s (noteCredit (serve (refillCredit (restartRefill s)))) :=
  ((setAdmission_stays k _ s).trans (stays_of_plant (serve_plant _) k)).trans
    (stays_of_moves (noteCredit_moves _) k)

theorem starve_stays (k : Scope) (c : Chan) (e : AdmissionEntry) (s : State) : Stays k s (starve c e s) := by
  have marked := setAdmission_stays k (updEntry c (fun e => { e with starvation := none, reported := true }) s).admission s
  unfold starve
  dsimp only
  split
  · exact marked
  · exact marked.trans (stays_of_moves (latch_moves _ _ _) k)

theorem age_stays (k : Scope) (s : State) : Stays k s (latch .daylightStale none
    { s with daylight := { s.daylight with ageTimer := none, stale := true } }) :=
  (setDaylightState_stays k _ s).trans (stays_of_moves (latch_moves _ _ _) k)

theorem discardFrame_stays (cause : DiscardCause) (s : State) : Stays allScope s (discardFrame cause s) := by
  refine Stays.trans ?_ (count_stays _ _ _)
  cases cause <;> exact setSupervisory_stays _ s

theorem gap_stays (s : State) : Stays allScope s (count .framesDiscarded
    { s with supervisory := { s.supervisory with gapErrors := bump16 s.supervisory.gapErrors } }) :=
  (setSupervisory_stays _ s).trans (count_stays _ _ _)

theorem frameReceived_stays (quiet : Prop) (kind tag : Byte) (payload : List Byte) (s : State) :
    Stays (rowScope quiet (.supervisoryFrameReceived kind tag payload)) s
      (if Config.maxPayload < payload.length then discardFrame .format s
        else arrive { kind, tag, payload } s) := by
  split
  case isTrue => exact (discardFrame_stays _ s).row
  case isFalse => exact arrive_stays _ { kind, tag, payload } rfl s

theorem answerWindow_stays (k : Scope) (s : State) : Stays k s (match s.field.window with
    | none => s
    | some w => expire (some w.deadline) (fun s => updChannel w.channel (fun ch => { ch with runState := .unknown })
        { s with field := { s.field with window := none } }) s) := by
  split
  case h_1 => exact Stays.refl k s
  case h_2 => exact expire_stays _ _ s fun u => (setField_stays k _ u).trans (updChannel_stays k _ _ _)

theorem periodEnds_stays (k : Scope) (s : State) :
    Stays k s (sendRecord { s with field := { s.field with period := none } }) :=
  (setField_stays k _ s).trans (sendRecord_stays k _)

theorem startConfirm_stays (k : Scope) (c : Chan) (s : State) :
    Stays k s (setDriveFault c (updChannel c (fun ch => { ch with startConfirm := none }) s)) :=
  (updChannel_stays k c _ s).trans (setDriveFault_stays k c _)

theorem lineFree_stays (k : Scope) (s : State) :
    Stays k s (if s.field.window.isSome ∨ s.field.period.isSome then s else sendRecord s) := by
  split
  case isTrue => exact Stays.refl k s
  case isFalse => exact sendRecord_stays k s

theorem starvation_stays (k : Scope) (c : Chan) (s : State) : Stays k s (match entryOf s c with
    | none => s
    | some e => expire e.starvation (starve c e) s) := by
  split
  case h_1 => exact Stays.refl k s
  case h_2 e _ => exact expire_stays _ _ s (starve_stays k c e)

theorem attempt_stays (n : Scope) (k : Slot) (state : ComputerState) (f : Context → Context) (s : State) :
    Stays n s (if (updContext k f s).contexts[k].state = state then failAttempt k (updContext k f s)
      else updContext k f s) :=
  (stays_of_moves (updContext_moves k f s) n).thenIf fun t => stays_of_moves (failAttempt_moves k t) n

theorem settleEnds_stays (n : Scope) (k : Slot) (s : State) : Stays n s (if s.contexts[k].state = .settle then
    enterHello k s else updContext k (fun x => { x with settleTimer := none }) s) := by
  split
  case isTrue => exact stays_of_moves (enterHello_moves k s) n
  case isFalse => exact stays_of_moves (updContext_moves k _ s) n

theorem reportTimer_stays (n : Scope) (k : Slot) (s : State) :
    Stays n s (rearmReport k (reportMissed k (reportEnded k s))) :=
  stays_of_moves (((updPort_moves k _ s).trans (reportMissed_moves k _)).trans (rearmReport_moves k _)) n

theorem lineCount_kept (k : Slot) (f : Port → Port) (s : State) (timer : ∀ p, (f p).reportTimer = p.reportTimer)
    (orders : ∀ p, (f p).sendList = p.sendList) : Kept s (count .framesDiscarded (updPort k f s)) :=
  (updPort_kept k f s (timer _) (by rw [orders]; exact id)).trans (count_kept _ _)

theorem rowScope_part {quiet : Prop} {i : Instr} (moves : movesPart (rowMeant i) = true) :
    ¬(rowScope quiet i).part := fun on => nomatch moves.symm.trans on.2

theorem rowScope_store {quiet : Prop} {i : Instr} (acts : actsOnStore (rowMeant i) = true) :
    ¬(rowScope quiet i).store := fun on => nomatch acts.symm.trans on.2

/-- What every row leaves as it is. -/
theorem exec_stays {i : Instr} {s t : State} (next : exec i s = .next t) :
    Stays (rowScope (mayReset i = false ∨ (i = .supervisoryFrameSent ∧ SendsOnly s)) i) s t := by
  have loud : ∀ {i : Instr}, mayReset i = true → i ≠ .supervisoryFrameSent →
      ¬(mayReset i = false ∨ (i = .supervisoryFrameSent ∧ SendsOnly s)) := fun may other h =>
    h.elim (fun off => nomatch may.symm.trans off) fun sent => other sent.1
  cases i with
  | setComputer tag payload => exact takeCommand_stays _ (f := { kind := 0x10, tag, payload }) rfl next
  | setChannel tag payload => exact takeCommand_stays _ (f := { kind := 0x11, tag, payload }) rfl next
  | setBudget tag payload => exact takeCommand_stays _ (f := { kind := 0x12, tag, payload }) rfl next
  | setWindow tag payload => exact takeCommand_stays _ (f := { kind := 0x13, tag, payload }) rfl next
  | setDaylight tag payload => exact takeCommand_stays _ (f := { kind := 0x14, tag, payload }) rfl next
  | setPlan tag payload => exact takeCommand_stays _ (f := { kind := 0x15, tag, payload }) rfl next
  | setEventMask tag payload => exact takeCommand_stays _ (f := { kind := 0x16, tag, payload }) rfl next
  | setCounterSource tag payload => exact takeCommand_stays _ (f := { kind := 0x17, tag, payload }) rfl next
  | storeConfig tag payload => exact takeCommand_stays _ (f := { kind := 0x18, tag, payload }) rfl next
  | commission tag payload => exact takeCommand_stays _ (f := { kind := 0x19, tag, payload }) rfl next
  | restart tag payload => exact takeCommand_stays _ (f := { kind := 0x30, tag, payload }) rfl next
  | cancelRestart tag payload => exact takeCommand_stays _ (f := { kind := 0x31, tag, payload }) rfl next
  | pause tag payload => exact takeCommand_stays _ (f := { kind := 0x32, tag, payload }) rfl next
  | resume tag payload => exact takeCommand_stays _ (f := { kind := 0x33, tag, payload }) rfl next
  | force tag payload => exact takeCommand_stays _ (f := { kind := 0x34, tag, payload }) rfl next
  | unforce tag payload => exact takeCommand_stays _ (f := { kind := 0x35, tag, payload }) rfl next
  | clearFault tag payload => exact takeCommand_stays _ (f := { kind := 0x36, tag, payload }) rfl next
  | planStart tag payload => exact takeCommand_stays _ (f := { kind := 0x37, tag, payload }) rfl next
  | planStop tag payload => exact takeCommand_stays _ (f := { kind := 0x38, tag, payload }) rfl next
  | luminance tag payload => exact takeCommand_stays _ (f := { kind := 0x39, tag, payload }) rfl next
  | feed tag payload => exact takeCommand_stays _ (f := { kind := 0x3A, tag, payload }) rfl next
  | resetPart tag payload => exact takeCommand_stays _ (f := { kind := 0x3B, tag, payload }) rfl next
  | getComputer tag payload => exact takeCommand_stays _ (f := { kind := 0x50, tag, payload }) rfl next
  | getChannel tag payload => exact takeCommand_stays _ (f := { kind := 0x51, tag, payload }) rfl next
  | getBudget tag payload => exact takeCommand_stays _ (f := { kind := 0x52, tag, payload }) rfl next
  | getWaitList tag payload => exact takeCommand_stays _ (f := { kind := 0x53, tag, payload }) rfl next
  | getPlanStatus tag payload => exact takeCommand_stays _ (f := { kind := 0x54, tag, payload }) rfl next
  | getDaylight tag payload => exact takeCommand_stays _ (f := { kind := 0x55, tag, payload }) rfl next
  | readEvents tag payload => exact takeCommand_stays _ (f := { kind := 0x56, tag, payload }) rfl next
  | readCounter tag payload => exact takeCommand_stays _ (f := { kind := 0x57, tag, payload }) rfl next
  | identify tag payload => exact takeCommand_stays _ (f := { kind := 0x58, tag, payload }) rfl next
  | unknownCommand kind tag payload => exact takeCommand_stays _ (f := { kind, tag, payload }) rfl next
  | supervisoryFrameReceived kind tag payload =>
    exact whenLive_stays_all (frameReceived_stays _ kind tag payload) next
  | supervisoryFrameDiscard cause =>
    exact whenLive_stays_all (fun u => (discardFrame_stays cause u).row) next
  | supervisoryGap => exact whenLive_stays_all (fun u => (gap_stays u).row) next
  | supervisoryFrameSent =>
    refine whenLive_stays (f := fun s => if replyBeingSent s then startUp .command s else
      takeHead (beginSending s)) ((frameSent_stays s).weaken ?_ ?_ ?_ ?_ ?_ id) next
    · exact fun on => on.elim nofun And.right
    all_goals exact fun on => ⟨on.1.elim nofun And.right, on.2⟩
  | commandReset =>
    exact whenLive_stays_all (fun u => ((Stays.refl _ u).thenIf (startUp_stays .command)).rowLoud
      (loud rfl nofun)) next
  | powerReset =>
    obtain rfl := Host.Outcome.next.inj next
    refine Stays.rowLoud ?_ (loud rfl nofun)
    split
    · exact holdInReset_stays _ s
    · exact startUp_stays _ s
  | lineResetAssert =>
    obtain rfl := Host.Outcome.next.inj next
    refine Stays.rowLoud ?_ (loud rfl nofun)
    split
    · exact Stays.refl _ s
    · exact holdInReset_stays _ s
  | lineResetRelease =>
    obtain rfl := Host.Outcome.next.inj next
    exact ((Stays.refl _ s).thenIf (startUp_stays s.lastReset)).rowLoud (loud rfl nofun)
  | demand k seq health pairs => exact whenLive_stays_all (inRun_stays (demand_kept k seq health pairs)) next
  | hello k => exact whenLive_stays_all (inRun_stays (hello_kept k)) next
  | imageOk k _ generation => exact whenLive_stays_all (inRun_stays (imageOk_kept k generation)) next
  | imageReject k _ generation reason =>
    exact whenLive_stays_all (inRun_stays (imageReject_kept k generation reason)) next
  | computerFrameDiscard k cause =>
    exact whenLive_stays_all (inRun_stays (fun u => lineCount_kept k _ u (by cases cause <;> exact fun _ => rfl)
      (by cases cause <;> exact fun _ => rfl))) next
  | computerGap k =>
    exact whenLive_stays_all (inRun_stays fun u => lineCount_kept k (fun p => { p with gapErrors := bump16 p.gapErrors }) u
      (fun _ => rfl) fun _ => rfl) next
  | computerOrderSent k => exact whenLive_stays_all (inRun_stays (beginOrder_kept k)) next
  | stateRecord address value run =>
    exact whenLive_stays_all (onField_stays (stateRecord_stays (rowScope_part rfl) address value run)) next
  | fieldRecordDiscard => exact whenLive_stays_all (onField_stays (count_stays _ _)) next
  | fieldGap => exact whenLive_stays_all (onField_stays (count_stays _ _)) next
  | fieldLineFree => exact whenLive_stays_all (lineFree_stays _) next
  | answerWindow => exact whenLive_stays_all (answerWindow_stays _) next
  | answerPeriod => exact whenLive_stays_all (fun u => expire_stays _ _ u (periodEnds_stays _)) next
  | stepTimer => exact whenLive_stays_all (fun u => expire_stays _ _ u (stepTimer_stays _)) next
  | refillTimer => exact whenLive_stays_all (fun u => expire_stays _ _ u (refill_stays _)) next
  | startConfirmTimer c => exact whenLive_stays_all (fun u => expire_stays _ _ u (startConfirm_stays _ c)) next
  | starvationTimer c => exact whenLive_stays_all (starvation_stays _ c) next
  | ageTimer => exact whenLive_stays_all (fun u => expire_stays _ _ u (age_stays _)) next
  | reportTimer k => exact whenLive_stays_all (fun u => expire_stays _ _ u (reportTimer_stays _ k)) next
  | settleTimer k => exact whenLive_stays_all (fun u => expire_stays _ _ u (settleEnds_stays _ k)) next
  | helloTimer k => exact whenLive_stays_all (fun u => expire_stays _ _ u (attempt_stays _ k .join _)) next
  | imageTimer k => exact whenLive_stays_all (fun u => expire_stays _ _ u (attempt_stays _ k .join _)) next
  | trackTimer k => exact whenLive_stays_all (fun u => expire_stays _ _ u (attempt_stays _ k .track _)) next
  | planStepTimer => exact whenLive_stays_all (fun u => expire_stays _ _ u fun u => stays_of_moves (stepExpired_moves u) _) next
  | passTimer => exact whenLive_stays_all (fun u => expire_stays _ _ u fun u => stays_of_moves (passExpired_moves u) _) next
  | adoptionTimer =>
    exact whenLive_stays_all (fun u => expire_stays _ _ u (adoptionTimer_stays (rowScope_part rfl))) next
  | storeWriteCompletion ok => exact whenLive_stays_all (writeCompletion_stays (rowScope_store rfl) ok) next
  | planTriggerEdge => exact whenLive_stays_all (fun u => stays_of_moves (takeEdge_moves u) _) next

/-- Settles O2: the row's scope (`exec_stays`). -/
theorem onlyTheirRowsChange : Obligations.OnlyTheirRowsChange := by
  intro i s t next
  have stays := exec_stays next
  refine ⟨stays.pending, stays.arriving, stays.pins, fun quiet => ?_⟩
  obtain ⟨reset, held⟩ := stays.reset quiet
  exact ⟨reset, held, fun off => stays.cfg ⟨quiet, off⟩, fun off => stays.store ⟨quiet, off⟩,
    fun off => stays.part ⟨quiet, off⟩, fun off => stays.flag ⟨quiet, off⟩⟩

end Sys2Proof.Proofs
end


section
/-! SUPPORT. What the rows of the plant leave of the computers' blocks, and the rows of the computers of the
plant's (spec/00, section 3). -/

namespace Sys2Proof.Proofs

open Sys2Proof.Machine Sys2Proof.Safety Sys2Proof.Laws

/-- The computers' blocks stay. -/
structure ComputersStay (s t : State) : Prop where
  contexts : t.contexts = s.contexts
  ports : t.ports = s.ports
  window : t.window = s.window
  executor : t.executor = s.executor

/-- What modules and host set of the plant stays, and its timers. -/
structure PlantStays (s t : State) : Prop where
  daylight : t.daylight = s.daylight
  stepTimer : t.stepTimer = s.stepTimer
  adoptionTimer : t.adoptionTimer = s.adoptionTimer
  feed : t.admission.feed = s.admission.feed
  refillTimer : t.admission.refillTimer = s.admission.refillTimer
  answer : t.field.window = s.field.window
  period : t.field.period = s.field.period
  flags : ∀ c : Chan, FieldFlagsStay s.channels[c] t.channels[c]

theorem ComputersStay.refl (s : State) : ComputersStay s s := ⟨rfl, rfl, rfl, rfl⟩

theorem ComputersStay.trans {s t u : State} (h : ComputersStay s t) (g : ComputersStay t u) : ComputersStay s u :=
  ⟨g.1.trans h.1, g.2.trans h.2, g.3.trans h.3, g.4.trans h.4⟩

theorem PlantStays.refl (s : State) : PlantStays s s :=
  ⟨rfl, rfl, rfl, rfl, rfl, rfl, rfl, fun _ => FieldFlagsStay.refl _⟩

theorem PlantStays.trans {s t u : State} (h : PlantStays s t) (g : PlantStays t u) : PlantStays s u :=
  ⟨g.1.trans h.1, g.2.trans h.2, g.3.trans h.3, g.4.trans h.4, g.5.trans h.5, g.6.trans h.6, g.7.trans h.7,
    fun c => (h.8 c).trans (g.8 c)⟩

theorem computersStay_of_plant {s t : State} (h : PlantMoves s t) : ComputersStay s t :=
  ⟨h.contexts, h.ports, h.window, h.executor⟩

theorem plantStays_of_moves {s t : State} (h : ComputerMoves s t) : PlantStays s t :=
  ⟨h.daylight, h.stepTimer, h.adoptionTimer, h.feed, h.refillTimer, h.answer, h.period, h.flags⟩

theorem ComputersStay.thenIf {s t : State} {g : State → State} {c : Prop} [Decidable c] (h : ComputersStay s t)
    (keeps : ∀ u, ComputersStay u (g u)) : ComputersStay s (if c then g t else t) := by
  split
  case isTrue => exact h.trans (keeps t)
  case isFalse => exact h

theorem PlantStays.thenIf {s t : State} {g : State → State} {c : Prop} [Decidable c] (h : PlantStays s t)
    (keeps : ∀ u, PlantStays u (g u)) : PlantStays s (if c then g t else t) := by
  split
  case isTrue => exact h.trans (keeps t)
  case isFalse => exact h

/-- A command that is taken changes the port and has its effect; one that is not changes the port and the
counter. -/
theorem takeCommand_rel {R : State → State → Prop} (refl : ∀ s, R s s) (trans : ∀ {s t u}, R s t → R t u → R s u)
    (port : ∀ x s, R s { s with supervisory := x }) (counted : ∀ x s, R s (count x s)) {f : CommandFrame}
    {s t : State} (effect : ∀ u, R u ((answerOf f (leaveQueue s)).effect u))
    (next : takeCommand f (answerOf f) s = .next t) : R s t := by
  unfold takeCommand whenLive at next
  obtain rfl := Host.Outcome.next.inj next
  split
  case isTrue => exact refl s
  case isFalse =>
    dsimp only
    split
    case isTrue => exact trans (port _ s) (effect _)
    case isFalse =>
      unfold receiveFrame
      split
      case isTrue => exact port _ s
      case isFalse => exact trans (port _ s) (counted _ _)

theorem whenLive_rel {R : State → State → Prop} (refl : ∀ s, R s s) {f : State → State} {s t : State}
    (h : ∀ u, R u (f u)) (next : whenLive f s = .next t) : R s t := by
  unfold whenLive at next
  obtain rfl := Host.Outcome.next.inj next
  split
  case isTrue => exact refl s
  case isFalse => exact h s

/-! ### Rows of the plant -/

theorem latch_computers (k : EventKind) (item : Option Item) (s : State) : ComputersStay s (latch k item s) :=
  ⟨latch_contexts k item s, latch_ports k item s, latch_window k item s, latch_executor k item s⟩

theorem updRecount_computers (c : Chan) (f : ChannelRun → ChannelRun) (s : State) :
    ComputersStay s (updRecount c f s) := by
  obtain ⟨n, form⟩ := updRecount_eq c f s
  rw [form]
  exact ⟨rfl, rfl, rfl, rfl⟩

theorem forceChannel_computers (c : Chan) (value : Nat) (s : State) : ComputersStay s (forceChannel c value s) := by
  unfold forceChannel
  dsimp only
  refine ComputersStay.trans (t := if s.channels[c].adopted = true then s else adoptAt c 0 s) ?_
    (ComputersStay.trans ?_ (computersStay_of_plant (derive_plant c _)))
  · split
    · exact ComputersStay.refl s
    · exact updRecount_computers c _ s
  · exact ⟨rfl, rfl, rfl, rfl⟩

theorem applyChannel_computers (c : Chan) (new : ChannelConfig) (s : State) :
    ComputersStay s (applyChannel c new s) := by
  have set : ComputersStay s (setChannelConfig c new s) := ⟨rfl, rfl, rfl, rfl⟩
  unfold applyChannel
  split
  case isFalse => exact set
  case isTrue =>
    unfold applyChannelRun
    dsimp only
    split
    case isFalse =>
      exact set.thenIf fun t => (computersStay_of_plant (withdraw_plant c t)).trans ⟨rfl, rfl, rfl, rfl⟩
    case isTrue =>
      refine ((set.thenIf fun t => ?_).thenIf fun t => computersStay_of_plant (withdraw_plant c t)).thenIf
        fun t => computersStay_of_plant (deriveFrom_plant _ c t)
      have cleared : ComputersStay t (updChannel c (fun ch => { ch with demand := none, matchCount := 0 }) t) :=
        ⟨rfl, rfl, rfl, rfl⟩
      exact cleared.trans (computersStay_of_plant (deriveFrom_plant _ c _))

theorem applyBudget_computers (b : BudgetConfig) (s : State) : ComputersStay s (applyBudget b s) := by
  unfold applyBudget
  dsimp only
  split <;> exact ⟨rfl, rfl, rfl, rfl⟩

theorem applyDaylight_computers (d : DaylightConfig) (s : State) : ComputersStay s (applyDaylight d s) := by
  have set : ∀ x, ComputersStay s { s with cfg := { s.cfg with daylight := d }, daylight := x } :=
    fun _ => ⟨rfl, rfl, rfl, rfl⟩
  unfold applyDaylight
  dsimp only
  split
  · exact (set _).trans (computersStay_of_plant (deriveDaylight_plant _))
  · exact ⟨rfl, rfl, rfl, rfl⟩

theorem takeReading_computers (value : Nat) (s : State) : ComputersStay s (takeReading value s) := by
  have set : ∀ x, ComputersStay s { s with daylight := x } := fun _ => ⟨rfl, rfl, rfl, rfl⟩
  unfold takeReading
  dsimp only
  split
  · exact set _
  · exact (set _).trans (computersStay_of_plant (deriveDaylight_plant _))

theorem setFeed_computers (f : FeedState) (s : State) : ComputersStay s (setFeed f s) := by
  unfold setFeed
  split <;> exact ⟨rfl, rfl, rfl, rfl⟩

/-- The kinds of the plant's commands. -/
def plantKinds : List Nat := [0x11, 0x12, 0x14, 0x34, 0x35, 0x36, 0x39, 0x3A]

theorem Effect.computers (e : Effect) (own : e.kind = 0 ∨ e.kind ∈ plantKinds) (s : State) :
    ComputersStay s (e.run s) := by
  cases e with
  | nothing => exact ComputersStay.refl s
  | channel c new => exact applyChannel_computers c new s
  | budget b => exact applyBudget_computers b s
  | daylight d => exact applyDaylight_computers d s
  | force c value => exact forceChannel_computers c value s
  | unforce c => exact (updRecount_computers c _ s).trans (computersStay_of_plant (derive_plant c _))
  | clearFault c => exact updRecount_computers c (fun ch => { ch with driveFault := false }) s
  | reading value => exact takeReading_computers value s
  | feed f => exact setFeed_computers f s
  | _ => simp [Effect.kind, plantKinds] at own

theorem plantCommand_computers (kind tag : Byte) (payload : List Byte) {s t : State}
    (plant : kind.toNat ∈ plantKinds)
    (next : takeCommand { kind, tag, payload } (answerOf { kind, tag, payload }) s = .next t) :
    ComputersStay s t := by
  obtain ⟨e, effect, own⟩ := answerOf_runs { kind, tag, payload } (leaveQueue s)
  refine takeCommand_rel ComputersStay.refl ComputersStay.trans (fun _ _ => ⟨rfl, rfl, rfl, rfl⟩)
    (fun x s => computersStay_of_plant (count_plant x s)) (fun u => ?_) next
  rw [effect]
  exact e.computers (own.imp id fun k => by rw [k]; exact plant) u

theorem expire_computers (timer : Option Nat) (f : State → State) (s : State) (h : ∀ t, ComputersStay t (f t)) :
    ComputersStay s (expire timer f s) := by
  cases timer with
  | none => exact ComputersStay.refl s
  | some d => exact ComputersStay.trans (t := { s with now := max s.now d }) ⟨rfl, rfl, rfl, rfl⟩ (h _)

theorem onField_computers {f : State → State} (h : ∀ s, ComputersStay s (f s)) (s : State) :
    ComputersStay s (onField f s) := by
  unfold onField
  split
  case h_1 => exact ComputersStay.refl s
  all_goals exact h s

theorem pollNext_computers (visit : Chan → Bool) (s : State) : ComputersStay s (pollNext visit s) := by
  unfold pollNext
  split <;> exact ⟨rfl, rfl, rfl, rfl⟩

theorem sendRecord_computers (s : State) : ComputersStay s (sendRecord s) := by
  unfold sendRecord
  split
  · exact ComputersStay.refl s
  · exact pollNext_computers _ s
  · split
    · exact ⟨rfl, rfl, rfl, rfl⟩
    · exact pollNext_computers _ s

theorem lineFree_computers (s : State) :
    ComputersStay s (if s.field.window.isSome ∨ s.field.period.isSome then s else sendRecord s) := by
  split
  case isTrue => exact ComputersStay.refl s
  case isFalse => exact sendRecord_computers s

theorem answerWindow_computers (s : State) : ComputersStay s (match s.field.window with
    | none => s
    | some w => expire (some w.deadline) (fun s => updChannel w.channel (fun ch => { ch with runState := .unknown })
        { s with field := { s.field with window := none } }) s) := by
  split
  case h_1 => exact ComputersStay.refl s
  case h_2 => exact expire_computers _ _ s fun _ => ⟨rfl, rfl, rfl, rfl⟩

theorem periodEnds_computers (s : State) :
    ComputersStay s (sendRecord { s with field := { s.field with period := none } }) :=
  ComputersStay.trans (t := { s with field := { s.field with period := none } }) ⟨rfl, rfl, rfl, rfl⟩
    (sendRecord_computers _)

theorem stepTimer_computers (s : State) :
    ComputersStay s (requestAll (fallAll { s with stepTimer := some (s.now + Config.stepPeriod) })) :=
  ComputersStay.trans (t := { s with stepTimer := some (s.now + Config.stepPeriod) }) ⟨rfl, rfl, rfl, rfl⟩
    (computersStay_of_plant ((fallAll_plant _).trans (requestAll_plant _)))

theorem setDriveFault_computers (c : Chan) (s : State) : ComputersStay s (setDriveFault c s) := by
  unfold setDriveFault
  split
  · exact ComputersStay.refl s
  · refine ComputersStay.trans (t := withdraw c (updChannel c
      (fun ch => { ch with driveFault := true, startConfirm := none }) s)) ⟨rfl, rfl, rfl, rfl⟩ ?_
    exact latch_computers _ _ _

theorem startConfirm_computers (c : Chan) (s : State) :
    ComputersStay s (setDriveFault c (updChannel c (fun ch => { ch with startConfirm := none }) s)) :=
  ComputersStay.trans (t := updChannel c (fun ch => { ch with startConfirm := none }) s) ⟨rfl, rfl, rfl, rfl⟩
    (setDriveFault_computers c _)

theorem starvation_computers (c : Chan) (s : State) : ComputersStay s (match entryOf s c with
    | none => s
    | some e => expire e.starvation (starve c e) s) := by
  split
  case h_1 => exact ComputersStay.refl s
  case h_2 e _ =>
    refine expire_computers _ _ s fun u => ?_
    unfold starve
    dsimp only
    split
    · exact ⟨rfl, rfl, rfl, rfl⟩
    · refine ComputersStay.trans (t := updEntry c (fun e => { e with starvation := none, reported := true }) u)
        ⟨rfl, rfl, rfl, rfl⟩ ?_
      exact latch_computers _ _ _

theorem age_computers (s : State) : ComputersStay s (latch .daylightStale none
    { s with daylight := { s.daylight with ageTimer := none, stale := true } }) :=
  ComputersStay.trans (t := { s with daylight := { s.daylight with ageTimer := none, stale := true } })
    ⟨rfl, rfl, rfl, rfl⟩ (latch_computers _ _ _)

theorem exec_plantRow {i : Instr} {s t : State} (plant : rowOfPlant i = true) (next : exec i s = .next t) :
    ComputersStay s t := by
  cases i with
  | setChannel tag payload => exact plantCommand_computers 0x11 tag payload (by decide) next
  | setBudget tag payload => exact plantCommand_computers 0x12 tag payload (by decide) next
  | setDaylight tag payload => exact plantCommand_computers 0x14 tag payload (by decide) next
  | force tag payload => exact plantCommand_computers 0x34 tag payload (by decide) next
  | unforce tag payload => exact plantCommand_computers 0x35 tag payload (by decide) next
  | clearFault tag payload => exact plantCommand_computers 0x36 tag payload (by decide) next
  | luminance tag payload => exact plantCommand_computers 0x39 tag payload (by decide) next
  | feed tag payload => exact plantCommand_computers 0x3A tag payload (by decide) next
  | fieldRecordDiscard | fieldGap =>
    exact whenLive_rel ComputersStay.refl (onField_computers fun u =>
      computersStay_of_plant (count_plant _ u)) next
  | fieldLineFree => exact whenLive_rel ComputersStay.refl lineFree_computers next
  | answerWindow => exact whenLive_rel ComputersStay.refl answerWindow_computers next
  | answerPeriod =>
    exact whenLive_rel ComputersStay.refl (fun u => expire_computers _ _ u periodEnds_computers) next
  | stepTimer => exact whenLive_rel ComputersStay.refl (fun u => expire_computers _ _ u stepTimer_computers) next
  | startConfirmTimer c =>
    exact whenLive_rel ComputersStay.refl (fun u => expire_computers _ _ u (startConfirm_computers c)) next
  | starvationTimer c => exact whenLive_rel ComputersStay.refl (starvation_computers c) next
  | ageTimer => exact whenLive_rel ComputersStay.refl (fun u => expire_computers _ _ u age_computers) next
  | _ => exact nomatch plant

/-! ### Rows of the computers -/

theorem setCfg_plantStays (c : WorkingConfig) (s : State) : PlantStays s { s with cfg := c } :=
  ⟨rfl, rfl, rfl, rfl, rfl, rfl, rfl, fun _ => FieldFlagsStay.refl _⟩

theorem applyComputer_plantStays (k : Slot) (new : ComputerConfig) (s : State) :
    PlantStays s (applyComputer k new s) := by
  have changes : PlantStays s (if new.enabled = s.cfg.computers[k].enabled then setComputerConfig k new s
      else enabledChanges k new.enabled (setComputerConfig k new s)) := by
    have set : PlantStays s (setComputerConfig k new s) := setCfg_plantStays _ s
    split
    · exact set
    · exact set.trans (plantStays_of_moves (enabledChanges_moves k _ _))
  exact changes.thenIf fun t => plantStays_of_moves (serveBore_moves _ t)

/-- The kinds of the computers' commands. -/
def computerKinds : List Nat := [0x10, 0x13, 0x30, 0x31, 0x32, 0x33, 0x37, 0x38]

theorem Effect.plantStays (e : Effect) (own : e.kind = 0 ∨ e.kind ∈ computerKinds) (s : State) :
    PlantStays s (e.run s) := by
  cases e with
  | nothing => exact PlantStays.refl s
  | computer k new => exact applyComputer_plantStays k new s
  | windows l1 l2 =>
    exact ((setCfg_plantStays { s.cfg with limit1 := l1, limit2 := l2 } s).thenIf fun t =>
      plantStays_of_moves (serveBore_moves .one t)).thenIf fun t => plantStays_of_moves (serveBore_moves .two t)
  | request k => exact plantStays_of_moves (takeRequest_moves _ k s)
  | cancel k => exact plantStays_of_moves (dropEntry_moves k s)
  | pause k => exact plantStays_of_moves (pauseSlot_moves k s)
  | resume k => exact plantStays_of_moves (resumeSlot_moves k s)
  | start p => exact plantStays_of_moves (startPlan_moves p s)
  | stop atPassEnd =>
    cases atPassEnd
    · exact plantStays_of_moves (endExecuting_moves _ s)
    · exact plantStays_of_moves (stopAtPassEnd_moves s)
  | _ => simp [Effect.kind, computerKinds] at own

theorem computerCommand_plantStays (kind tag : Byte) (payload : List Byte) {s t : State}
    (computer : kind.toNat ∈ computerKinds)
    (next : takeCommand { kind, tag, payload } (answerOf { kind, tag, payload }) s = .next t) :
    PlantStays s t := by
  obtain ⟨e, effect, own⟩ := answerOf_runs { kind, tag, payload } (leaveQueue s)
  refine takeCommand_rel PlantStays.refl PlantStays.trans
    (fun _ _ => ⟨rfl, rfl, rfl, rfl, rfl, rfl, rfl, fun _ => FieldFlagsStay.refl _⟩)
    (fun x s => plantStays_of_moves (count_moves x s)) (fun u => ?_) next
  rw [effect]
  exact e.plantStays (own.imp id fun k => by rw [k]; exact computer) u

theorem inRun_plantStays {f : State → State} (h : ∀ s, Kept s (f s)) (s : State) : PlantStays s (inRun f s) :=
  (PlantStays.refl s).thenIf fun u => plantStays_of_moves (h u).moves

theorem expire_plantStays (timer : Option Nat) (f : State → State) (s : State)
    (h : ∀ t, ComputerMoves t (f t)) : PlantStays s (expire timer f s) := by
  cases timer with
  | none => exact PlantStays.refl s
  | some d =>
    exact PlantStays.trans (t := { s with now := max s.now d })
      ⟨rfl, rfl, rfl, rfl, rfl, rfl, rfl, fun _ => FieldFlagsStay.refl _⟩ (plantStays_of_moves (h _))

theorem attempt_moves (k : Slot) (state : ComputerState) (f : Context → Context) (s : State) :
    ComputerMoves s (if (updContext k f s).contexts[k].state = state then failAttempt k (updContext k f s)
      else updContext k f s) := by
  split
  case isTrue => exact (updContext_moves k f s).trans (failAttempt_moves k _)
  case isFalse => exact updContext_moves k f s

theorem settleEnds_moves (k : Slot) (s : State) : ComputerMoves s (if s.contexts[k].state = .settle then
    enterHello k s else updContext k (fun x => { x with settleTimer := none }) s) := by
  split
  case isTrue => exact enterHello_moves k s
  case isFalse => exact updContext_moves k _ s

theorem reportTimer_moves (k : Slot) (s : State) :
    ComputerMoves s (rearmReport k (reportMissed k (reportEnded k s))) :=
  ((updPort_moves k _ s).trans (reportMissed_moves k _)).trans (rearmReport_moves k _)

theorem exec_computerRow {i : Instr} {s t : State} (computers : rowOfComputers i = true)
    (next : exec i s = .next t) : PlantStays s t := by
  cases i with
  | setComputer tag payload => exact computerCommand_plantStays 0x10 tag payload (by decide) next
  | setWindow tag payload => exact computerCommand_plantStays 0x13 tag payload (by decide) next
  | restart tag payload => exact computerCommand_plantStays 0x30 tag payload (by decide) next
  | cancelRestart tag payload => exact computerCommand_plantStays 0x31 tag payload (by decide) next
  | pause tag payload => exact computerCommand_plantStays 0x32 tag payload (by decide) next
  | resume tag payload => exact computerCommand_plantStays 0x33 tag payload (by decide) next
  | planStart tag payload => exact computerCommand_plantStays 0x37 tag payload (by decide) next
  | planStop tag payload => exact computerCommand_plantStays 0x38 tag payload (by decide) next
  | demand k seq health pairs =>
    exact whenLive_rel PlantStays.refl (inRun_plantStays (demand_kept k seq health pairs)) next
  | hello k => exact whenLive_rel PlantStays.refl (inRun_plantStays (hello_kept k)) next
  | imageOk k _ generation => exact whenLive_rel PlantStays.refl (inRun_plantStays (imageOk_kept k generation)) next
  | imageReject k _ generation reason =>
    exact whenLive_rel PlantStays.refl (inRun_plantStays (imageReject_kept k generation reason)) next
  | computerFrameDiscard k cause =>
    exact whenLive_rel PlantStays.refl (inRun_plantStays fun u => lineCount_kept k _ u
      (by cases cause <;> exact fun _ => rfl) (by cases cause <;> exact fun _ => rfl)) next
  | computerGap k =>
    exact whenLive_rel PlantStays.refl (inRun_plantStays fun u => lineCount_kept k
      (fun p => { p with gapErrors := bump16 p.gapErrors }) u (fun _ => rfl) fun _ => rfl) next
  | computerOrderSent k => exact whenLive_rel PlantStays.refl (inRun_plantStays (beginOrder_kept k)) next
  | reportTimer k =>
    exact whenLive_rel PlantStays.refl (fun u => expire_plantStays _ _ u (reportTimer_moves k)) next
  | settleTimer k =>
    exact whenLive_rel PlantStays.refl (fun u => expire_plantStays _ _ u (settleEnds_moves k)) next
  | helloTimer k | imageTimer k =>
    exact whenLive_rel PlantStays.refl (fun u => expire_plantStays _ _ u (attempt_moves k .join _)) next
  | trackTimer k =>
    exact whenLive_rel PlantStays.refl (fun u => expire_plantStays _ _ u (attempt_moves k .track _)) next
  | planStepTimer => exact whenLive_rel PlantStays.refl (fun u => expire_plantStays _ _ u stepExpired_moves) next
  | passTimer => exact whenLive_rel PlantStays.refl (fun u => expire_plantStays _ _ u passExpired_moves) next
  | planTriggerEdge =>
    exact whenLive_rel PlantStays.refl (fun u => plantStays_of_moves (takeEdge_moves u)) next
  | _ => exact nomatch computers

/-- Settles O3: each row of the two lists, by the operations that it is made of. -/
theorem blocksKeepToTheirRows : Obligations.BlocksKeepToTheirRows := by
  refine fun i s t next => ⟨fun plant => ?_, fun computers => ?_⟩
  · obtain ⟨contexts, ports, window, executor⟩ := exec_plantRow plant next
    exact ⟨contexts, ports, window, executor⟩
  · obtain ⟨daylight, stepTimer, adoptionTimer, feed, refillTimer, answer, period, flags⟩ :=
      exec_computerRow computers next
    refine ⟨daylight, stepTimer, adoptionTimer, feed, refillTimer, answer, period, fun c => ?_⟩
    obtain ⟨adopted, forced, driveFault, runState⟩ := flags c
    exact ⟨adopted, forced, driveFault, runState⟩

end Sys2Proof.Proofs
end


section
/-! SUPPORT. The checks of R158 in their order: the kind, the length, the index, the part state (R161, R162). -/

namespace Sys2Proof.Proofs

open Sys2Proof.Machine Sys2Proof.Safety Sys2Proof.Laws

/-! ### Kind and length (R158, checks 1 and 2) -/

theorem answerOf_unknown (kind tag : Byte) (payload : List Byte) (s : State)
    (unknown : commandKinds.contains kind = false) :
    answerOf { kind, tag, payload } s = refuse .unknownCommand := by
  obtain ⟨n, h⟩ : ∃ n, kind.toNat = n := ⟨_, rfl⟩
  have lt : n < 256 := h ▸ kind.isLt
  obtain rfl : kind = BitVec.ofNat 8 n := by rw [← h]; simp
  clear h
  interval_cases n <;> first | rfl | exact absurd unknown (by decide)

theorem withSlot_badLength {payload : List Byte} (a : Slot → Answer) (bad : payload.length ≠ 1) :
    withSlot payload a = refuse .badLength := by
  match payload, bad with
  | [], _ => rfl
  | _ :: _ :: _, _ => rfl

theorem withChannel_badLength {payload : List Byte} (a : Chan → Answer) (bad : payload.length ≠ 1) :
    withChannel payload a = refuse .badLength := by
  match payload, bad with
  | [], _ => rfl
  | _ :: _ :: _, _ => rfl

theorem withoutPayload_badLength {payload : List Byte} (a : Answer) (bad : payload.length ≠ 0) :
    withoutPayload payload a = refuse .badLength := by
  match payload, bad with
  | _ :: _, _ => rfl

/-- A payload whose length is not the one that a command matches on. -/
theorem oneByte_badLength {payload : List Byte} (bad : payload.length ≠ 1) (s : State) :
    setCounterSourceAnswer payload s = refuse .badLength ∧ planStartAnswer payload s = refuse .badLength ∧
    planStopAnswer payload s = refuse .badLength ∧ feedAnswer payload s = refuse .badLength := by
  match payload, bad with
  | [], _ => exact ⟨rfl, rfl, rfl, rfl⟩
  | _ :: _ :: _, _ => exact ⟨rfl, rfl, rfl, rfl⟩

theorem twoBytes_badLength {payload : List Byte} (bad : payload.length ≠ 2) (s : State) :
    setWindowAnswer payload s = refuse .badLength ∧ setEventMaskAnswer payload s = refuse .badLength ∧
    luminanceAnswer payload s = refuse .badLength := by
  match payload, bad with
  | [], _ => exact ⟨rfl, rfl, rfl⟩
  | [_], _ => exact ⟨rfl, rfl, rfl⟩
  | _ :: _ :: _ :: _, _ => exact ⟨rfl, rfl, rfl⟩

theorem threeBytes_badLength {payload : List Byte} (bad : payload.length ≠ 3) (s : State) :
    forceAnswer payload s = refuse .badLength := by
  match payload, bad with
  | [], _ => rfl
  | [_], _ => rfl
  | [_, _], _ => rfl
  | _ :: _ :: _ :: _ :: _, _ => rfl

theorem sixBytes_badLength {payload : List Byte} (bad : payload.length ≠ 6) (s : State) :
    setBudgetAnswer payload s = refuse .badLength := by
  unfold setBudgetAnswer
  split
  case h_1 => exact absurd rfl bad
  case h_2 => rfl

theorem answerOf_badLength (kind tag : Byte) (payload : List Byte) (n : Nat) (s : State)
    (fixed : fixedLength kind = some n) (bad : payload.length ≠ n) :
    answerOf { kind, tag, payload } s = refuse .badLength := by
  unfold fixedLength at fixed
  split at fixed
  case h_30 => exact nomatch fixed
  all_goals
    rename_i k
    obtain rfl := Option.some.inj fixed
    simp only [answerOf, k]
  case h_1 => exact if_neg bad
  case h_2 => exact if_neg bad
  case h_3 => exact sixBytes_badLength bad s
  case h_4 => exact (twoBytes_badLength bad s).1
  case h_5 => exact (twoBytes_badLength bad s).2.1
  case h_6 => exact (oneByte_badLength bad s).1
  case h_13 => exact threeBytes_badLength bad s
  case h_16 => exact (oneByte_badLength bad s).2.1
  case h_17 => exact (oneByte_badLength bad s).2.2.1
  case h_18 => exact (twoBytes_badLength bad s).2.2
  case h_19 => exact (oneByte_badLength bad s).2.2.2
  case h_9 | h_10 | h_11 | h_12 | h_21 => exact withSlot_badLength _ bad
  case h_14 | h_15 | h_22 => exact withChannel_badLength _ bad
  all_goals exact withoutPayload_badLength _ bad

/-- A SET-DAYLIGHT payload of another length than its count asks for. -/
theorem setDaylightAnswer_badLength {payload : List Byte} (s : State)
    (bad : payload.length ≠ 3 + 4 * (payload.headD 0).toNat) :
    setDaylightAnswer payload s = refuse .badLength := by
  match payload, bad with
  | [], _ => rfl
  | _ :: _, bad => exact if_neg bad

/-- A SET-PLAN payload that is short, or of another length than its count asks for. -/
theorem setPlanAnswer_badLength {payload : List Byte} (s : State)
    (bad : payload.length < 8 ∨ payload.length ≠ 8 + 5 * ((payload.drop 7).headD 0).toNat) :
    setPlanAnswer payload s = refuse .badLength := by
  unfold setPlanAnswer
  split
  case h_2 => rfl
  case h_1 =>
    refine if_neg (bad.resolve_left ?_)
    simp only [List.length_cons]
    omega

theorem exec_refused (kind tag : Byte) (payload : List Byte) (code : ResultCode) (s : State)
    (taken : Taken kind tag payload s)
    (a : answerOf { kind, tag, payload } (leaveQueue s) = refuse code) :
    exec (commandOf kind tag payload) s = .next (refused kind tag code s) := by
  rw [exec_commandOf]
  exact takeCommand_refused kind tag payload _ code s taken a

/-- Settles O5: the kind decides the answer's function, and each function checks the length first. -/
theorem frameLevelRefusals : Obligations.FrameLevelRefusals := by
  refine ⟨fun kind tag payload s unknown taken => ?_, fun kind tag payload n s fixed bad taken => ?_,
    fun tag payload s => ⟨fun taken bad => ?_, fun taken bad => ?_⟩⟩
  · exact takeCommand_refused kind tag payload _ _ s taken (answerOf_unknown kind tag payload _ unknown)
  · exact exec_refused kind tag payload _ s taken (answerOf_badLength kind tag payload n _ fixed bad)
  · exact takeCommand_refused _ tag payload _ _ s taken (setDaylightAnswer_badLength _ bad)
  · exact takeCommand_refused _ tag payload _ _ s taken (setPlanAnswer_badLength _ bad)

/-! ### Index and part state (R158 checks 3 and 4, R161, R162) -/

theorem withSlot_above {b : Byte} (a : Slot → Answer) (above : 7 < b.toNat) :
    withSlot [b] a = refuse .outOfRange := by
  simp only [withSlot, readSlot_above b above]

theorem withChannel_above {b : Byte} (a : Chan → Answer) (above : 47 < b.toNat) :
    withChannel [b] a = refuse .outOfRange := by
  simp only [withChannel, readChan_above b above]

theorem readSlot_within {b : Byte} (within : b.toNat ≤ 7) : ∃ k, readSlot b = some k := by
  unfold readSlot
  rw [dif_pos (by omega)]
  exact ⟨_, rfl⟩

theorem readChan_within {b : Byte} (within : b.toNat ≤ 47) : ∃ c, readChan b = some c := by
  unfold readChan
  rw [dif_pos (by omega)]
  exact ⟨_, rfl⟩

theorem readPlanNo_within {b : Byte} (within : b.toNat ≤ 7) : ∃ p, readPlanNo b = some p := by
  unfold readPlanNo
  rw [dif_pos (by omega)]
  exact ⟨_, rfl⟩

theorem readStopMode_above (b : Byte) (above : 1 < b.toNat) : readStopMode b = none := by
  unfold readStopMode
  split
  case h_1 h | h_2 h => omega
  case h_3 => rfl

theorem readFeed_above (b : Byte) (above : 1 < b.toNat) : readFeed b = none := by
  unfold readFeed
  split
  case h_1 h | h_2 h => omega
  case h_3 => rfl

theorem readStopMode_within {b : Byte} (within : b.toNat ≤ 1) : ∃ m, readStopMode b = some m := by
  unfold readStopMode
  interval_cases b.toNat <;> exact ⟨_, rfl⟩

theorem readFeed_within {b : Byte} (within : b.toNat ≤ 1) : ∃ f, readFeed b = some f := by
  unfold readFeed
  interval_cases b.toNat <;> exact ⟨_, rfl⟩

/-- A payload of one byte. -/
theorem payload_one {payload : List Byte} (h : payload.length = 1) : ∃ b, payload = [b] :=
  List.length_eq_one_iff.mp h

theorem answerOf_above (kind tag : Byte) (payload : List Byte) (top : Nat) (s : State)
    (index : topIndex kind = some top) (length : fixedLength kind = some payload.length)
    (above : top < (payload.headD 0).toNat) : answerOf { kind, tag, payload } s = refuse .outOfRange := by
  unfold topIndex at index
  split at index
  case h_11 => exact nomatch index
  all_goals
    rename_i k
    obtain rfl := Option.some.inj index
    simp only [fixedLength, k, Option.some.injEq] at length
    simp only [answerOf, k]
  case h_5 =>
    match payload, length with
    | [b, _, _], _ => simp only [forceAnswer, readChan_above b above]
  case h_6 | h_7 =>
    obtain ⟨b, rfl⟩ := payload_one length.symm
    exact withChannel_above _ above
  case h_8 =>
    obtain ⟨b, rfl⟩ := payload_one length.symm
    simp only [planStartAnswer, readPlanNo_above b above]
  case h_9 =>
    obtain ⟨b, rfl⟩ := payload_one length.symm
    simp only [planStopAnswer, readStopMode_above b above]
  case h_10 =>
    obtain ⟨b, rfl⟩ := payload_one length.symm
    simp only [feedAnswer, readFeed_above b above]
  all_goals
    obtain ⟨b, rfl⟩ := payload_one length.symm
    exact withSlot_above _ above

theorem withSlot_within {b : Byte} (a : Slot → Answer) (within : b.toNat ≤ 7) : ∃ k, withSlot [b] a = a k := by
  obtain ⟨k, read⟩ := readSlot_within within
  exact ⟨k, by simp only [withSlot, read]⟩

theorem withChannel_within {b : Byte} (a : Chan → Answer) (within : b.toNat ≤ 47) :
    ∃ c, withChannel [b] a = a c := by
  obtain ⟨c, read⟩ := readChan_within within
  exact ⟨c, by simp only [withChannel, read]⟩

theorem forceAnswer_within (b hi lo : Byte) (s : State) (within : b.toNat ≤ 47) :
    ∃ a, forceAnswer [b, hi, lo] s = asOrder s a := by
  obtain ⟨c, read⟩ := readChan_within within
  simp only [forceAnswer, read]
  exact ⟨_, rfl⟩

theorem planStartAnswer_within (b : Byte) (s : State) (within : b.toNat ≤ 7) :
    ∃ a, planStartAnswer [b] s = asOrder s a := by
  obtain ⟨p, read⟩ := readPlanNo_within within
  simp only [planStartAnswer, read]
  exact ⟨_, rfl⟩

theorem planStopAnswer_within (b : Byte) (s : State) (within : b.toNat ≤ 1) :
    ∃ a, planStopAnswer [b] s = asOrder s a := by
  obtain ⟨m, read⟩ := readStopMode_within within
  simp only [planStopAnswer, read]
  exact ⟨_, rfl⟩

theorem feedAnswer_within (b : Byte) (s : State) (within : b.toNat ≤ 1) :
    ∃ a, feedAnswer [b] s = asOrder s a := by
  obtain ⟨f, read⟩ := readFeed_within within
  simp only [feedAnswer, read]
  exact ⟨_, rfl⟩

/-- An order of the right length and index asks for the part state. -/
theorem answerOf_order (kind tag : Byte) (payload : List Byte) (s : State)
    (order : plainOrders.contains kind = true) (length : fixedLength kind = some payload.length)
    (within : ∀ top, topIndex kind = some top → (payload.headD 0).toNat ≤ top) :
    ∃ a, answerOf { kind, tag, payload } s = asOrder s a := by
  have cases : kind = 0x30 ∨ kind = 0x31 ∨ kind = 0x32 ∨ kind = 0x33 ∨ kind = 0x34 ∨ kind = 0x35 ∨
      kind = 0x36 ∨ kind = 0x37 ∨ kind = 0x38 ∨ kind = 0x39 ∨ kind = 0x3A := by
    simpa [plainOrders] using order
  have slot : ∀ b a, b.toNat ≤ 7 → (∀ k, ∃ c, a k = asOrder s c) → ∃ c, withSlot [b] a = asOrder s c :=
    fun b a low each => by
      obtain ⟨k, at_k⟩ := withSlot_within a low
      rw [at_k]
      exact each k
  have chan : ∀ b a, b.toNat ≤ 47 → (∀ k, ∃ c, a k = asOrder s c) → ∃ c, withChannel [b] a = asOrder s c :=
    fun b a low each => by
      obtain ⟨k, at_k⟩ := withChannel_within a low
      rw [at_k]
      exact each k
  have one : fixedLength kind = some 1 → ∃ b, payload = [b] := fun fixed =>
    payload_one (Option.some.inj (length.symm.trans fixed))
  rcases cases with rfl | rfl | rfl | rfl | rfl | rfl | rfl | rfl | rfl | rfl | rfl
  · obtain ⟨b, rfl⟩ := one rfl; exact slot b _ (within 7 rfl) fun _ => ⟨_, rfl⟩
  · obtain ⟨b, rfl⟩ := one rfl; exact slot b _ (within 7 rfl) fun _ => ⟨_, rfl⟩
  · obtain ⟨b, rfl⟩ := one rfl; exact slot b _ (within 7 rfl) fun _ => ⟨_, rfl⟩
  · obtain ⟨b, rfl⟩ := one rfl; exact slot b _ (within 7 rfl) fun _ => ⟨_, rfl⟩
  · match payload, length, within with
    | [b, hi, lo], _, within => exact forceAnswer_within b hi lo s (within 47 rfl)
  · obtain ⟨b, rfl⟩ := one rfl; exact chan b _ (within 47 rfl) fun _ => ⟨_, rfl⟩
  · obtain ⟨b, rfl⟩ := one rfl; exact chan b _ (within 47 rfl) fun _ => ⟨_, rfl⟩
  · obtain ⟨b, rfl⟩ := one rfl; exact planStartAnswer_within b s (within 7 rfl)
  · obtain ⟨b, rfl⟩ := one rfl; exact planStopAnswer_within b s (within 1 rfl)
  · match payload, length with
    | [hi, lo], _ => exact ⟨_, rfl⟩
  · obtain ⟨b, rfl⟩ := one rfl; exact feedAnswer_within b s (within 1 rfl)

/-- Settles O6: the index is read ahead of `asOrder`, which asks for the part state. -/
theorem ordersCheckIndexThenPartState : Obligations.OrdersCheckIndexThenPartState := by
  refine ⟨fun kind tag payload top s index length above taken => ?_,
    fun kind tag payload s order length within taken => ?_⟩
  · exact exec_refused kind tag payload _ s taken (answerOf_above kind tag payload top _ index length above)
  · obtain ⟨a, answer⟩ := answerOf_order kind tag payload (leaveQueue s) order length within
    exact ⟨fun off => exec_refused kind tag payload _ s taken (answer.trans (asOrder_unconfigured _ a off)),
      fun adopt => exec_refused kind tag payload _ s taken (answer.trans (asOrder_adopt _ a adopt))⟩

/-! ### Configuration commands in ADOPT (R161) -/

theorem setComputerAnswer_within (payload : List Byte) (s : State) (length : payload.length = 13)
    (within : (payload.headD 0).toNat ≤ 7) :
    ∃ k, setComputerAnswer payload s = asConfiguration s
      (match readComputer payload.tail with
      | none => refuse .outOfRange
      | some new =>
        if s.partState = .run ∧ computerAllowed k new s = false then refuse .refusedState
        else accept (applyComputer k new)) := by
  obtain ⟨k, read⟩ := readSlot_within within
  refine ⟨k, (if_pos length).trans ?_⟩
  unfold answerSetComputer
  split
  case h_1 none => exact nomatch none.symm.trans read
  case h_2 found =>
    obtain rfl := Option.some.inj (found.symm.trans read)
    rfl

theorem setChannelAnswer_within (payload : List Byte) (s : State) (length : payload.length = 15)
    (within : (payload.headD 0).toNat ≤ 47) :
    ∃ c, setChannelAnswer payload s = asConfiguration s
      (match readChannel payload.tail with
      | none => refuse .outOfRange
      | some new =>
        if s.partState = .run ∧ channelAllowed c new s = false then refuse .refusedState
        else accept (applyChannel c new)) := by
  obtain ⟨c, read⟩ := readChan_within within
  refine ⟨c, (if_pos length).trans ?_⟩
  unfold answerSetChannel
  split
  case h_1 none => exact nomatch none.symm.trans read
  case h_2 found =>
    obtain rfl := Option.some.inj (found.symm.trans read)
    rfl

theorem setDaylightAnswer_length (payload : List Byte) (s : State)
    (length : payload.length = 3 + 4 * (payload.headD 0).toNat) :
    setDaylightAnswer payload s = asConfiguration s
      (match (readWords payload.tail).bind (readDaylight (payload.headD 0).toNat) with
      | some d => accept (applyDaylight d)
      | none => refuse .outOfRange) := by
  match payload, length with
  | [], length => simp at length
  | n :: rest, length => exact if_pos length

theorem setPlanAnswer_length (payload : List Byte) (s : State) (low : 8 ≤ payload.length)
    (length : payload.length = 8 + 5 * ((payload.drop 7).headD 0).toNat) :
    ∃ settings steps, setPlanAnswer payload s = answerSetPlan (payload.headD 0) settings steps s := by
  match payload, low, length with
  | plan :: count :: ph :: pl :: mode :: onFail :: overrun :: n :: steps, _, length =>
    exact ⟨_, _, if_pos length⟩

theorem answerSetPlan_within (plan : Byte) (settings : Option PlanRecord) (steps : List Byte) (s : State)
    (within : plan.toNat ≤ 7) : ∃ a, answerSetPlan plan settings steps s = asConfiguration s a := by
  obtain ⟨p, read⟩ := readPlanNo_within within
  simp only [answerSetPlan, read]
  exact ⟨_, rfl⟩

/-- A setting without an index, of the right length, is a configuration command. -/
theorem answerOf_unindexed (kind tag : Byte) (payload : List Byte) (s : State)
    (setting : unindexedSettings.contains kind = true) (length : fixedLength kind = some payload.length)
    (adopt : s.partState = .adopt) : answerOf { kind, tag, payload } s = refuse .adopting := by
  have cases : kind = 0x12 ∨ kind = 0x13 ∨ kind = 0x16 ∨ kind = 0x17 ∨ kind = 0x18 ∨ kind = 0x19 := by
    simpa [unindexedSettings] using setting
  rcases cases with rfl | rfl | rfl | rfl | rfl | rfl
  · exact (setBudgetAnswer_of_length payload s (Option.some.inj length).symm).trans
      (asConfiguration_adopt s _ adopt)
  · match payload, length with
    | [a, b], _ => exact asConfiguration_adopt s _ adopt
  · match payload, length with
    | [hi, lo], _ => exact asConfiguration_adopt s _ adopt
  · match payload, length with
    | [b], _ => exact asConfiguration_adopt s _ adopt
  · match payload, length with
    | [], _ => exact asConfiguration_adopt s _ adopt
  · match payload, length with
    | [], _ =>
      show commissionAnswer [] s = _
      simp only [commissionAnswer, withoutPayload, adopt]

/-- Settles O7: every configuration command of the right length and index is judged by `asConfiguration`, and
COMMISSION by the part state itself. -/
theorem settingsWaitForAdoption : Obligations.SettingsWaitForAdoption := by
  intro kind tag payload s adopt taken
  have waits : ∀ a, asConfiguration (leaveQueue s) a = refuse .adopting :=
    fun a => asConfiguration_adopt (leaveQueue s) a adopt
  refine ⟨fun setting length => ?_, fun k length within => ?_, fun k length within => ?_, fun k length => ?_,
    fun k low length within => ?_⟩
  · exact exec_refused kind tag payload _ s taken
      (answerOf_unindexed kind tag payload (leaveQueue s) setting length adopt)
  · subst k
    obtain ⟨_, answer⟩ := setComputerAnswer_within payload (leaveQueue s) length within
    exact takeCommand_refused _ tag payload _ _ s taken (answer.trans (waits _))
  · subst k
    obtain ⟨_, answer⟩ := setChannelAnswer_within payload (leaveQueue s) length within
    exact takeCommand_refused _ tag payload _ _ s taken (answer.trans (waits _))
  · subst k
    exact takeCommand_refused _ tag payload _ _ s taken
      ((setDaylightAnswer_length payload (leaveQueue s) length).trans (waits _))
  · subst k
    obtain ⟨settings, steps, answer⟩ := setPlanAnswer_length payload (leaveQueue s) low length
    obtain ⟨a, inner⟩ := answerSetPlan_within (payload.headD 0) settings steps (leaveQueue s) within
    exact takeCommand_refused _ tag payload _ _ s taken ((answer.trans inner).trans (waits _))

end Sys2Proof.Proofs
end


section
/-! SUPPORT. The report of an event as it reaches the outgoing list (R165, R166), and the commands whose effect
is one change of the state: STORE-CONFIG and the end of its write, COMMISSION, CLEAR-FAULT, FEED and the
queries. -/

namespace Sys2Proof.Proofs

open Sys2Proof.Machine Sys2Proof.Safety Sys2Proof.Laws

/-! ### Notices (R165, R166) -/

theorem noticeOf_eq (s : State) : noticeOf s = .eventNotice (latchedUnmasked s) := by
  simp only [noticeOf, latchedUnmasked, ← List.filterMap_eq_filter, List.map_filterMap]
  congr 2
  funext k
  simp only [Option.guard, Bool.and_eq_true, Bool.not_eq_true']
  split <;> rfl

/-- A report leaves of the port what it was but for the notice it may call for. -/
theorem latch_supervisory (k : EventKind) (item : Option Item) (s : State) :
    (latch k item s).supervisory =
      { s.supervisory with outgoing := noticeAfter (eventIndex k) s (latch k item s) } := by
  have silent : noticeOf (latch k item s) =
      .eventNotice (latchedUnmasked { s with events := s.events.set (eventIndex k) { latched := true, item } }) := by
    rw [noticeOf_eq, latch_eq]
    rfl
  simp only [noticeAfter, silent]
  simp only [latch, Bool.or_eq_true]
  split
  · rfl
  · simp only [callNotice]
    split <;> rfl

/-- What a report leaves on the outgoing list depends on the event unit and that list alone. -/
theorem noticeAfter_congr (i : Fin 16) {s s' t t' : State} (before : s'.events = s.events) (cfg : s'.cfg = s.cfg)
    (line : s'.supervisory = s.supervisory) (after : t'.events = t.events) (cfgAfter : t'.cfg = t.cfg) :
    noticeAfter i s' t' = noticeAfter i s t := by
  simp only [noticeAfter, noticeOf, before, cfg, line, after, cfgAfter]

/-! ### STORE-CONFIG (R177, R178) -/

theorem storeConfigAnswer_idle (s : State) (open_ : Configurable s) (idle : s.store.writing = none) :
    storeConfigAnswer [] s = accept beginWrite := by
  simp only [storeConfigAnswer, withoutPayload, asConfiguration_open s _ open_, idle, Option.isSome_none,
    Bool.false_eq_true, if_false]

theorem storeConfigAnswer_busy (s : State) (open_ : Configurable s) (busy : s.store.writing.isSome = true) :
    storeConfigAnswer [] s = refuse .busy := by
  simp only [storeConfigAnswer, withoutPayload, asConfiguration_open s _ open_, busy, if_true]

theorem exec_storeWriteCompletion (ok : Bool) (image : StoredImage) (s : State) (live : s.held = false)
    (writing : s.store.writing = some image) :
    exec (.storeWriteCompletion ok) s = .next (writeEnds ok image s) := by
  show execStoreWriteCompletion ok s = _
  rw [execStoreWriteCompletion, whenLive_live _ _ live]
  simp only [writing]

/-- Settles O15: the command is judged by `asConfiguration` and the write in flight; either end of the write is
a change of the store under one report. -/
theorem storeWritesTheSnapshot : Obligations.StoreWritesTheSnapshot := by
  refine ⟨fun tag s open_ taken => ⟨fun idle => ?_, fun busy => ?_⟩, fun tag s adopt taken => ?_,
    fun s live image writing => ⟨?_, ?_⟩⟩
  · exact takeCommand_accepted _ _ _ _ _ _ taken (storeConfigAnswer_idle (leaveQueue s) open_ idle)
  · exact takeCommand_refused _ _ _ _ _ _ taken (storeConfigAnswer_busy (leaveQueue s) open_ busy)
  · exact takeCommand_refused _ _ _ _ _ _ taken (asConfiguration_adopt (leaveQueue s) _ adopt)
  · exact ⟨_, exec_storeWriteCompletion true image s live writing, by rw [writeEnds, if_pos rfl, latch_eq],
      latch_latched .storeDone none _, by rw [writeEnds, if_pos rfl, latch_eq], latch_supervisory .storeDone none _⟩
  · exact ⟨_, exec_storeWriteCompletion false image s live writing, by rw [writeEnds, if_neg nofun, latch_eq],
      latch_latched .storeFailed none _, by rw [writeEnds, if_neg nofun, latch_eq],
      latch_supervisory .storeFailed none _⟩

/-! ### COMMISSION (R179) -/

theorem firstInconsistent_none (s : State) (all : ∀ c : Chan, channelConsistent s c = true) :
    firstInconsistent s = none := by
  simp [firstInconsistent, all]

/-- The first element of an ascending list that passes a test is the one below which none does. -/
theorem find?_first {n : Nat} {p : Fin n → Bool} (c : Fin n) (found : p c = true)
    (below : ∀ d : Fin n, d < c → p d = false) : (List.finRange n).find? p = some c := by
  refine List.find?_eq_some_iff_getElem.mpr ⟨found, c.val, by simp, by simp, fun j low => ?_⟩
  simp [below ⟨j, low.trans c.isLt⟩ low]

theorem firstInconsistent_some (s : State) (c : Chan) (bad : channelConsistent s c = false)
    (below : ∀ d : Chan, d < c → channelConsistent s d = true) : firstInconsistent s = some c :=
  find?_first c (by simp [bad]) fun d low => by simp [below d low]

theorem anyUsed_of (s : State) (used : ∃ c : Chan, isUsed s c = true) : anyUsed s = true := by
  obtain ⟨c, used⟩ := used
  exact List.any_eq_true.mpr ⟨c, List.mem_finRange c, used⟩

/-- With a used channel the entry to ADOPT sends the POLL-ALL and starts the adoption timer (R180). -/
theorem enterAdopt_used (s : State) (used : ∃ c : Chan, isUsed s c = true) :
    enterAdopt s = { s with
      partState := .adopt, adoptionTimer := some (s.now + 2000)
      field := { s.field with period := some (s.now + 500), line := pollAllBytes } } :=
  if_pos (anyUsed_of s used)

/-- Settles O16: the checks of R179 decide the answer, and the effect is the entry to ADOPT. -/
theorem commissionEntersAdopt : Obligations.CommissionEntersAdopt := by
  intro tag s unconfigured taken
  have waits : (leaveQueue s).partState = .unconfigured := unconfigured
  refine ⟨fun all caps used => ?_, fun c bad below => ?_, fun all caps => ?_⟩
  · have answer : commissionAnswer [] (leaveQueue s) = accept applyCommission := by
      simp only [commissionAnswer, withoutPayload, waits, firstInconsistent_none (leaveQueue s) all]
      exact if_neg (Nat.not_lt.mpr caps)
    refine (takeCommand_accepted _ _ _ _ _ _ taken answer).trans ?_
    exact congrArg Host.Outcome.next (enterAdopt_used { repliedOk 0x19 tag s with commissioned := true } used)
  · have answer : commissionAnswer [] (leaveQueue s) = refuseAt .refusedState (.channel c) := by
      simp only [commissionAnswer, withoutPayload, waits, firstInconsistent_some (leaveQueue s) c bad below]
    refine (takeCommand_taken _ _ _ _ _ taken).trans ?_
    rw [answer]
    rfl
  · have answer : commissionAnswer [] (leaveQueue s) = refuseAt .refusedState .budget := by
      simp only [commissionAnswer, withoutPayload, waits, firstInconsistent_none (leaveQueue s) all]
      exact if_pos caps
    refine (takeCommand_taken _ _ _ _ _ taken).trans ?_
    rw [answer]
    rfl

/-! ### Orders of one byte -/

/-- An order for a slot is answered in RUN by what its answer for that slot is. -/
theorem withSlot_order (k : Slot) (s : State) (a : Slot → Answer) (run : s.partState = .run) :
    withSlot (b1 k.val) (fun k => asOrder s (a k)) = a k := by
  simp only [withSlot, b1, readSlot_byteOf, asOrder_run s _ run]

theorem withChannel_order (c : Chan) (s : State) (a : Chan → Answer) (run : s.partState = .run) :
    withChannel (b1 c.val) (fun c => asOrder s (a c)) = a c := by
  simp only [withChannel, b1, readChan_byteOf, asOrder_run s _ run]

/-! ### CLEAR-FAULT (R18) -/

theorem clearFaultAnswer_run (c : Chan) (s : State) (run : s.partState = .run) :
    clearFaultAnswer (b1 c.val) s =
      if isUsed s c then (if s.channels[c].driveFault then accept (clearDriveFault c) else accept id)
      else refuse .refusedState :=
  withChannel_order c s _ run

/-- A channel whose drive fault is cleared becomes counted where its owner, adoption and force allow (R21). -/
theorem clearDriveFault_set (c : Chan) (s : State) (fault : s.channels[c].driveFault = true) :
    clearDriveFault c s = { s with channels := s.channels.set c { s.channels[c] with
      driveFault := false
      matchCount := if s.cfg.channels[c].owner.isSome = true ∧ s.channels[c].adopted = true ∧
        s.channels[c].forced = none then 0 else s.channels[c].matchCount } } := by
  have counts : (!countedRecord s.cfg.channels[c].owner.isSome s.channels[c] &&
      countedRecord s.cfg.channels[c].owner.isSome { s.channels[c] with driveFault := false }) =
      decide (s.cfg.channels[c].owner.isSome = true ∧ s.channels[c].adopted = true ∧ s.channels[c].forced = none) := by
    simp only [countedRecord, fault, Bool.not_true, Bool.and_false, Bool.false_and, Bool.not_false, Bool.and_true,
      Bool.true_and, Bool.decide_and, Bool.decide_eq_true, ← Option.isNone_iff_eq_none, Bool.and_assoc]
  simp only [clearDriveFault, updRecount, updChannel, counts, decide_eq_true_eq]
  split <;> rfl

/-- Settles O22: the answer asks for the used condition, then the flag. -/
theorem clearFaultClears : Obligations.ClearFaultClears := by
  intro tag c s run taken
  have answer := clearFaultAnswer_run c (leaveQueue s) run
  refine ⟨fun used fault => ?_, fun used clear => ?_, fun unused => ?_⟩
  · have accepted : clearFaultAnswer (b1 c.val) (leaveQueue s) = accept (clearDriveFault c) :=
      answer.trans ((if_pos used).trans (if_pos fault))
    refine ⟨_, takeCommand_accepted _ _ _ _ _ _ taken accepted, ?_, ?_⟩
    · rw [clearDriveFault_set c (repliedOk 0x36 tag s) fault]
      simp only [Fin.getElem_fin, Vector.getElem_set_self]
      rfl
    · rw [clearDriveFault_set c (repliedOk 0x36 tag s) fault]
      exact Vector.getElem_set_self _
  · have accepted : clearFaultAnswer (b1 c.val) (leaveQueue s) = accept id :=
      answer.trans ((if_pos used).trans (if_neg (Bool.eq_false_iff.mp clear)))
    exact takeCommand_accepted _ _ _ _ _ _ taken accepted
  · exact takeCommand_refused _ _ _ _ _ _ taken (answer.trans (if_neg (Bool.eq_false_iff.mp unused)))

/-! ### FEED (R30) -/

/-- The code of a feed state reads back as that state. -/
theorem readFeed_code (b : Byte) (f : FeedState) (code : b.toNat = (match f with | .both => 0 | .single => 1)) :
    readFeed b = some f := by
  cases f <;> simp only [readFeed, code]

/-- Settles O27: the code is read first; the same feed state changes nothing, the other clamps credit. -/
theorem feedClampsCredit : Obligations.FeedClampsCredit := by
  refine fun tag b s taken => ⟨fun above => ?_, fun f code run => ?_⟩
  · refine takeCommand_refused _ _ _ _ _ _ taken ?_
    simp only [feedAnswer, readFeed_above b above]
  · have answer : feedAnswer [b] (leaveQueue s) = accept (setFeed f) := by
      simp only [feedAnswer, readFeed_code b f code]
      exact asOrder_run (leaveQueue s) _ run
    have done := takeCommand_accepted _ _ _ _ _ _ taken answer
    refine ⟨fun same => done.trans ?_, fun other => done.trans ?_⟩
    · exact congrArg Host.Outcome.next (if_pos same.symm)
    · refine (congrArg Host.Outcome.next (if_neg fun same => other same.symm)).trans ?_
      cases f <;> rfl

/-! ### Queries (R24, R41, R57, R73, R121, R153) -/

/-- Settles O29: each query is answered with its data, and only GET-COMPUTER has an effect. -/
theorem queriesReadOnly : Obligations.QueriesReadOnly := by
  refine fun tag k c s => ⟨fun taken => ?_, fun taken => ?_, fun taken => ?_, fun taken => ?_, fun taken => ?_,
    fun taken => ?_⟩
  · have answer : getComputerAnswer (b1 k.val) (leaveQueue s) =
        answerData (computerData (leaveQueue s) k) (clearReportLost k) := by
      simp only [getComputerAnswer, withSlot, b1, readSlot_byteOf]
    refine (takeCommand_taken _ _ _ _ _ taken).trans ?_
    rw [answer]
    rfl
  · have answer : getChannelAnswer (b1 c.val) (leaveQueue s) = answerData (channelData (leaveQueue s) c) id := by
      simp only [getChannelAnswer, withChannel, b1, readChan_byteOf]
    refine (takeCommand_taken _ _ _ _ _ taken).trans ?_
    rw [answer]
    rfl
  · exact takeCommand_answered _ _ (getBudgetAnswer []) _ id _ taken rfl
  · exact takeCommand_answered _ _ (getWaitListAnswer []) _ id _ taken rfl
  · exact takeCommand_answered _ _ (getPlanStatusAnswer []) _ id _ taken rfl
  · exact takeCommand_answered _ _ (getDaylightAnswer []) _ id _ taken rfl

end Sys2Proof.Proofs
end


section
/-! SUPPORT. The end of a plan (R118, R148), the rows of a restart request (R110), rows that act in RUN only
(R63), and the next POLL of the field line (R13). -/

namespace Sys2Proof.Proofs

open Sys2Proof.Machine Sys2Proof.Safety Sys2Proof.Laws

/-! ### The end of a plan (R148) -/

/-- The executor as the end of a plan leaves it. -/
def endedExecutor (result : PlanResult) (x : Executor) : Executor :=
  { x with
    state := .idle, step := none, pendingStop := .none, stretched := false
    watch := { outcome := none, ordered := false, resumed := false }
    lastResult := result, passTimer := none, stepTimer := none }

theorem endPlan_eq (p : PlanNo) (result : PlanResult) (s : State) :
    endPlan p result s = latch (resultEvent result) none
      { dropPlan p s with executor := endedExecutor result s.executor } := rfl

theorem endPlan_executor (p : PlanNo) (result : PlanResult) (s : State) :
    (endPlan p result s).executor = endedExecutor result s.executor := by
  rw [endPlan_eq, latch_executor]

theorem endPlan_contexts (p : PlanNo) (result : PlanResult) (s : State) :
    (endPlan p result s).contexts = s.contexts := by
  rw [endPlan_eq, latch_contexts]
  rfl

theorem endPlan_ports (p : PlanNo) (result : PlanResult) (s : State) : (endPlan p result s).ports = s.ports := by
  rw [endPlan_eq, latch_ports]
  rfl

theorem endPlan_events (p : PlanNo) (result : PlanResult) (s : State) :
    (endPlan p result s).events = s.events.set (eventIndex (resultEvent result)) { latched := true, item := none } := by
  rw [endPlan_eq, latch_events]
  rfl

/-- No PLAN entry names a plan that has ended (R118). -/
theorem endPlan_waits (p : PlanNo) (result : PlanResult) (s : State) :
    ∀ e ∈ (endPlan p result s).window.waitList, e.source = .plan → e.plan ≠ some p := by
  rw [endPlan_eq, latch_window]
  intro e mem source named
  obtain ⟨x, -, rfl⟩ := List.mem_map.mp (show e ∈ List.map _ (List.filter _ s.window.waitList) from mem)
  by_cases own : (x.source == .plan && x.plan == some p) = true
  · rw [if_pos own] at source
    nomatch source
  · rw [if_neg own] at source named
    exact own (by simp [source, named])

/-- Settles O24: the mode and the executor's state decide; NOW ends the plan as R148 does. -/
theorem planStopEnds : Obligations.PlanStopEnds := by
  intro tag s run
  have answered (b : Byte) (m : Bool) (read : readStopMode b = some m) :
      planStopAnswer [b] (leaveQueue s) = answerPlanStop m (leaveQueue s) := by
    simp only [planStopAnswer, read]
    exact asOrder_run (leaveQueue s) _ run
  refine ⟨fun p taken busy plan => ?_, fun taken running => ?_, fun b low taken idle => ?_⟩
  · have answer : planStopAnswer [0] (leaveQueue s) = accept (endExecuting .abortedStop) :=
      (answered 0 false rfl).trans ((if_neg busy).trans (if_neg nofun))
    have ends : endExecuting .abortedStop (repliedOk 0x38 tag s) =
        endPlan p .abortedStop (repliedOk 0x38 tag s) := by
      simp only [endExecuting, show (repliedOk 0x38 tag s).executor.plan = some p from plan]
    refine ⟨_, (takeCommand_accepted _ _ _ _ _ _ taken answer).trans (congrArg _ ends), ?_, ?_, ?_, ?_, ?_⟩
    · rw [endPlan_contexts]
      rfl
    · rw [endPlan_ports]
      rfl
    · rw [endPlan_executor]
      rfl
    · exact endPlan_waits p _ _
    · exact latch_latched .planAborted none _
  · have answer : planStopAnswer [1] (leaveQueue s) = accept stopAtPassEnd :=
      (answered 1 true rfl).trans ((if_neg fun idle : s.executor.state = .idle =>
        nomatch running.symm.trans idle).trans (if_pos rfl))
    refine (takeCommand_accepted _ _ _ _ _ _ taken answer).trans ?_
    simp only [stopAtPassEnd, show (repliedOk 0x38 tag s).executor.state = .running from running]
    rfl
  · obtain ⟨m, read⟩ := readStopMode_within low
    exact takeCommand_refused _ _ _ _ _ _ taken ((answered b m read).trans (if_pos idle))

/-! ### Restart requests (R110) -/

/-- The conditions of the last two rows of R110: a bore without room, or with entries before this one. -/
theorem requestRow_append (k : Slot) (s : State) (idle : s.contexts[k].inProgress = false)
    (absent : isWaiting s k = false) (present : s.contexts[k].state ≠ .vacant)
    (full : limitOf s (boreOf s k) ≤ countOf s (boreOf s k) ∨ boreWaits s (boreOf s k) = true) :
    requestRow s k = .append := by
  unfold requestRow
  rw [if_neg (Bool.eq_false_iff.mp idle), if_neg (Bool.eq_false_iff.mp absent), if_neg present, if_neg]
  rintro ⟨room, free⟩
  rcases full with full | waits
  · exact Nat.not_lt.mpr full room
  · exact Bool.eq_false_iff.mp free waits

theorem requestRow_issue (k : Slot) (s : State) (idle : s.contexts[k].inProgress = false)
    (absent : isWaiting s k = false) (present : s.contexts[k].state ≠ .vacant)
    (room : countOf s (boreOf s k) < limitOf s (boreOf s k)) (free : boreWaits s (boreOf s k) = false) :
    requestRow s k = .issue := by
  unfold requestRow
  rw [if_neg (Bool.eq_false_iff.mp idle), if_neg (Bool.eq_false_iff.mp absent), if_neg present, if_pos ⟨room, free⟩]

theorem takeRequest_append (r : Requester) (k : Slot) (s : State) (row : requestRow s k = .append) :
    takeRequest r k s =
      latch .windowWait (some (.slot k)) (setWaitList (s.window.waitList ++ [newEntry r k s]) s) := by
  simp only [takeRequest, row]

theorem takeRequest_issue (r : Requester) (k : Slot) (s : State) (row : requestRow s k = .issue) :
    takeRequest r k s = issueOrder k s := by
  simp only [takeRequest, row]

theorem restartAnswer_run (k : Slot) (s : State) (run : s.partState = .run) :
    restartAnswer (b1 k.val) s = answerRestart k s :=
  withSlot_order k s (fun k => answerRestart k s) run

/-- The answer to a RESTART in RUN by the row that it finds (R113). -/
theorem answerRestart_rows (k : Slot) (s : State) :
    (requestRow s k = .inProgress → answerRestart k s = refuse .already) ∧
    (requestRow s k = .vacant → answerRestart k s = refuse .refusedState) ∧
    (requestRow s k = .issue → answerRestart k s = accept (takeRequest .supervisor k)) ∧
    (requestRow s k = .append → answerRestart k s = acceptQueued (takeRequest .supervisor k)) := by
  refine ⟨fun row => ?_, fun row => ?_, fun row => ?_, fun row => ?_⟩ <;> simp only [answerRestart, row]

theorem takeCommand_queued (kind tag : Byte) (payload : List Byte) (answer : State → Answer) (f : State → State)
    (s : State) (h : Taken kind tag payload s) (a : answer (leaveQueue s) = acceptQueued f) :
    takeCommand { kind, tag, payload } answer s = .next (f (replied kind tag .queued .absent [] s)) := by
  rw [takeCommand_taken _ _ _ _ _ h, a]
  rfl

/-- Settles O18: the row of R110 that the request finds decides its reply, and CANCEL-RESTART asks for the
entry before the flag. -/
theorem waitingRestarts : Obligations.WaitingRestarts := by
  refine ⟨fun tag k s run taken => ?_, fun tag k s run taken => ?_⟩
  · have answered := restartAnswer_run k (leaveQueue s) run
    obtain ⟨inProgress, vacantRow, -, append⟩ := answerRestart_rows k (leaveQueue s)
    refine ⟨fun busy => ?_, fun idle absent vacant => ?_, fun idle absent present full => ?_⟩
    · exact takeCommand_refused _ _ _ _ _ _ taken
        (answered.trans (inProgress (requestRow_inProgress k (leaveQueue s) busy)))
    · exact takeCommand_refused _ _ _ _ _ _ taken
        (answered.trans (vacantRow (requestRow_vacant k (leaveQueue s) idle absent vacant)))
    · have queued := takeCommand_queued _ _ _ _ _ _ taken
        (answered.trans (append (requestRow_append k (leaveQueue s) idle absent present (.inl full))))
      rw [takeRequest_append .supervisor k (replied 0x30 tag .queued .absent [] s)
        (requestRow_append k _ idle absent present (.inl full))] at queued
      exact ⟨_, queued, latch_contexts .., latch_ports .., latch_window .., latch_latched .windowWait _ _,
        (latch_moves ..).replies.trans (repliesOf_reply ..)⟩
  · have answered : cancelRestartAnswer (b1 k.val) (leaveQueue s) = answerCancel k (leaveQueue s) :=
      withSlot_order k (leaveQueue s) (fun k => answerCancel k (leaveQueue s)) run
    refine ⟨fun waits => ?_, fun absent busy => ?_, fun absent idle => ?_⟩
    · exact takeCommand_accepted _ _ _ _ _ _ taken (answered.trans (if_pos waits))
    · exact takeCommand_refused _ _ _ _ _ _ taken
        (answered.trans ((if_neg (Bool.eq_false_iff.mp absent)).trans (if_pos busy)))
    · exact takeCommand_accepted _ _ _ _ _ _ taken
        (answered.trans ((if_neg (Bool.eq_false_iff.mp absent)).trans (if_neg (Bool.eq_false_iff.mp idle))))

/-! ### Rows of the computer lines (R63) -/

theorem whenLive_inRun (f : State → State) (s : State) (live : s.held = false) (run : s.partState = .run) :
    whenLive (inRun f) s = .next (f s) := by
  rw [whenLive_live _ _ live, inRun, if_pos run]

theorem whenLive_notInRun (f : State → State) (s : State) (live : s.held = false) (still : s.partState ≠ .run) :
    whenLive (inRun f) s = .next s := by
  rw [whenLive_live _ _ live, inRun, if_neg still]

/-- Settles O34: the states named are those of the last alternative of DEMAND. -/
theorem unwantedDemandIsDiscarded : Obligations.UnwantedDemandIsDiscarded := by
  refine fun k seq h pairs s live => ⟨fun run track control lost => ?_, whenLive_notInRun _ s live⟩
  refine (whenLive_inRun _ s live run).trans (congrArg Host.Outcome.next ?_)
  have discards : expectAfter k seq (count .reportsDiscarded s) = { s with
      counter := countedOnce .reportsDiscarded s
      ports := s.ports.set k { s.ports[k] with expectation := some ((seq + 1) % 256) } } := by
    rw [count_eq]
    rfl
  cases state : s.contexts[k].state
  case track => exact absurd state track
  case control => exact absurd state control
  case lost => exact absurd state lost
  all_goals exact discards

/-! ### The field line (R13) -/

/-- What a search of the channels finds is the lowest that passes. -/
theorem find?_lowest {n : Nat} {p : Fin n → Bool} {c : Fin n} (h : (List.finRange n).find? p = some c) :
    p c = true ∧ ∀ d : Fin n, p d = true → c ≤ d := by
  obtain ⟨found, i, low, rfl, below⟩ := List.find?_eq_some_iff_getElem.mp h
  refine ⟨found, fun d pass => Nat.not_lt.mp fun less => ?_⟩
  have small : d.val < i := by simpa using less
  have fails := below d.val small
  simp [pass] at fails

/-- The next of a rotation is the lowest at or above the position, or the lowest of all where none is. -/
theorem nextPolled_some (visit : Chan → Bool) (position : Nat) (some_ : ∃ c : Chan, visit c = true) :
    ∃ c, nextPolled visit position = some c ∧ visit c = true ∧
      (∀ d : Chan, visit d = true → position ≤ d.val → position ≤ c.val ∧ c ≤ d) ∧
      (c.val < position → ∀ d : Chan, visit d = true → c ≤ d) := by
  unfold nextPolled
  split
  next c found =>
    obtain ⟨pass, lowest⟩ := find?_lowest found
    simp only [Bool.and_eq_true, decide_eq_true_eq] at pass lowest
    exact ⟨c, rfl, pass.1, fun d visited above => ⟨pass.2, lowest d ⟨visited, above⟩⟩,
      fun below => absurd pass.2 (Nat.not_le.mpr below)⟩
  next none =>
    have beyond : ∀ d : Chan, visit d = true → ¬position ≤ d.val := fun d visited above => by
      have := List.find?_eq_none.mp none d (List.mem_finRange d)
      simp [visited, above] at this
    obtain ⟨w, visited⟩ := some_
    cases found : allChannels.find? visit with
    | none => exact absurd visited (List.find?_eq_none.mp found w (List.mem_finRange w))
    | some c =>
      obtain ⟨pass, lowest⟩ := find?_lowest found
      exact ⟨c, rfl, pass, fun d visited above => absurd above (beyond d visited), fun _ => lowest⟩

/-- In RUN the head of the send list goes out first. -/
theorem sendRecord_head (r : SetRecord) (rest : List SetRecord) (s : State) (run : s.partState = .run)
    (list : s.field.sendList = r :: rest) :
    sendRecord s = { s with field := { s.field with sendList := rest, line := setBytes r } } := by
  unfold sendRecord
  split
  next other => nomatch run.symm.trans other
  next other => nomatch run.symm.trans other
  next =>
    split
    next found =>
      obtain ⟨rfl, rfl⟩ := List.cons.inj (list.symm.trans found)
      rfl
    next empty => nomatch list.symm.trans empty

theorem sendRecord_poll (s : State) (run : s.partState = .run) (empty : s.field.sendList = []) :
    sendRecord s = pollNext (isUsed s) s := by
  unfold sendRecord
  split
  next other => nomatch run.symm.trans other
  next other => nomatch run.symm.trans other
  next =>
    split
    next found => nomatch empty.symm.trans found
    next => rfl

/-- Settles O43: the row sends by `sendRecord` in RUN, where no window and no period runs. -/
theorem fieldLineSendsNext : Obligations.FieldLineSendsNext := by
  rintro s ⟨live, run⟩
  have row : exec .fieldLineFree s =
      .next (if s.field.window.isSome ∨ s.field.period.isSome then s else sendRecord s) := by
    show execFieldLineFree s = _
    rw [execFieldLineFree, whenLive_live _ _ live]
  refine ⟨fun window period => ?_, fun busy => row.trans (congrArg _ (if_pos busy))⟩
  have sends : exec .fieldLineFree s = .next (sendRecord s) :=
    row.trans (congrArg _ (if_neg (by simp [window, period])))
  rw [sends]
  refine ⟨fun r rest list => congrArg _ (sendRecord_head r rest s run list), fun empty used => ?_⟩
  obtain ⟨c, next, pass, above, below⟩ := nextPolled_some (isUsed s) s.field.next used
  refine ⟨c, pass, congrArg _ ((sendRecord_poll s run empty).trans ?_), above, below⟩
  simp only [pollNext, next]
  rfl

end Sys2Proof.Proofs
end


section
/-! SUPPORT. What a derivation sets and leaves (R4 to R6), and what each operation of the handover controller on
one slot does to that slot's context, its port and its channels, and leaves of everything else (R78). -/

namespace Sys2Proof.Proofs

open Sys2Proof.Machine Sys2Proof.Safety Sys2Proof.Laws

/-! ### Modes and targets under a serving -/

/-- A serving sets no mode and no target. -/
theorem serveQueue_settings : ∀ (q : List AdmissionEntry) (s : State) (c : Chan),
    (serveQueue q s).channels[c].mode = s.channels[c].mode ∧
    (serveQueue q s).channels[c].target = s.channels[c].target
  | [], _, _ => ⟨rfl, rfl⟩
  | e :: rest, s, c => by
    have grant : ∀ g, (applyGrant e.channel g s).channels[c].mode = s.channels[c].mode ∧
        (applyGrant e.channel g s).channels[c].target = s.channels[c].target := fun g => by
      rw [applyGrant_get]
      split <;> exact ⟨rfl, rfl⟩
    unfold serveQueue
    split
    case isFalse => exact ⟨rfl, rfl⟩
    case isTrue =>
      dsimp only
      split
      · obtain ⟨mode, target⟩ :=
          serveQueue_settings rest (applyGrant e.channel (grantSize s e.channel e.wanted) s) c
        exact ⟨mode.trans (grant _).1, target.trans (grant _).2⟩
      · rw [count_eq]
        exact grant _

theorem followTarget_settings (c d : Chan) (s : State) :
    (followTarget c s).channels[d].mode = s.channels[d].mode ∧
    (followTarget c s).channels[d].target = s.channels[d].target := by
  unfold followTarget
  split
  · exact ⟨rfl, rfl⟩
  · dsimp only
    split
    · exact ⟨rfl, rfl⟩
    · split
      · split
        · exact serveQueue_settings _ _ d
        · exact ⟨rfl, rfl⟩
      · exact ⟨rfl, rfl⟩

/-- A derivation sets the mode and the target of its channel and of no other. -/
theorem deriveFrom_settings (was : Option ChannelMode) (c d : Chan) (s : State) :
    (deriveFrom was c s).channels[d].mode = (if d = c then modeOf s c else s.channels[d].mode) ∧
    (deriveFrom was c s).channels[d].target =
      if d = c then targetOf s c (modeOf s c) was else s.channels[d].target := by
  unfold deriveFrom
  dsimp only
  obtain ⟨mode, target⟩ := followTarget_settings c d
    (updChannel c (fun ch => { ch with mode := modeOf s c, target := targetOf s c (modeOf s c) was }) s)
  rw [mode, target, updChannel_get]
  split <;> exact ⟨rfl, rfl⟩

/-- The mode depends on the channel's flags, its owner and that slot's context. -/
theorem modeOf_moves {s t : State} (h : PlantMoves s t) (c : Chan) : modeOf t c = modeOf s c := by
  simp only [modeOf, (h.flags c).adopted, (h.flags c).forced, h.cfg, h.contexts]

theorem deriveEach_cons (c : Chan) (cs : List Chan) (s : State) :
    deriveEach (c :: cs) s = deriveEach cs (derive c s) := rfl

theorem deriveEach_mode (d : Chan) : ∀ (cs : List Chan) (s : State),
    (deriveEach cs s).channels[d].mode = if d ∈ cs then modeOf s d else s.channels[d].mode
  | [], _ => (if_neg List.not_mem_nil).symm
  | c :: cs, s => by
    rw [deriveEach_cons, deriveEach_mode d cs (derive c s), modeOf_moves (derive_plant c s),
      derive, (deriveFrom_settings _ c d s).1]
    by_cases own : d = c
    · subst own
      simp
    · simp [own]

theorem deriveEach_target_other (d : Chan) : ∀ (cs : List Chan) (s : State), d ∉ cs →
    (deriveEach cs s).channels[d].target = s.channels[d].target
  | [], _, _ => rfl
  | c :: cs, s, away => by
    obtain ⟨own, rest⟩ := List.ne_and_not_mem_of_not_mem_cons away
    rw [deriveEach_cons, deriveEach_target_other d cs (derive c s) rest, derive, (deriveFrom_settings _ c d s).2,
      if_neg own]

/-- A target that no operation of the plant can move is what some derivations leave. -/
theorem deriveEach_target (d : Chan) (v : Option Nat) (cs : List Chan) (s : State) (mem : d ∈ cs)
    (steady : ∀ t, PlantMoves s t → targetOf t d (modeOf t d) (frozenNow t d) = v) :
    (deriveEach cs s).channels[d].target = v := by
  induction cs generalizing s with
  | nil => nomatch mem
  | cons c cs ih =>
    rw [deriveEach_cons]
    by_cases later : d ∈ cs
    · exact ih (derive c s) later fun t h => steady t ((derive_plant c s).trans h)
    · obtain rfl : d = c := (List.mem_cons.mp mem).resolve_right later
      rw [deriveEach_target_other d cs _ later, derive, (deriveFrom_settings _ d d s).2, if_pos rfl]
      exact steady s (PlantMoves.refl s)

/-- The target of an unfrozen channel in FALLBACK (R47). -/
theorem targetOf_daylight (s : State) (c : Chan) (was : Option ChannelMode)
    (kind : s.cfg.channels[c].fallbackKind = .daylight) :
    targetOf s c .fallback was = some (stageLevel s * s.cfg.channels[c].zoneFactor / 1000) := by
  simp only [targetOf, kind]

theorem targetOf_fixed (s : State) (c : Chan) (was : Option ChannelMode)
    (kind : s.cfg.channels[c].fallbackKind = .fixed) :
    targetOf s c .fallback was = some s.cfg.channels[c].fallbackValue := by
  simp only [targetOf, kind]

/-- A slot whose state leaves its channels in FALLBACK gives that mode. -/
theorem ownerMode_fallback (s : State) (owner : Option Slot) (leaves : leavesFallback s owner = true) :
    (match owner with | none => ChannelMode.fallback | some k => ownerMode s.contexts[k]) = .fallback := by
  cases owner with
  | none => rfl
  | some k =>
    simp only [leavesFallback, Fin.getElem_fin] at leaves
    cases state : s.contexts[k].state <;> simp_all [ownerMode]

theorem modeOf_fallback (s : State) (c : Chan) (adopted : s.channels[c].adopted = true)
    (free : s.channels[c].forced = none) (leaves : leavesFallback s s.cfg.channels[c].owner = true) :
    modeOf s c = .fallback := by
  unfold modeOf
  rw [if_pos adopted, if_neg (by rw [free]; nofun)]
  exact ownerMode_fallback s _ leaves

/-! ### Derivations while nothing waits for credit -/

theorem followTarget_quiet (c : Chan) (s : State) (empty : s.admission.queue = []) : followTarget c s = s := by
  have kept : withdraw c s = s := by
    have : s.admission.queue.filter (·.channel != c) = s.admission.queue := by rw [empty]; rfl
    rw [withdraw, this]
    rfl
  have none : entryOf s c = none := by rw [entryOf, empty]; rfl
  unfold followTarget
  rw [kept, none]
  split
  · rfl
  · exact ite_self s

/-- With an empty admission queue a derivation sets its channel's mode and target and nothing else. -/
theorem deriveFrom_quiet (was : Option ChannelMode) (c : Chan) (s : State) (empty : s.admission.queue = []) :
    deriveFrom was c s =
      updChannel c (fun ch => { ch with mode := modeOf s c, target := targetOf s c (modeOf s c) was }) s :=
  followTarget_quiet c _ empty

/-- An operation leaves the counter, the admission unit and the field send list, where no request waits. -/
def QuietMoves (s t : State) : Prop :=
  s.admission.queue = [] → t.admission = s.admission ∧ t.field = s.field ∧ t.counter = s.counter

theorem QuietMoves.refl (s : State) : QuietMoves s s := fun _ => ⟨rfl, rfl, rfl⟩

theorem QuietMoves.trans {s t u : State} (h : QuietMoves s t) (g : QuietMoves t u) : QuietMoves s u := fun empty => by
  obtain ⟨admission, field, counter⟩ := h empty
  obtain ⟨admission', field', counter'⟩ := g (by rw [admission, empty])
  exact ⟨admission'.trans admission, field'.trans field, counter'.trans counter⟩

theorem derive_quiet (c : Chan) (s : State) : QuietMoves s (derive c s) := fun empty => by
  rw [derive, deriveFrom_quiet _ c s empty]
  exact ⟨rfl, rfl, rfl⟩

theorem deriveEach_quiet (cs : List Chan) (s : State) : QuietMoves s (deriveEach cs s) :=
  foldl_moves QuietMoves.refl QuietMoves.trans _ (fun s c => derive_quiet c s) cs s

/-! ### What an operation on one slot leaves -/

/-- An operation of the handover controller reaches neither the window unit nor the executor nor the event
unit. -/
structure ControllerMoves (s t : State) : Prop extends ComputerMoves s t where
  window : t.window = s.window
  executor : t.executor = s.executor
  events : t.events = s.events
  supervisory : t.supervisory = s.supervisory

theorem ControllerMoves.refl (s : State) : ControllerMoves s s := ⟨.refl s, rfl, rfl, rfl, rfl⟩

theorem ControllerMoves.trans {s t u : State} (h : ControllerMoves s t) (g : ControllerMoves t u) :
    ControllerMoves s u :=
  ⟨h.toComputerMoves.trans g.toComputerMoves, g.window.trans h.window, g.executor.trans h.executor,
    g.events.trans h.events, g.supervisory.trans h.supervisory⟩

/-- An operation of the handover controller on slot `k` reaches no other slot and port. -/
structure SlotMoves (k : Slot) (s t : State) : Prop extends ControllerMoves s t where
  contexts : ∀ j : Slot, j ≠ k → t.contexts[j] = s.contexts[j]
  ports : ∀ j : Slot, j ≠ k → t.ports[j] = s.ports[j]

theorem SlotMoves.refl (k : Slot) (s : State) : SlotMoves k s s := ⟨.refl s, fun _ _ => rfl, fun _ _ => rfl⟩

theorem SlotMoves.trans {k : Slot} {s t u : State} (h : SlotMoves k s t) (g : SlotMoves k t u) : SlotMoves k s u :=
  ⟨h.toControllerMoves.trans g.toControllerMoves,
    fun j other => (g.contexts j other).trans (h.contexts j other),
    fun j other => (g.ports j other).trans (h.ports j other)⟩

theorem slotMoves_of_plant {s t : State} (k : Slot) (h : PlantMoves s t) : SlotMoves k s t :=
  ⟨⟨h.computer, h.window, h.executor, h.events, h.supervisory⟩, fun _ _ => by rw [h.contexts],
    fun _ _ => by rw [h.ports]⟩

theorem updContext_slot (k : Slot) (f : Context → Context) (s : State) : SlotMoves k s (updContext k f s) :=
  ⟨⟨updContext_moves k f s, rfl, rfl, rfl, rfl⟩, fun j other => updContext_other k j f s other, fun _ _ => rfl⟩

theorem updPort_slot (k : Slot) (f : Port → Port) (s : State) : SlotMoves k s (updPort k f s) :=
  ⟨⟨updPort_moves k f s, rfl, rfl, rfl, rfl⟩, fun _ _ => rfl, fun j other => updPort_other k j f s other⟩

theorem sendOrder_slot (k : Slot) (o : Order) (s : State) : SlotMoves k s (sendOrder k o s) := updPort_slot k _ s

theorem sendRestart_slot (k : Slot) (s : State) : SlotMoves k s (sendRestart k s) := sendOrder_slot k _ s

theorem deriveOwned_slot (k : Slot) (s : State) : SlotMoves k s (deriveOwned k s) :=
  slotMoves_of_plant k (deriveOwned_plant k s)

/-! ### A change of state (R78) -/

/-- A port as an entry to a state leaves it: the expectation and the report timer (R66, R68, R78). -/
def portEnters (old new : ComputerState) (deadline : Nat) (p : Port) : Port :=
  { p with
    expectation :=
      match new with
      | .settle | .join | .vacant => none
      | _ => p.expectation
    reportTimer := if reporting new then (if reporting old then p.reportTimer else some deadline) else none }

/-- Of a slot's channels an entry to SETTLE or JOIN forgets the demands. -/
def demandEnters (new : ComputerState) (own : Bool) (ch : ChannelRun) : ChannelRun :=
  match new with
  | .settle | .join => if own then { ch with demand := none } else ch
  | _ => ch

theorem clearDemands_get (k : Slot) (c : Chan) (s : State) :
    (clearDemands k s).channels[c] = if owns s k c then { s.channels[c] with demand := none } else s.channels[c] := by
  rw [clearDemands, mapChannels_get]

theorem forget_channel (k : Slot) (new : ComputerState) (c : Chan) (s : State) :
    (forget k new s).channels[c] = demandEnters new (owns s k c) s.channels[c] := by
  unfold forget demandEnters
  cases new
  case settle => exact clearDemands_get k c s
  case join => exact clearDemands_get k c s
  all_goals rfl

theorem changeState_channel (k : Slot) (new : ComputerState) (phase : Option JoinPhase) (f : Context → Context)
    (c : Chan) (s : State) :
    (changeState k new phase f s).channels[c] = demandEnters new (owns s k c) s.channels[c] := by
  unfold changeState
  dsimp only
  rw [(linkEnters_window k s.contexts[k].state new _).2.2.1, forget_channel]
  rfl

theorem forget_port (k : Slot) (new : ComputerState) (s : State) :
    (forget k new s).ports = s.ports.set k { s.ports[k] with
      expectation :=
        match new with
        | .settle | .join | .vacant => none
        | _ => s.ports[k].expectation } := by
  have same : s.ports = s.ports.set k s.ports[k] := by simp
  unfold forget
  cases new
  case settle => simp only [clearExpectation, updPort_ports, clearDemands, mapChannels_ports]
  case join => simp only [clearExpectation, updPort_ports, clearDemands, mapChannels_ports]
  case vacant => rfl
  all_goals exact same

theorem changeState_ports (k : Slot) (new : ComputerState) (phase : Option JoinPhase) (f : Context → Context)
    (s : State) : (changeState k new phase f s).ports = s.ports.set k
      (portEnters s.contexts[k].state new (s.now + s.cfg.computers[k].reportTimeout) s.ports[k]) := by
  unfold changeState linkEnters portEnters
  dsimp only
  have ports := forget_port k new (updContext k (fun x => f (contextEnters new phase x)) s)
  have moves := forget_moves k new (updContext k (fun x => f (contextEnters new phase x)) s)
  split
  case isFalse => simp only [stopReport, updPort, ports, updContext_ports, Fin.getElem_fin,
    Vector.getElem_set_self, Vector.set_set]
  case isTrue =>
    split
    case isTrue => exact ports
    case isFalse => simp only [startReport, updPort, ports, updContext_ports, Fin.getElem_fin,
      Vector.getElem_set_self, Vector.set_set, moves.now, moves.cfg, updContext_now, updContext_cfg]

theorem changeState_port (k : Slot) (new : ComputerState) (phase : Option JoinPhase) (f : Context → Context)
    (s : State) : (changeState k new phase f s).ports[k] =
      portEnters s.contexts[k].state new (s.now + s.cfg.computers[k].reportTimeout) s.ports[k] := by
  simp only [changeState_ports, Fin.getElem_fin, Vector.getElem_set_self]

theorem changeState_slot (k : Slot) (new : ComputerState) (phase : Option JoinPhase) (f : Context → Context)
    (s : State) : SlotMoves k s (changeState k new phase f s) := by
  obtain ⟨v, p, form⟩ := changeState_form k new phase f s
  refine ⟨⟨changeState_moves k new phase f s, by rw [form], by rw [form], by rw [form], by rw [form]⟩, ?_, ?_⟩
  · intro j other
    rw [changeState_get, if_neg other]
  · intro j other
    have apart : k.val ≠ j.val := fun same => other (Fin.ext same.symm)
    simp only [changeState_ports, Fin.getElem_fin, Vector.getElem_set_ne _ _ apart]

/-! ### Entries -/

theorem enterSettle_slot (k : Slot) (s : State) : SlotMoves k s (enterSettle k s) :=
  (changeState_slot k _ _ _ s).trans (deriveOwned_slot k _)

theorem enterLost_slot (k : Slot) (s : State) : SlotMoves k s (enterLost k s) :=
  (changeState_slot k _ _ _ s).trans (deriveOwned_slot k _)

theorem clearMatches_slot (k : Slot) (s : State) : SlotMoves k s (clearMatches k s) := by
  refine ⟨⟨clearMatches_moves k s, ?_, ?_, ?_, ?_⟩, fun _ _ => ?_, fun _ _ => ?_⟩ <;> simp only [clearMatches,
    mapChannels_window, mapChannels_executor, mapChannels_events, mapChannels_supervisory, mapChannels_contexts,
    mapChannels_ports]

theorem clearMatches_get (k : Slot) (c : Chan) (s : State) : (clearMatches k s).channels[c] =
    if owns s k c then { s.channels[c] with matchCount := 0 } else s.channels[c] := by
  rw [clearMatches, mapChannels_get]

theorem enterTrack_slot (k : Slot) (cause : TrackCause) (zero : Bool) (s : State) :
    SlotMoves k s (enterTrack k cause zero s) := by
  unfold enterTrack
  dsimp only
  refine (SlotMoves.trans ?_ (deriveOwned_slot k _))
  split
  · exact (changeState_slot k _ _ _ s).trans (clearMatches_slot k _)
  · exact changeState_slot k _ _ _ s

theorem enterSettle_ports (k : Slot) (s : State) : (enterSettle k s).ports = s.ports.set k
    { s.ports[k] with expectation := none, reportTimer := none } := by
  unfold enterSettle
  dsimp only
  rw [(deriveOwned_plant k _).ports, changeState_ports]
  rfl

theorem enterLost_ports (k : Slot) (s : State) : (enterLost k s).ports = s.ports.set k
    { s.ports[k] with reportTimer := none } := by
  unfold enterLost
  rw [(deriveOwned_plant k _).ports, changeState_ports]
  rfl

/-- An entry to TRACK leaves the port reporting (R68). -/
theorem enterTrack_ports (k : Slot) (cause : TrackCause) (zero : Bool) (s : State) :
    (enterTrack k cause zero s).ports = s.ports.set k { s.ports[k] with
      reportTimer := if reporting s.contexts[k].state then s.ports[k].reportTimer
        else some (s.now + s.cfg.computers[k].reportTimeout) } := by
  unfold enterTrack
  dsimp only
  rw [(deriveOwned_plant k _).ports]
  have ports := changeState_ports k .track none (fun x => { x with
    trackCause := some cause, activeStyle := s.cfg.computers[k].style
    trackTimer := if s.cfg.computers[k].trackTimeout = 0 then none
      else some (s.now + s.cfg.computers[k].trackTimeout * Config.second) }) s
  split
  · rw [clearMatches, mapChannels_ports]
    exact ports
  · exact ports

theorem enterSettle_port (k : Slot) (s : State) :
    (enterSettle k s).ports[k] = { s.ports[k] with expectation := none, reportTimer := none } := by
  simp only [enterSettle_ports, Fin.getElem_fin, Vector.getElem_set_self]

theorem enterLost_port (k : Slot) (s : State) :
    (enterLost k s).ports[k] = { s.ports[k] with reportTimer := none } := by
  simp only [enterLost_ports, Fin.getElem_fin, Vector.getElem_set_self]

theorem enterTrack_port (k : Slot) (cause : TrackCause) (zero : Bool) (s : State) :
    (enterTrack k cause zero s).ports[k] = { s.ports[k] with
      reportTimer := if reporting s.contexts[k].state then s.ports[k].reportTimer
        else some (s.now + s.cfg.computers[k].reportTimeout) } := by
  simp only [enterTrack_ports, Fin.getElem_fin, Vector.getElem_set_self]

/-- An entry to TRACK sets the match counts of the slot's channels to 0, or leaves them (R85, R101). -/
theorem enterTrack_matches (k : Slot) (cause : TrackCause) (zero : Bool) (c : Chan) (s : State)
    (own : owns s k c = true) : (enterTrack k cause zero s).channels[c].matchCount =
      if zero then 0 else s.channels[c].matchCount := by
  unfold enterTrack
  dsimp only
  rw [((deriveOwned_plant k _).flags c).matchCount]
  have moves := changeState_moves k .track none (fun x => { x with
    trackCause := some cause, activeStyle := s.cfg.computers[k].style
    trackTimer := if s.cfg.computers[k].trackTimeout = 0 then none
      else some (s.now + s.cfg.computers[k].trackTimeout * Config.second) }) s
  split
  · rw [clearMatches_get, if_pos (by rw [owns, moves.cfg]; exact own)]
  · rw [changeState_channel]
    rfl

/-- The orders that wait at a slot's port survive its changes of state. -/
theorem portEnters_sendList (old new : ComputerState) (deadline : Nat) (p : Port) :
    (portEnters old new deadline p).sendList = p.sendList := rfl

end Sys2Proof.Proofs
end


section
/-! SUPPORT. The resets and the entries to ADOPT and RUN, as states (R175, R176, R180, R182). -/

namespace Sys2Proof.Proofs

open Sys2Proof.Machine Sys2Proof.Safety Sys2Proof.Laws

/-! ### The slots at the entry to RUN (R182) -/

theorem foldl_slots_other (f : State → Slot → State) (moves : ∀ s k, SlotMoves k s (f s k)) (j : Slot) :
    ∀ (l : List Slot) (s : State), j ∉ l →
      (l.foldl f s).contexts[j] = s.contexts[j] ∧ (l.foldl f s).ports[j] = s.ports[j]
  | [], _, _ => ⟨rfl, rfl⟩
  | k :: l, s, away => by
    obtain ⟨other, rest⟩ := List.ne_and_not_mem_of_not_mem_cons away
    obtain ⟨contexts, ports⟩ := foldl_slots_other f moves j l (f s k) rest
    exact ⟨contexts.trans ((moves s k).contexts j other), ports.trans ((moves s k).ports j other)⟩

/-- A fold of operations on the slots does to each what its own operation does, on a state that differs from the
first in other slots only. -/
theorem foldl_slots (f : State → Slot → State) (moves : ∀ s k, SlotMoves k s (f s k)) (j : Slot) (l : List Slot)
    (s : State) (mem : j ∈ l) (nodup : l.Nodup) : ∃ u, ComputerMoves s u ∧ u.contexts[j] = s.contexts[j] ∧
      u.ports[j] = s.ports[j] ∧ (l.foldl f s).contexts[j] = (f u j).contexts[j] ∧
      (l.foldl f s).ports[j] = (f u j).ports[j] := by
  induction l generalizing s with
  | nil => nomatch mem
  | cons k l ih =>
    obtain ⟨away, nodup⟩ := List.nodup_cons.mp nodup
    by_cases own : j = k
    · subst own
      obtain ⟨contexts, ports⟩ := foldl_slots_other f moves j l (f s j) away
      exact ⟨s, .refl s, rfl, rfl, contexts, ports⟩
    · obtain ⟨u, stays, context, port, contexts, ports⟩ := ih (f s k) ((List.mem_cons.mp mem).resolve_left own) nodup
      exact ⟨u, (moves s k).toComputerMoves.trans stays, context.trans ((moves s k).contexts j own),
        port.trans ((moves s k).ports j own), contexts, ports⟩

theorem startSlot_slot (k : Slot) (s : State) : SlotMoves k s (startSlot k s) := by
  unfold startSlot
  dsimp only
  split
  · exact (updPort_slot k _ s).trans (enterTrack_slot k _ _ _)
  · exact updPort_slot k _ s

/-- An enabled slot in LOST enters TRACK with cause START and its port begins to report. -/
theorem startSlot_lost (k : Slot) (s : State) (enabled : s.cfg.computers[k].enabled = true)
    (lost : s.contexts[k].state = .lost) :
    (startSlot k s).contexts[k].state = .track ∧ (startSlot k s).contexts[k].trackCause = some .start ∧
    (startSlot k s).ports[k].reportTimer = some (s.now + s.cfg.computers[k].reportTimeout) := by
  have starts : startSlot k s = enterTrack k .start true (clearExpectation k s) := if_pos ⟨enabled, lost⟩
  have silent : reporting (clearExpectation k s).contexts[k].state = false :=
    (congrArg reporting lost).trans rfl
  rw [starts, enterTrack_get, if_pos rfl, enterTrack_port, silent]
  exact ⟨rfl, rfl, rfl⟩

theorem startSlot_still (k : Slot) (s : State)
    (still : s.cfg.computers[k].enabled = false ∨ s.contexts[k].state ≠ .lost) :
    (startSlot k s).contexts[k] = s.contexts[k] := by
  have stays : startSlot k s = clearExpectation k s := if_neg fun ⟨enabled, lost⟩ =>
    still.elim (fun off => Bool.eq_false_iff.mp off enabled) (fun away => away lost)
  rw [stays]
  rfl

theorem slotsStarted_lost (k : Slot) (s : State) (enabled : s.cfg.computers[k].enabled = true)
    (lost : s.contexts[k].state = .lost) :
    (slotsStarted s).contexts[k].state = .track ∧ (slotsStarted s).contexts[k].trackCause = some .start ∧
    (slotsStarted s).ports[k].reportTimer = some (s.now + s.cfg.computers[k].reportTimeout) := by
  obtain ⟨u, stays, context, -, contexts, ports⟩ := foldl_slots (fun s k => startSlot k s)
    (fun s k => startSlot_slot k s) k allSlots s (List.mem_finRange k) (List.nodup_finRange 8)
  unfold slotsStarted
  rw [contexts, ports, ← stays.now, ← stays.cfg]
  exact startSlot_lost k u (by rw [stays.cfg]; exact enabled) (by rw [context]; exact lost)

theorem slotsStarted_still (k : Slot) (s : State)
    (still : s.cfg.computers[k].enabled = false ∨ s.contexts[k].state ≠ .lost) :
    (slotsStarted s).contexts[k] = s.contexts[k] := by
  obtain ⟨u, stays, context, -, contexts, -⟩ := foldl_slots (fun s k => startSlot k s)
    (fun s k => startSlot_slot k s) k allSlots s (List.mem_finRange k) (List.nodup_finRange 8)
  unfold slotsStarted
  rw [contexts, startSlot_still k u (by rw [stays.cfg, context]; exact still), context]

theorem slotsStarted_moves (s : State) : ControllerMoves s (slotsStarted s) :=
  foldl_moves ControllerMoves.refl ControllerMoves.trans _ (fun s k => (startSlot_slot k s).toControllerMoves) _ s

/-! ### Entry to RUN (R182) -/

theorem enterRun_lost (k : Slot) (s : State) (enabled : s.cfg.computers[k].enabled = true)
    (lost : s.contexts[k].state = .lost) :
    (enterRun s).contexts[k].state = .track ∧ (enterRun s).contexts[k].trackCause = some .start ∧
    (enterRun s).ports[k].reportTimer = some (s.now + s.cfg.computers[k].reportTimeout) := by
  have started := slotsStarted_lost k (runBegun s) enabled lost
  rw [enterRun_eq]
  generalize slotsStarted (runBegun s) = u at started ⊢
  exact started

theorem enterRun_still (k : Slot) (s : State)
    (still : s.cfg.computers[k].enabled = false ∨ s.contexts[k].state ≠ .lost) :
    (enterRun s).contexts[k] = s.contexts[k] := by
  have stays := slotsStarted_still k (runBegun s) still
  rw [enterRun_eq]
  generalize slotsStarted (runBegun s) = u at stays ⊢
  exact stays

/-- What the entry to RUN sets at once, and the blocks that it leaves. -/
structure RunEntered (s t : State) : Prop where
  partState : t.partState = .run
  adoptionTimer : t.adoptionTimer = none
  stepTimer : t.stepTimer = some (s.now + 100)
  refillTimer : t.admission.refillTimer = some (s.now + 100)
  inputs : t.inputs = { s.inputs with computers := Vector.replicate 8 skipping }
  cfg : t.cfg = s.cfg
  now : t.now = s.now
  held : t.held = s.held
  commissioned : t.commissioned = s.commissioned
  lastReset : t.lastReset = s.lastReset
  store : t.store = s.store
  line : t.field.line = s.field.line
  window : t.window = s.window
  executor : t.executor = s.executor
  events : t.events = s.events
  supervisory : t.supervisory = s.supervisory

theorem enterRun_entered (s : State) : RunEntered s (enterRun s) := by
  have moves := slotsStarted_moves (runBegun s)
  rw [enterRun_eq]
  generalize slotsStarted (runBegun s) = u at moves ⊢
  exact ⟨moves.partState, moves.adoptionTimer, moves.stepTimer, moves.refillTimer, moves.inputs, moves.cfg,
    moves.now, moves.held, moves.commissioned, moves.lastReset, moves.store, moves.line, moves.window,
    moves.executor, moves.events, moves.supervisory⟩

theorem startSlot_quiet (k : Slot) (s : State) : QuietMoves s (startSlot k s) := by
  unfold startSlot
  dsimp only
  split
  case isFalse => exact fun _ => ⟨rfl, rfl, rfl⟩
  case isTrue =>
    unfold enterTrack
    dsimp only
    refine QuietMoves.trans ?_ (deriveEach_quiet _ _)
    obtain ⟨v, p, form⟩ := changeState_form k .track none (fun x => { x with
      trackCause := some .start, activeStyle := (clearExpectation k s).cfg.computers[k].style
      trackTimer := if (clearExpectation k s).cfg.computers[k].trackTimeout = 0 then none
        else some ((clearExpectation k s).now + (clearExpectation k s).cfg.computers[k].trackTimeout *
          Config.second) }) (clearExpectation k s)
    rw [form, if_pos rfl, clearMatches]
    exact fun _ => ⟨mapChannels_admission _ _, mapChannels_field _ _, mapChannels_counter _ _⟩

/-- Where no request waits, the entry to RUN grants nothing and counts nothing. -/
theorem enterRun_quiet (s : State) (empty : s.admission.queue = []) :
    (enterRun s).admission = { s.admission with refillTimer := some (s.now + 100) } ∧
    (enterRun s).counter = s.counter := by
  have slots : QuietMoves (runBegun s) (slotsStarted (runBegun s)) :=
    foldl_moves QuietMoves.refl QuietMoves.trans _ (fun s k => startSlot_quiet k s) _ _
  obtain ⟨admission, -, counter⟩ := slots empty
  rw [enterRun_eq]
  generalize slotsStarted (runBegun s) = u at admission counter ⊢
  exact ⟨admission, counter⟩

theorem enterAdopt_unused (s : State) (unused : ∀ c : Chan, isUsed s c = false) :
    enterAdopt s = enterRun { s with partState := .adopt } := by
  refine if_neg (Bool.eq_false_iff.mp (List.any_eq_false.mpr fun c _ => ?_))
  exact Bool.eq_false_iff.mp (unused c)

/-! ### Adoption ends by its timer (R181) -/

theorem lowestUnadopted_some (s : State) (c : Chan) (used : isUsed s c = true)
    (left : s.channels[c].adopted = false)
    (below : ∀ d : Chan, d < c → isUsed s d = true → s.channels[d].adopted = true) :
    lowestUnadopted s = some c := by
  refine find?_first c ?_ fun d low => ?_
  · rw [used, left]
    rfl
  · cases usedD : isUsed s d with
    | false => rfl
    | true => rw [below d low usedD]; rfl

/-- The part as the expiry of the adoption timer takes it to RUN, UNADOPTED latched for a channel left. -/
theorem adoptionExpired_eq (s : State) :
    ∃ u, adoptionExpired s = enterRun u ∧ (∃ e v, u = { s with events := e, supervisory := v }) ∧
      ∀ c, lowestUnadopted s = some c → u.events = s.events.set 13 { latched := true, item := some (.channel c) } := by
  unfold adoptionExpired
  split
  next c found =>
    refine ⟨_, rfl, ⟨_, _, latch_eq ..⟩, fun d also => ?_⟩
    obtain rfl : d = c := Option.some.inj (also.symm.trans found)
    exact latch_events ..
  next none => exact ⟨s, rfl, ⟨_, _, rfl⟩, fun d also => nomatch none.symm.trans also⟩

/-- Settles O51: the expiry latches UNADOPTED where a channel is left, and enters RUN. -/
theorem adoptionTimerEntersRun : Obligations.AdoptionTimerEntersRun := by
  intro deadline s live adopt timer
  obtain ⟨u, expires, ⟨e, v, form⟩, latches⟩ :=
    adoptionExpired_eq { s with now := clockAt deadline s, adoptionTimer := none }
  have row : exec .adoptionTimer s = .next (enterRun u) := by
    show execAdoptionTimer s = _
    rw [execAdoptionTimer, whenLive_live _ _ live, timer, expire_some, ← expires]
    exact congrArg _ (if_pos adopt)
  have run := enterRun_entered u
  refine ⟨_, row, run.partState, run.adoptionTimer, ?_, ?_, ?_, ?_, ?_, ?_, ?_, ?_, ?_, ?_, ?_⟩
  · rw [run.cfg, form]
  · rw [run.now, form]
  · rw [run.stepTimer, form]
  · rw [run.refillTimer, form]
  · rw [run.window, form]
  · intro k
    rw [run.inputs]
    simp [skipping]
  · rw [run.inputs, form]
  · rw [run.inputs, form]
  · intro c used left below
    rw [run.events, latches c (lowestUnadopted_some _ c used left below)]
    exact Vector.getElem_set_self _
  · intro k enabled lost
    rw [form]
    exact enterRun_lost k _ enabled lost
  · intro k disabled
    rw [form]
    exact enterRun_still k _ (.inl disabled)

/-! ### The start after a reset (R176) -/

/-- The blocks as a reset of a kind leaves them, its image taken, before the part starts. -/
def imageTaken (kind : ResetKind) (s : State) : State :=
  { blocksReset (resetImage kind s).config (resetImage kind s).commissioned s with lastReset := kind, held := false }

theorem startUp_blank (kind : ResetKind) (s : State) (blank : (resetImage kind s).commissioned = false) :
    startUp kind s = imageTaken kind s := if_neg (Bool.eq_false_iff.mp blank)

theorem startUp_used (kind : ResetKind) (s : State) (set : (resetImage kind s).commissioned = true)
    (used : ∃ c : Chan, usedConfig (resetImage kind s).config.channels[c] = true) :
    startUp kind s = { imageTaken kind s with
      partState := .adopt, adoptionTimer := some (s.now + 2000)
      field := { resetField with period := some (s.now + 500), line := pollAllBytes } } :=
  (if_pos set).trans (enterAdopt_used (imageTaken kind s) used)

theorem startUp_unused (kind : ResetKind) (s : State) (set : (resetImage kind s).commissioned = true)
    (unused : ∀ c : Chan, usedConfig (resetImage kind s).config.channels[c] = false) :
    startUp kind s = enterRun { imageTaken kind s with partState := .adopt } :=
  (if_pos set).trans (enterAdopt_unused (imageTaken kind s) unused)

/-- The three ways in which the part starts. -/
theorem startUp_cases (kind : ResetKind) (s : State) :
    (resetImage kind s).commissioned = false ∨
    ((resetImage kind s).commissioned = true ∧
      ∃ c : Chan, usedConfig (resetImage kind s).config.channels[c] = true) ∨
    ((resetImage kind s).commissioned = true ∧
      ∀ c : Chan, usedConfig (resetImage kind s).config.channels[c] = false) := by
  by_cases set : (resetImage kind s).commissioned = true
  · by_cases used : ∃ c : Chan, usedConfig (resetImage kind s).config.channels[c] = true
    · exact .inr (.inl ⟨set, used⟩)
    · exact .inr (.inr ⟨set, fun c => Bool.eq_false_iff.mpr fun on => used ⟨c, on⟩⟩)
  · exact .inl (Bool.eq_false_iff.mpr set)

/-- What stands after the start of the part, whichever part state it enters. -/
structure Started (kind : ResetKind) (s t : State) : Prop where
  cfg : t.cfg = (resetImage kind s).config
  commissioned : t.commissioned = (resetImage kind s).commissioned
  lastReset : t.lastReset = kind
  held : t.held = false
  store : t.store = { s.store with writing := none }
  supervisory : t.supervisory = resetSupervisory
  executor : t.executor = resetExecutor
  window : t.window = resetWindow
  events : t.events = clearEvents
  counter : t.counter = 0
  inputs : t.inputs = resetInputs
  credit : t.admission.credit = (resetImage kind s).config.budget.bothCap

theorem startUp_started (kind : ResetKind) (s : State) : Started kind s (startUp kind s) := by
  rcases startUp_cases kind s with blank | ⟨set, used⟩ | ⟨set, unused⟩
  · rw [startUp_blank kind s blank]
    exact ⟨rfl, rfl, rfl, rfl, rfl, rfl, rfl, rfl, rfl, rfl, rfl, rfl⟩
  · rw [startUp_used kind s set used]
    exact ⟨rfl, rfl, rfl, rfl, rfl, rfl, rfl, rfl, rfl, rfl, rfl, rfl⟩
  · rw [startUp_unused kind s set unused]
    have run := enterRun_entered { imageTaken kind s with partState := .adopt }
    obtain ⟨admission, counter⟩ := enterRun_quiet { imageTaken kind s with partState := .adopt } rfl
    exact ⟨run.cfg, run.commissioned, run.lastReset, run.held, run.store, run.supervisory, run.executor, run.window,
      run.events, counter, run.inputs, by rw [admission]; rfl⟩

/-! ### RESET-PART and the COMMAND reset (R163, R176) -/

theorem exec_commandReset (s : State) (live : s.held = false) :
    exec .commandReset s = .next (if replyBeingSent s then startUp .command s else s) :=
  whenLive_live (fun s => if replyBeingSent s then startUp .command s else s) s live

theorem exec_supervisoryFrameSent (s : State) (live : s.held = false) : exec .supervisoryFrameSent s =
    .next (if replyBeingSent s then startUp .command s else takeHead (beginSending s)) :=
  whenLive_live (fun s => if replyBeingSent s then startUp .command s else takeHead (beginSending s)) s live

/-- A port that awaits a reset takes no command. -/
theorem waitingCommand_awaiting (s : State) (awaits : s.supervisory.resetWait ≠ .none) : waitingCommand s = none := by
  unfold waitingCommand
  split
  · rfl
  · rw [(portFree_eq_false_iff s).mpr (.inl awaits)]
    rfl

theorem enterRun_reset (k : Slot) (kind : ResetKind) (s : State) :
    (enterRun { imageTaken kind s with partState := .adopt }).contexts[k].state =
      if (resetImage kind s).config.computers[k].enabled = true then .track else .vacant := by
  have context : ({ imageTaken kind s with partState := .adopt } : State).contexts[k] =
      resetContext (resetImage kind s).config.computers[k] :=
    blocksReset_get (resetImage kind s).config (resetImage kind s).commissioned s k
  cases enabled : (resetImage kind s).config.computers[k].enabled with
  | true =>
    refine (enterRun_lost k _ enabled ?_).1
    rw [context, resetContext, enabled]
    rfl
  | false =>
    rw [enterRun_still k _ (.inl enabled), context, resetContext, enabled]
    rfl

/-- Settles O28: either row of the reply's last byte is the start by the COMMAND kind, whose image is the
working configuration and the flag. -/
theorem resetPartThenCommandReset : Obligations.ResetPartThenCommandReset := by
  refine ⟨fun tag s taken => ?_, fun s live => ⟨fun sending i row => ?_, fun still => ?_,
    fun tag rest waiting head => ?_⟩⟩
  · have done := takeCommand_accepted 0x3B tag [] (resetPartAnswer []) awaitReset s taken rfl
    refine ⟨done, fun t next => ?_⟩
    obtain rfl := Host.Outcome.next.inj (next.symm.trans done)
    exact waitingCommand_awaiting _ nofun
  · have starts : exec i s = .next (startUp .command s) := by
      have sent : replyBeingSent s = true := by rw [replyBeingSent_eq]; exact sending
      rcases row with rfl | rfl
      · exact (exec_commandReset s live).trans (congrArg _ (if_pos sent))
      · exact (exec_supervisoryFrameSent s live).trans (congrArg _ (if_pos sent))
    have started := startUp_started .command s
    refine ⟨_, starts, started.cfg, started.commissioned, started.lastReset, started.supervisory, started.executor,
      started.window, started.events, started.counter, started.inputs, fun set used => ?_, fun set unused => ?_,
      fun clear => ?_⟩
    · rw [startUp_used .command s set used]
      exact ⟨rfl, rfl, rfl, rfl⟩
    · have run := enterRun_entered { imageTaken .command s with partState := .adopt }
      have slots := fun k => enterRun_reset k .command s
      rw [startUp_unused .command s set unused]
      generalize enterRun { imageTaken .command s with partState := .adopt } = u at run slots ⊢
      exact ⟨run.partState, run.stepTimer, run.refillTimer, run.line, slots⟩
    · rw [startUp_blank .command s clear]
      rfl
  · exact (exec_commandReset s live).trans (congrArg _ (if_neg fun sent => still ((replyBeingSent_eq s).mp sent)))
  · have still : ¬replyBeingSent s = true := fun sent => nomatch waiting.symm.trans ((replyBeingSent_eq s).mp sent)
    refine (exec_supervisoryFrameSent s live).trans (congrArg _ ((if_neg still).trans ?_))
    have begins : beginSending s = { s with supervisory := { s.supervisory with
        outgoing := rest, line := outBytes (.reply 0x3B tag .ok .absent []), resetWait := .replySending } } := by
      simp only [beginSending, head]
      rw [if_pos ⟨waiting, rfl⟩]
    rw [begins]
    exact takeHead_busy _ ((portFree_eq_false_iff _).mpr (.inl nofun))

/-! ### The other resets (R175, R176) -/

/-- Settles O32: each of the two rows is the start by its kind, whose image the marker chooses. -/
theorem resetsLoadByMarker : Obligations.ResetsLoadByMarker := by
  intro i kind s row
  have starts : exec i s = .next (startUp kind s) ∧ kind ≠ .command := by
    rcases row with ⟨rfl, rfl, live⟩ | ⟨rfl, rfl, other, held⟩
    · exact ⟨congrArg Host.Outcome.next (if_neg (Bool.eq_false_iff.mp live)), nofun⟩
    · exact ⟨congrArg Host.Outcome.next (if_pos held), other⟩
  obtain ⟨starts, other⟩ := starts
  have image : resetImage kind s =
      if s.store.valid then s.store.image else { config := factoryConfig, commissioned := false } := by
    cases kind
    case command => exact absurd rfl other
    all_goals rfl
  refine ⟨fun invalid => ?_, fun valid => ?_⟩
  · rw [if_neg (Bool.eq_false_iff.mp invalid)] at image
    rw [starts, startUp_blank kind s (by rw [image]), imageTaken, image]
    have contexts : Vector.ofFn (fun k : Slot => resetContext factoryConfig.computers[k]) =
        Vector.replicate 8 (resetContext factoryComputer) := by decide
    simp only [blocksReset, contexts]
    rfl
  · rw [if_pos valid] at image
    have started := startUp_started kind s
    refine ⟨_, starts, by rw [started.cfg, image], started.held, by rw [started.commissioned, image],
      started.lastReset, started.store, started.inputs, fun clear => ?_, fun set used => ?_,
      by rw [started.credit, image], fun set unused => ?_⟩
    · rw [startUp_blank kind s (by rw [image]; exact clear)]
      exact ⟨rfl, rfl⟩
    · rw [startUp_used kind s (by rw [image]; exact set) (by rw [image]; exact used)]
      exact ⟨rfl, rfl, rfl, rfl⟩
    · rw [startUp_unused kind s (by rw [image]; exact set) (by rw [image]; exact unused)]
      exact (enterRun_entered _).partState

/-! ### The discrete inputs (R187) -/

theorem isDue_of_open {now : Nat} {timer : Option Nat} (open_ : ∀ d, timer = some d → now < d) :
    isDue now timer = false := by
  cases timer with
  | none => rfl
  | some d => exact decide_eq_false (Nat.not_le.mpr (open_ d rfl))

theorem pinEvent_open (s : State) (open_ : FiltersOpen s) : pinEvent s = none :=
  pinEvent_none s (isDue_of_open fun d h => open_ d (.inr h)) (isDue_of_open fun d h => open_ d (.inl h))

/-- An event that a filter has brought is taken ahead of a level or a quiet time, which waits, and where nothing
arrives. -/
theorem step_pinEvent (i : Instr) (pin : Pin) (s : State) (idle : s.pending = [])
    (deaf : ∀ input char others, s.arriving ≠ .char input char :: others)
    (event : ∀ l, pinEvent { s with arriving := l } = some (i, filterTaken pin { s with arriving := l })) :
    step s = exec i (filterTaken pin s) := by
  cases arriving : s.arriving with
  | nil =>
    have now : ownEvent s = some (i, filterTaken pin s) := by
      have event := event s.arriving
      rw [ownEvent]
      simp only [event]
    rw [step_own s idle arriving, ownAct]
    simp only [now]
  | cons a rest =>
    rw [step_arrival a rest s idle arriving]
    have back : putBack a (filterTaken pin { s with arriving := rest }) = filterTaken pin s := by
      cases pin <;> simp only [putBack, filterTaken, ← arriving]
    have event := event rest
    cases a with
    | char input char => exact absurd arriving (deaf input char rest)
    | level input high => rw [takeArrival_filtered input high i _ _ event, back]
    | quiet n => simp only [takeArrival, takeIn, ownEvent, event, back]

theorem pinEvent_reset (s : State) (due : isDue s.now s.pins.reset.filter = true) (l : List Arrival) :
    pinEvent { s with arriving := l } = some (.lineResetAssert, filterTaken .resetLine { s with arriving := l }) :=
  if_pos due

theorem exec_held (i : Instr) (s : State) (held : s.held = true) (power : i ≠ .powerReset)
    (release : i ≠ .lineResetRelease) : exec i s = .next s := by
  cases i
  case powerReset => exact absurd rfl power
  case lineResetRelease => exact absurd rfl release
  case lineResetAssert => exact congrArg Host.Outcome.next (if_pos held)
  all_goals exact congrArg Host.Outcome.next (if_pos held)

/-- Settles O33: the assertion is `holdInReset`, every other row asks whether the part is held, and the reset
input is judged by its filter. -/
theorem resetLineHolds : Obligations.ResetLineHolds := by
  refine ⟨fun s live => congrArg Host.Outcome.next (if_neg (Bool.eq_false_iff.mp live)),
    fun i s held power release => exec_held i s held power release,
    fun others s u idle open_ => ⟨fun rises low => ?_, fun falls high taken => ?_⟩,
    fun ends s idle filter due deaf => ?_⟩
  · rw [step_arrival _ _ s idle rises]
    have level := resetAt_rise s.now s.pins.reset low
    refine takeArrival_level .resetLine true _ _ (pinEvent_open { s with arriving := others } open_) ?_
    simp only [setLevel, level, Bool.true_eq_false, false_and, if_false]
  · rw [step_arrival _ _ s idle falls]
    have level := resetAt_fall s.now s.pins.reset high
    have set : setLevel .resetLine false { s with arriving := others } =
        (u, if s.held = true then some .lineResetRelease else none) := by
      simp only [setLevel, level, high, true_and, taken]
    refine ⟨fun live => ?_, fun held => ?_⟩
    · exact takeArrival_level _ _ _ _ (pinEvent_open { s with arriving := others } open_)
        (set.trans (by rw [if_neg (Bool.eq_false_iff.mp live)]))
    · exact takeArrival_releases _ _ _ _ _ (pinEvent_open { s with arriving := others } open_)
        (set.trans (by rw [if_pos held]))
  · have ran : isDue s.now s.pins.reset.filter = true := by
      rw [filter]
      exact decide_eq_true due
    exact step_pinEvent .lineResetAssert .resetLine s idle deaf (pinEvent_reset s ran)

end Sys2Proof.Proofs
end


section
/-! SUPPORT. The daylight table (R49 to R56): how its payload is read, what a reading and a new table do, and the
targets that follow the stage. -/

namespace Sys2Proof.Proofs

open Sys2Proof.Machine Sys2Proof.Safety Sys2Proof.Laws

/-! ### The channels that follow the table (R54) -/

/-- A derivation of the table's channels gives each of them the level of the present stage by its zone factor. -/
theorem deriveDaylight_follows (s : State) (c : Chan) (follows : followsDaylight s c) :
    (deriveDaylight s).channels[c].mode = .fallback ∧ (deriveDaylight s).channels[c].target =
      some (stageLevel s * s.cfg.channels[c].zoneFactor / 1000) := by
  obtain ⟨adopted, free, mode, light, daylight, leaves⟩ := follows
  have mem : c ∈ allChannels.filter fun c => s.channels[c].adopted && s.cfg.channels[c].kind == .light &&
      s.channels[c].mode == .fallback && s.cfg.channels[c].fallbackKind == .daylight := by
    refine List.mem_filter.mpr ⟨List.mem_finRange c, ?_⟩
    rw [adopted, mode, light, daylight]
    rfl
  have falls := modeOf_fallback s c adopted free leaves
  refine ⟨?_, deriveEach_target c _ _ s mem fun t moves => ?_⟩
  · rw [deriveDaylight, deriveEach_mode, if_pos mem, falls]
  · rw [modeOf_moves moves, falls, targetOf_daylight t c _ (by rw [moves.cfg]; exact daylight), stageLevel,
      moves.cfg, moves.daylight]
    rfl

/-! ### LUMINANCE (R52, R54) -/

/-- The daylight block with a reading taken. -/
def readingTaken (value : Nat) (s : State) : State :=
  { s with daylight :=
    { stage := selectStage s.cfg.daylight (min value 65000) s.daylight.stage
      luminance := some (min value 65000), readAt := some s.now
      ageTimer := some (s.now + 60000), stale := false } }

theorem takeReading_eq (value : Nat) (s : State) : takeReading value s =
    if (readingTaken value s).daylight.stage = s.daylight.stage then readingTaken value s
    else deriveDaylight (readingTaken value s) := rfl

theorem takeReading_plant (value : Nat) (s : State) : PlantMoves (readingTaken value s) (takeReading value s) := by
  rw [takeReading_eq]
  split
  · exact PlantMoves.refl _
  · exact deriveDaylight_plant _

/-- Settles O26: the reading is taken in any case, and the table's channels are derived where the stage changes. -/
theorem luminanceTakesReading : Obligations.LuminanceTakesReading := by
  intro tag hi lo s run taken
  have plant := takeReading_plant (word hi lo) (repliedOk 0x39 tag s)
  refine ⟨_, exec_luminance_accepted tag hi lo s run taken, plant.events, plant.contexts, plant.cfg, plant.daylight,
    fun same => ?_, fun changed c follows => ?_⟩
  · rw [plant.daylight] at same ⊢
    exact if_pos same
  · rw [plant.daylight] at changed ⊢
    rw [show takeReading (word hi lo) (repliedOk 0x39 tag s) = deriveDaylight _ from if_neg changed]
    exact deriveDaylight_follows (readingTaken (word hi lo) (repliedOk 0x39 tag s)) c follows

/-! ### The numbers of a payload (R184) -/

theorem b2_eq (n : Nat) : b2 n = [byteOf (n / 256), byteOf n] := rfl

theorem readWords_b2 (n : Nat) (rest : List Byte) (small : n ≤ 65535) :
    readWords (b2 n ++ rest) = (readWords rest).map (n :: ·) := by
  simp only [b2_eq, List.cons_append, List.nil_append, readWords, word_wordBytes n small]

/-- A run of numbers of two bytes reads back. -/
theorem readWords_numbers (l : List Nat) (small : ∀ n ∈ l, n ≤ 65535) (rest : List Byte) :
    readWords ((l.map b2).flatten ++ rest) = (readWords rest).map (l ++ ·) := by
  induction l with
  | nil => simp
  | cons n l ih =>
    rw [List.map_cons, List.flatten_cons, List.append_assoc, readWords_b2 n _ (small n List.mem_cons_self),
      ih fun m mem => small m (List.mem_cons_of_mem n mem), Option.map_map]
    rfl

/-- An even run of bytes is read as the numbers that stand in it. -/
theorem readWords_getD : ∀ (n : Nat) (bytes : List Byte), bytes.length = 2 * n →
    ∃ numbers, readWords bytes = some numbers ∧ numbers.length = n ∧
      ∀ i, i < n → numbers.getD i 0 = numberAt bytes (2 * i)
  | 0, [], _ => ⟨[], rfl, rfl, nofun⟩
  | n + 1, hi :: lo :: rest, length => by
    obtain ⟨numbers, read, long, values⟩ := readWords_getD n rest (by simpa [Nat.mul_add] using length)
    refine ⟨word hi lo :: numbers, by simp only [readWords, read, Option.map_some], by simp [long], fun i low => ?_⟩
    cases i with
    | zero => rfl
    | succ i =>
      have same : numberAt (hi :: lo :: rest) (2 * (i + 1)) = numberAt rest (2 * i) := rfl
      rw [same, ← values i (by omega)]
      rfl

theorem numberAt_cons (b : Byte) (bytes : List Byte) (n : Nat) : numberAt (b :: bytes) (n + 1) = numberAt bytes n :=
  rfl

/-! ### The table -/

theorem rising_next : ∀ (l : List Nat), rising l = true → ∀ i, i + 1 < l.length → l.getD i 0 < l.getD (i + 1) 0
  | a :: b :: rest, rises, i, low => by
    simp only [rising, Bool.and_eq_true, decide_eq_true_eq] at rises
    cases i with
    | zero => exact rises.1
    | succ i => exact rising_next (b :: rest) rises.2 i (by simpa using low)

theorem daylightRanges_iff (d : DaylightConfig) : daylightRanges d = true ↔
    1 ≤ d.stages.length ∧ d.stages.length ≤ 8 ∧ d.stages.head?.map (·.threshold) = some 0 ∧
    (∀ st ∈ d.stages, st.threshold ≤ 65000) ∧ rising (d.stages.map (·.threshold)) = true ∧
    (∀ st ∈ d.stages, st.level ≤ 1000) ∧ d.hysteresis ≤ 10000 := by
  simp only [daylightRanges, Bool.and_eq_true, decide_eq_true_eq, beq_iff_eq, List.all_eq_true, and_assoc]
  rfl

/-- The table that a count and its numbers spell (R184). -/
def spelledTable (n : Nat) (numbers : List Nat) : DaylightConfig :=
  { stages := List.zipWith (fun t l => { threshold := t, level := l }) (numbers.take n) ((numbers.drop n).take n)
    hysteresis := (numbers.drop (2 * n)).headD 0 }

theorem readDaylight_eq (n : Nat) (numbers : List Nat) : readDaylight n numbers =
    if daylightRanges (spelledTable n numbers) then some (spelledTable n numbers) else none := rfl

/-- The numbers of a table, in the order of its payload. -/
def tableNumbers (d : DaylightConfig) : List Nat :=
  d.stages.map (·.threshold) ++ (d.stages.map (·.level) ++ [d.hysteresis])

theorem spelledTable_tableNumbers (d : DaylightConfig) : spelledTable d.stages.length (tableNumbers d) = d := by
  have thresholds : (tableNumbers d).take d.stages.length = d.stages.map (·.threshold) :=
    List.take_left' (by simp)
  have rest : (tableNumbers d).drop d.stages.length = d.stages.map (·.level) ++ [d.hysteresis] :=
    List.drop_left' (by simp)
  have last : (tableNumbers d).drop (2 * d.stages.length) = [d.hysteresis] := by
    rw [Nat.two_mul, ← List.drop_drop, rest]
    exact List.drop_left' (by simp)
  unfold spelledTable
  rw [thresholds, rest, last, List.take_left' (by simp), List.zipWith_map]
  simp

theorem daylightPayload_eq (d : DaylightConfig) :
    daylightPayload d = byteOf d.stages.length :: ((tableNumbers d).map b2).flatten := by
  simp [daylightPayload, tableNumbers, b1, Function.comp_def]

theorem tableNumbers_le (d : DaylightConfig) (ranges : daylightRanges d = true) : ∀ n ∈ tableNumbers d, n ≤ 65535 := by
  obtain ⟨-, -, -, thresholds, -, levels, hysteresis⟩ := (daylightRanges_iff d).mp ranges
  intro n mem
  simp only [tableNumbers, List.mem_append, List.mem_map, List.mem_singleton] at mem
  rcases mem with ⟨st, mem, rfl⟩ | ⟨st, mem, rfl⟩ | rfl
  · exact (thresholds st mem).trans (by decide)
  · exact (levels st mem).trans (by decide)
  · omega

/-- A lawful table is read back from its payload. -/
theorem readDaylight_payload (d : DaylightConfig) (ranges : daylightRanges d = true) :
    (readWords (daylightPayload d).tail).bind (readDaylight ((daylightPayload d).headD 0).toNat) = some d := by
  obtain ⟨-, short, -⟩ := (daylightRanges_iff d).mp ranges
  have count : (byteOf d.stages.length).toNat = d.stages.length := byteOf_toNat _ (by omega)
  have numbers := readWords_numbers (tableNumbers d) (tableNumbers_le d ranges) []
  rw [List.append_nil] at numbers
  rw [daylightPayload_eq, List.tail_cons, List.headD_cons, count, numbers]
  simp only [readWords, Option.map_some, List.append_nil, Option.bind_some, readDaylight_eq,
    spelledTable_tableNumbers, ranges, if_true]

theorem daylightPayload_length (d : DaylightConfig) (ranges : daylightRanges d = true) :
    (daylightPayload d).length = 3 + 4 * ((daylightPayload d).headD 0).toNat := by
  obtain ⟨-, short, -⟩ := (daylightRanges_iff d).mp ranges
  have count : (byteOf d.stages.length).toNat = d.stages.length := byteOf_toNat _ (by omega)
  rw [daylightPayload_eq, List.headD_cons, count]
  simp [tableNumbers, b2_eq, List.length_flatten, Function.comp_def]
  omega

theorem spelledTable_stage (n i : Nat) (numbers : List Nat) (long : numbers.length = 2 * n + 1) (low : i < n) :
    (spelledTable n numbers).stages[i]? =
      some { threshold := numbers.getD i 0, level := numbers.getD (n + i) 0 } := by
  simp [spelledTable, List.getElem?_zipWith, List.getElem?_drop, low,
    show i < numbers.length by omega, show n + i < numbers.length by omega]

theorem spelledTable_length (n : Nat) (numbers : List Nat) (long : numbers.length = 2 * n + 1) :
    (spelledTable n numbers).stages.length = n := by
  simp [spelledTable, long]
  omega

/-- A payload with a count or a number out of range, or thresholds that do not rise from 0, spells no table. -/
theorem readDaylight_refused (n : Byte) (rest : List Byte) (length : rest.length = 2 + 4 * n.toNat)
    (refused : daylightRefused (n :: rest)) : (readWords rest).bind (readDaylight n.toNat) = none := by
  obtain ⟨numbers, read, long, values⟩ := readWords_getD (2 * n.toNat + 1) rest (by omega)
  have value (i : Nat) (low : i < 2 * n.toNat + 1) : numberAt (n :: rest) (1 + 2 * i) = numbers.getD i 0 := by
    rw [values i low, Nat.add_comm, numberAt_cons]
  rw [read, Option.bind_some, readDaylight_eq]
  refine if_neg fun ranges => ?_
  obtain ⟨some_, short, first, thresholds, rises, levels, hysteresis⟩ := (daylightRanges_iff _).mp ranges
  have len := spelledTable_length n.toNat numbers long
  have stage (i : Nat) (low : i < n.toNat) := spelledTable_stage n.toNat i numbers long low
  have stageMem (i : Nat) (low : i < n.toNat) := List.mem_of_getElem? (stage i low)
  have count : byteAt (n :: rest) 0 = n.toNat := rfl
  rw [len] at some_ short
  unfold daylightRefused at refused
  rw [count] at refused
  rcases refused with none | many | start | wide | ⟨i, low, high⟩ | ⟨i, low, next, falls⟩
  · omega
  · omega
  · rw [List.head?_eq_getElem?, stage 0 (by omega)] at first
    exact start ((value 0 (by omega)).trans (Option.some.inj first))
  · have hyst : (spelledTable n.toNat numbers).hysteresis = numbers.getD (2 * n.toNat) 0 := by
      simp [spelledTable, List.headD_eq_head?_getD]
    have last := value (2 * n.toNat) (by omega)
    rw [hyst, ← last] at hysteresis
    rw [show 1 + 2 * (2 * n.toNat) = 1 + 4 * n.toNat by omega] at hysteresis
    omega
  · rw [value i (by omega), value (n.toNat + i) (by omega)] at high
    exact high.elim (Nat.not_lt.mpr (thresholds _ (stageMem i low))) (Nat.not_lt.mpr (levels _ (stageMem i low)))
  · have grows := rising_next _ rises i (by rw [List.length_map, len]; exact next)
    rw [show 3 + 2 * i = 1 + 2 * (i + 1) by omega, value i (by omega), value (i + 1) (by omega)] at falls
    have threshold (j : Nat) (low : j < n.toNat) :
        ((spelledTable n.toNat numbers).stages.map (·.threshold)).getD j 0 = numbers.getD j 0 := by
      rw [List.getD_eq_getElem?_getD, List.getElem?_map, stage j low]
      rfl
    rw [threshold i low, threshold (i + 1) next] at grows
    exact Nat.not_lt.mpr falls grows

/-! ### SET-DAYLIGHT (R50, R56) -/

theorem setDaylightAnswer_accepts (d : DaylightConfig) (s : State) (ranges : daylightRanges d = true)
    (open_ : Configurable s) : setDaylightAnswer (daylightPayload d) s = accept (applyDaylight d) := by
  rw [setDaylightAnswer_length _ s (daylightPayload_length d ranges), asConfiguration_open s _ open_,
    readDaylight_payload d ranges]

theorem selectStage_lt (d : DaylightConfig) (luminance stage : Nat) (ranges : daylightRanges d = true)
    (low : stage < d.stages.length) : selectStage d luminance stage < d.stages.length := by
  obtain ⟨st, found, -⟩ := reaches_highestStage d.stages luminance (reaches_zero_of_daylightRanges d luminance ranges)
  have high : highestStage d.stages luminance < d.stages.length := (List.getElem?_eq_some_iff.mp found).1
  unfold selectStage
  dsimp only
  split
  · exact high
  · split
    · exact (Nat.min_le_left _ _).trans_lt low
    · exact low

theorem stageAfresh_lt (d : DaylightConfig) (x : Daylight) (ranges : daylightRanges d = true) :
    stageAfresh d x < d.stages.length := by
  obtain ⟨some_, -⟩ := (daylightRanges_iff d).mp ranges
  unfold stageAfresh
  split
  · exact some_
  · exact selectStage_lt d _ _ ranges (by omega)

/-- A new table with its stage set afresh, ahead of the derivation (R56). -/
def tableReplaced (d : DaylightConfig) (s : State) : State :=
  { s with cfg := { s.cfg with daylight := d }, daylight := { s.daylight with stage := stageAfresh d s.daylight } }

theorem applyDaylight_run (d : DaylightConfig) (s : State) (run : s.partState = .run) :
    applyDaylight d s = deriveDaylight (tableReplaced d s) := by
  unfold applyDaylight
  dsimp only
  split
  next => rfl
  next other => exact absurd run other

/-- Settles O12: the payload of a lawful table reads back; the effect in RUN is a derivation on the state with the
new table and stage. -/
theorem setDaylightReplaces : Obligations.SetDaylightReplaces := by
  refine ⟨fun tag d s ranges unconfigured taken => ?_, fun tag d s ranges run taken => ?_,
    fun tag payload s length open_ taken refused => ?_⟩
  · refine (takeCommand_accepted _ _ _ _ _ _ taken
      (setDaylightAnswer_accepts d (leaveQueue s) ranges (.inl unconfigured))).trans (congrArg _ ?_)
    have still : (repliedOk 0x14 tag s).partState = .unconfigured := unconfigured
    simp only [applyDaylight, still]
    rfl
  · have done := takeCommand_accepted _ _ _ _ _ _ taken (setDaylightAnswer_accepts d (leaveQueue s) ranges (.inr run))
    rw [applyDaylight_run d (repliedOk 0x14 tag s) run] at done
    have plant := deriveDaylight_plant (tableReplaced d (repliedOk 0x14 tag s))
    refine ⟨_, done, plant.cfg, plant.daylight, plant.contexts, plant.executor, fun c follows => ?_⟩
    obtain ⟨mode, target⟩ := deriveDaylight_follows (tableReplaced d (repliedOk 0x14 tag s)) c follows
    have found := List.getElem?_eq_getElem (stageAfresh_lt d s.daylight ranges)
    have level : stageLevel (tableReplaced d (repliedOk 0x14 tag s)) =
        (d.stages[stageAfresh d s.daylight]'(stageAfresh_lt d s.daylight ranges)).level := by
      show ((d.stages[stageAfresh d s.daylight]?).map (·.level)).getD 0 = _
      rw [found]
      rfl
    refine ⟨d.stages[stageAfresh d s.daylight]'(stageAfresh_lt d s.daylight ranges), ?_, mode, ?_⟩
    · rw [plant.daylight]
      exact found
    · rw [target, level]
      rfl
  · refine takeCommand_refused _ _ _ _ _ _ taken ?_
    match payload, length, refused with
    | n :: rest, length, refused =>
      have counts : (n :: rest).length = 3 + 4 * n.toNat := length
      rw [setDaylightAnswer_length (n :: rest) _ length, asConfiguration_open (leaveQueue s) _ open_, List.tail_cons,
        List.headD_cons, readDaylight_refused n rest (by simp at counts; omega) refused]

end Sys2Proof.Proofs
end


section
/-! SUPPORT. How frames and records are read from what an input hears (R183, R185, R186, R187): a whole one behind
any noise, one that a gap cuts, and one that is still in progress. -/

namespace Sys2Proof.Proofs

open Sys2Proof.Machine Sys2Proof.Safety Sys2Proof.Laws

/-! ### Noise and time -/

/-- The bytes ahead of the start byte are skipped. -/
theorem dropWhile_noise (start : Byte) (noise : List HeardByte) (g : Nat) (rest : List HeardByte)
    (quiet : ∀ b ∈ noise, b.2 ≠ start) :
    (noise ++ (g, start) :: rest).dropWhile (·.2 != start) = (g, start) :: rest := by
  rw [List.dropWhile_append_of_pos fun b mem => bne_iff_ne.mpr (quiet b mem)]
  exact List.dropWhile_cons_of_neg (by simp)

theorem inTime_iff (b : HeardByte) : inTime b = true ↔ b.1 ≤ 20000 := decide_eq_true_iff

/-- Bytes that come in time are read together with those in time behind them. -/
theorem takeWhile_inTime (bytes rest : List HeardByte) (soon : ∀ b ∈ bytes, b.1 ≤ 20000) :
    (bytes ++ rest).takeWhile inTime = bytes ++ rest.takeWhile inTime ∧
    (bytes ++ rest).dropWhile inTime = rest.dropWhile inTime :=
  ⟨List.takeWhile_append_of_pos fun b mem => (inTime_iff b).mpr (soon b mem),
    List.dropWhile_append_of_pos fun b mem => (inTime_iff b).mpr (soon b mem)⟩

theorem late_inTime (b : HeardByte) (rest : List HeardByte) (late : 20000 < b.1) :
    (b :: rest).takeWhile inTime = [] ∧ (b :: rest).dropWhile inTime = b :: rest := by
  have slow : inTime b = false := decide_eq_false (Nat.not_le.mpr late)
  exact ⟨List.takeWhile_cons_of_neg (Bool.eq_false_iff.mp slow), List.dropWhile_cons_of_neg (Bool.eq_false_iff.mp slow)⟩

/-! ### Frames (R183) -/

/-- What a frame carries behind its start byte. -/
def frameBody (kind tag : Byte) (payload : List Byte) : List Byte :=
  byteOf payload.length :: kind :: tag :: payload ++ crcBytes (byteOf payload.length :: kind :: tag :: payload)

theorem frameBytes_eq (kind tag : Byte) (payload : List Byte) :
    frameBytes kind tag payload = 0xA5 :: frameBody kind tag payload := rfl

theorem crcBytes_length (bytes : List Byte) : (crcBytes bytes).length = 2 := rfl

/-- Heard bytes that are `0xA5` and more begin with a start byte. -/
theorem heard_cons {start : Byte} {bytes : List HeardByte} {l : List Byte} (h : bytes.map (·.2) = start :: l) :
    ∃ g after, bytes = (g, start) :: after ∧ after.map (·.2) = l := by
  obtain ⟨⟨g, b⟩, after, rfl, rfl, rest⟩ := List.map_eq_cons_iff.mp h
  exact ⟨g, after, rfl, rest⟩

/-- A frame that holds is read whole, with what stands behind it. -/
theorem readBody_whole (kind tag : Byte) (payload : List Byte) (bytes rest late : List HeardByte)
    (short : payload.length ≤ 250) (h : bytes.map (·.2) = frameBody kind tag payload) :
    readBody (bytes ++ rest) late = .frame kind tag payload (rest ++ late) := by
  obtain ⟨g0, after, rfl, afterLength⟩ := heard_cons h
  obtain ⟨g1, behind, rfl, afterKind⟩ := heard_cons afterLength
  obtain ⟨g2, more, rfl, content⟩ := heard_cons afterKind
  have len : (byteOf payload.length).toNat = payload.length := byteOf_toNat _ (by omega)
  have long : more.length = payload.length + 2 := by
    have := congrArg List.length content
    simpa [crcBytes_length] using this
  have front : (more.take payload.length).map (·.2) = payload := by
    rw [List.map_take, content]
    exact List.take_left' rfl
  have back : (more.drop payload.length).map (·.2) = crcBytes (byteOf payload.length :: kind :: tag :: payload) := by
    rw [List.map_drop, content]
    exact List.drop_left' rfl
  obtain ⟨⟨g3, hi⟩, ⟨g4, lo⟩, pair⟩ : ∃ x y, more.drop payload.length = [x, y] :=
    List.length_eq_two.mp (by rw [List.length_drop, long]; omega)
  have check : [hi, lo] = crcBytes (byteOf payload.length :: kind :: tag :: payload) := by
    rw [← back, pair]
    rfl
  simp only [List.cons_append, readBody, len]
  rw [if_neg (show ¬Config.maxPayload < payload.length from Nat.not_lt.mpr short),
    List.take_append_of_le_length (by omega), front,
    List.drop_append_of_le_length (by omega), pair]
  simp only [List.cons_append, List.nil_append, check, if_true]

/-- A frame whose last byte has not come is unfinished. -/
theorem readBody_partial (kind tag : Byte) (payload later : List Byte) (bytes late : List HeardByte)
    (short : payload.length ≤ 250) (h : bytes.map (·.2) ++ later = frameBody kind tag payload) (more : later ≠ []) :
    readBody bytes late = unfinished late := by
  have len : (byteOf payload.length).toNat = payload.length := byteOf_toNat _ (by omega)
  have long : bytes.length + later.length = payload.length + 5 := by
    have := congrArg List.length h
    simpa [frameBody, crcBytes_length] using this
  have some_ : 0 < later.length := List.length_pos_of_ne_nil more
  match bytes, h, long with
  | [], _, _ => rfl
  | (g0, b0) :: after, h, long =>
    obtain rfl : b0 = byteOf payload.length := (List.cons.inj h).1
    simp only [readBody, len]
    rw [if_neg (show ¬Config.maxPayload < payload.length from Nat.not_lt.mpr short)]
    match after, long with
    | [], _ => rfl
    | [_], _ => rfl
    | (_, _) :: (_, _) :: rest, long =>
      have few : (rest.drop payload.length).length < 2 := by
        simp only [List.length_cons, List.length_drop] at long ⊢
        omega
      match left : rest.drop payload.length, few with
      | [], _ => simp only [left]
      | [_], _ => simp only [left]
      | _ :: _ :: _, few => simp at few

theorem readFrame_whole (kind tag : Byte) (payload : List Byte) (noise bytes rest : List HeardByte)
    (short : payload.length ≤ 250) (quiet : ∀ b ∈ noise, b.2 ≠ 0xA5) (soon : ∀ b ∈ bytes.tail, b.1 ≤ 20000)
    (h : bytes.map (·.2) = frameBytes kind tag payload) :
    readFrame (noise ++ bytes ++ rest) = .frame kind tag payload rest := by
  obtain ⟨g, after, rfl, body⟩ := heard_cons h
  obtain ⟨taken, left⟩ := takeWhile_inTime after rest soon
  rw [List.append_assoc, List.cons_append, readFrame, dropWhile_noise _ _ _ _ quiet]
  dsimp only
  rw [taken, left, readBody_whole kind tag payload after _ _ short body, List.takeWhile_append_dropWhile]

/-- What is heard of a frame that is not whole: with no byte behind it it goes on, a late byte cuts it. -/
theorem readFrame_partial (kind tag : Byte) (payload later : List Byte) (noise bytes rest : List HeardByte)
    (short : payload.length ≤ 250) (quiet : ∀ b ∈ noise, b.2 ≠ 0xA5) (soon : ∀ b ∈ bytes.tail, b.1 ≤ 20000)
    (some_ : bytes ≠ []) (h : bytes.map (·.2) ++ later = frameBytes kind tag payload) (more : later ≠ [])
    (late : ∀ b ∈ rest.head?, 20000 < b.1) : readFrame (noise ++ bytes ++ rest) = unfinished rest := by
  obtain ⟨⟨g, b⟩, after, rfl⟩ := List.exists_cons_of_ne_nil some_
  obtain ⟨rfl, body⟩ := List.cons.inj h
  obtain ⟨taken, left⟩ := takeWhile_inTime after rest soon
  have behind : rest.takeWhile inTime = [] ∧ rest.dropWhile inTime = rest := by
    cases rest with
    | nil => exact ⟨rfl, rfl⟩
    | cons x rest => exact late_inTime x rest (late x rfl)
  rw [List.append_assoc, List.cons_append, readFrame, dropWhile_noise _ _ _ _ quiet]
  dsimp only
  rw [taken, left, behind.1, behind.2, List.append_nil,
    readBody_partial kind tag payload later after rest short body more]

/-! ### The messages of a computer (R185) -/

theorem readPairs_payload (pairs : List (Nat × Nat)) (fit : ∀ p ∈ pairs, p.1 ≤ 255 ∧ p.2 ≤ 65535) :
    readPairs (pairs.map fun p => b1 p.1 ++ b2 p.2).flatten = some pairs := by
  induction pairs with
  | nil => rfl
  | cons p pairs ih =>
    obtain ⟨chan, value⟩ := fit p List.mem_cons_self
    have rest := ih fun q mem => fit q (List.mem_cons_of_mem p mem)
    simp only [List.map_cons, List.flatten_cons, b1, b2_eq, List.cons_append, List.nil_append, readPairs,
      byteOf_toNat _ chan, word_wordBytes _ value] at rest ⊢
    rw [rest]
    rfl

theorem readHealth_code (h : Health) : readHealth (byteOf (healthCode h)) = some h := by cases h <;> rfl

theorem computerRow_demand (slot : Slot) (seq : Byte) (h : Health) (pairs : List (Nat × Nat))
    (some_ : 1 ≤ pairs.length) (few : pairs.length ≤ 16) (fit : ∀ p ∈ pairs, p.1 ≤ 255 ∧ p.2 ≤ 65535) :
    computerRow slot 0x01 seq (b1 (healthCode h) ++ b1 pairs.length ++
      (pairs.map fun p => b1 p.1 ++ b2 p.2).flatten) = .demand slot seq.toNat h pairs := by
  have count : pairs.length = (byteOf pairs.length).toNat := (byteOf_toNat _ (by omega)).symm
  have payload : b1 (healthCode h) ++ b1 pairs.length ++ (pairs.map fun p => b1 p.1 ++ b2 p.2).flatten =
      byteOf (healthCode h) :: byteOf pairs.length :: (pairs.map fun p => b1 p.1 ++ b2 p.2).flatten := rfl
  rw [payload]
  simp only [computerRow, if_true, readHealth_code, readPairs_payload pairs fit]
  exact if_pos ⟨count, some_, few⟩

theorem computerRow_imageOk (slot : Slot) (seq : Byte) (gen : Nat) (fit : gen ≤ 65535) :
    computerRow slot 0x03 seq (b2 gen) = .imageOk slot seq.toNat gen :=
  congrArg (Instr.imageOk slot seq.toNat) (word_wordBytes gen fit)

theorem computerRow_imageReject (slot : Slot) (seq : Byte) (gen reason : Nat) (fit : gen ≤ 65535)
    (small : reason ≤ 255) : computerRow slot 0x04 seq (b2 gen ++ b1 reason) =
      .imageReject slot seq.toNat gen reason := by
  have row : computerRow slot 0x04 seq (b2 gen ++ b1 reason) =
      .imageReject slot seq.toNat (word (byteOf (gen / 256)) (byteOf gen)) (byteOf reason).toNat := rfl
  rw [row, word_wordBytes gen fit, byteOf_toNat reason small]

/-! ### Records (R186) -/

/-- The code of a run state in a STATE record. -/
def moduleRunByte (run : ModuleRun) : Byte :=
  match run with
  | .running => 1
  | .stopped => 2
  | .fault => 3

theorem readModuleRun_byte (run : ModuleRun) : readModuleRun (moduleRunByte run) = some run := by
  cases run <;> rfl

/-- What a STATE record carries behind its start byte. -/
def recordBody (address value : Nat) (run : ModuleRun) : List Byte :=
  [byteOf address, 0x04, byteOf (value / 256), byteOf value, moduleRunByte run] ++
    crcBytes [byteOf address, 0x04, byteOf (value / 256), byteOf value, moduleRunByte run]

theorem recordBytes_eq (address value : Nat) (run : ModuleRun) :
    recordBytes (byteOf address) 0x04 value (moduleRunByte run) = 0x5A :: recordBody address value run := rfl

theorem readRecord_whole (address value : Nat) (run : ModuleRun) (bytes rest late : List HeardByte)
    (low : address ≤ 255) (fit : value ≤ 65535) (h : bytes.map (·.2) = recordBody address value run) :
    readRecord (bytes ++ rest) late = some (.stateRecord address value run, rest ++ late) := by
  obtain ⟨_, _, rfl, h1⟩ := heard_cons h
  obtain ⟨_, _, rfl, h2⟩ := heard_cons h1
  obtain ⟨_, _, rfl, h3⟩ := heard_cons h2
  obtain ⟨_, _, rfl, h4⟩ := heard_cons h3
  obtain ⟨_, _, rfl, h5⟩ := heard_cons h4
  obtain ⟨_, _, rfl, h6⟩ := heard_cons h5
  obtain ⟨_, _, rfl, h7⟩ := heard_cons h6
  obtain rfl := List.map_eq_nil_iff.mp h7
  simp only [List.cons_append, List.nil_append, readRecord, readModuleRun_byte, byteOf_toNat address low,
    word_wordBytes value fit]
  exact if_pos ⟨rfl, trivial⟩

theorem readRecord_partial (address value : Nat) (run : ModuleRun) (later : List Byte) (bytes : List HeardByte)
    (b : HeardByte) (rest : List HeardByte) (h : bytes.map (·.2) ++ later = recordBody address value run)
    (more : later ≠ []) : readRecord bytes (b :: rest) = some (.fieldGap, b :: rest) := by
  have some_ : 0 < later.length := List.length_pos_of_ne_nil more
  have long : bytes.length + later.length = 7 := by
    have := congrArg List.length h
    simpa [recordBody, crcBytes_length] using this
  unfold readRecord
  split
  · simp only [List.length_cons] at long
    omega
  · rfl

theorem nextField_whole (address value : Nat) (run : ModuleRun) (noise bytes rest : List HeardByte)
    (low : address ≤ 255) (fit : value ≤ 65535) (quiet : ∀ b ∈ noise, b.2 ≠ 0x5A)
    (soon : ∀ b ∈ bytes.tail, b.1 ≤ 20000)
    (h : bytes.map (·.2) = recordBytes (byteOf address) 0x04 value (moduleRunByte run)) :
    nextField (noise ++ bytes ++ rest) = some (.stateRecord address value run, rest) := by
  obtain ⟨g, after, rfl, body⟩ := heard_cons h
  obtain ⟨taken, left⟩ := takeWhile_inTime after rest soon
  rw [List.append_assoc, List.cons_append, nextField, dropWhile_noise _ _ _ _ quiet]
  dsimp only
  rw [taken, left, readRecord_whole address value run after _ _ low fit body, List.takeWhile_append_dropWhile]

theorem nextField_cut (address value : Nat) (run : ModuleRun) (later : List Byte) (noise bytes : List HeardByte)
    (b : HeardByte) (rest : List HeardByte) (quiet : ∀ b ∈ noise, b.2 ≠ 0x5A)
    (soon : ∀ b ∈ bytes.tail, b.1 ≤ 20000) (some_ : bytes ≠ []) (more : later ≠ []) (late : 20000 < b.1)
    (h : bytes.map (·.2) ++ later = recordBytes (byteOf address) 0x04 value (moduleRunByte run)) :
    nextField (noise ++ bytes ++ b :: rest) = some (.fieldGap, b :: rest) := by
  obtain ⟨⟨g, c⟩, after, rfl⟩ := List.exists_cons_of_ne_nil some_
  obtain ⟨rfl, body⟩ := List.cons.inj h
  obtain ⟨taken, left⟩ := takeWhile_inTime after (b :: rest) soon
  obtain ⟨none, whole⟩ := late_inTime b rest late
  rw [List.append_assoc, List.cons_append, nextField, dropWhile_noise _ _ _ _ quiet]
  dsimp only
  rw [taken, left, none, whole, List.append_nil, readRecord_partial address value run later after b rest body more]

/-! ### Framing errors (R187) -/

theorem hearFrom_lost (lost : Nat) (after : List LineByte) : ∀ (before : List LineByte) (n : Nat),
    hearFrom n (before ++ ({ gap := lost, byte := none } :: after)) =
      hearFrom n (before ++ (match after with
        | [] => []
        | b :: more => { b with gap := lost + b.gap } :: more))
  | [], n => by
    cases after with
    | nil => rfl
    | cons b more =>
      show hearFrom (n + lost) (b :: more) = hearFrom n ({ b with gap := lost + b.gap } :: more)
      simp only [hearFrom, Nat.add_assoc]
  | c :: before, n => by
    simp only [List.cons_append, hearFrom]
    split
    · rw [hearFrom_lost lost after before 0]
    · rw [hearFrom_lost lost after before _]

/-- Settles O52: each line reads what its bytes hold once the noise is skipped; what is not whole at a late byte is
cut there. -/
theorem bytesReadBack : Obligations.BytesReadBack := by
  refine ⟨fun kind tag payload noise bytes rest short quiet soon => ⟨fun h => ?_, fun late b some_ h more slow => ?_⟩,
    fun slot seq noise bytes rest quiet soon => ⟨fun h pairs some_ few fit bytesAre => ?_, fun h => ?_,
      fun gen fit h => ?_, fun gen reason fit small h => ?_⟩,
    fun address value run noise bytes rest low fit quiet soon => ⟨fun h => ?_, fun late b some_ more slow h => ?_⟩,
    fun before after lost => hearFrom_lost lost after before 0⟩
  · rw [nextSupervisory, readFrame_whole kind tag payload noise bytes rest short quiet soon h]
  · have cut := readFrame_partial kind tag payload late noise bytes (b :: rest) short quiet soon some_ h more
      (by simpa using slow)
    refine ⟨?_, fun slot => ?_⟩
    · rw [nextSupervisory, cut]
      rfl
    · rw [nextComputer, cut]
      rfl
  · have short : (b1 (healthCode h) ++ b1 pairs.length ++
        (pairs.map fun p => b1 p.1 ++ b2 p.2).flatten).length ≤ 250 := by
      simp [b1, b2_eq, List.length_flatten, Function.comp_def]
      omega
    rw [nextComputer, readFrame_whole _ _ _ noise bytes rest short quiet soon bytesAre]
    exact congrArg (fun i => some (i, rest)) (computerRow_demand slot seq h pairs some_ few fit)
  · rw [nextComputer, readFrame_whole _ _ _ noise bytes rest (by decide) quiet soon h]
    rfl
  · rw [nextComputer, readFrame_whole _ _ _ noise bytes rest (by simp [b2_eq]) quiet soon h]
    exact congrArg (fun i => some (i, rest)) (computerRow_imageOk slot seq gen fit)
  · rw [nextComputer, readFrame_whole _ _ _ noise bytes rest (by simp [b1, b2_eq]) quiet soon h]
    exact congrArg (fun i => some (i, rest)) (computerRow_imageReject slot seq gen reason fit small)
  · exact nextField_whole address value run noise bytes rest low fit quiet soon h
  · exact nextField_cut address value run late noise bytes b rest quiet soon some_ more slow h

end Sys2Proof.Proofs
end


section
/-! SUPPORT. The events of the three serial lines: frames taken, queued and discarded (R157 to R160), orders sent
(R71), and the characters that arrive one at a time (R62, R63, R173, R186, R187). -/

namespace Sys2Proof.Proofs

open Sys2Proof.Machine Sys2Proof.Safety Sys2Proof.Laws

/-! ### The supervisory port (R157 to R160) -/

/-- Taking a command at once is what its command's row does. -/
theorem exec_commandOf_taken (f : CommandFrame) (s : State) (taken : Taken f.kind f.tag f.payload s) :
    exec (commandOf f.kind f.tag f.payload) s = .next (answerCommand f (answerOf f) s) := by
  rw [exec_commandOf, takeCommand_taken _ _ _ _ _ taken]
  rfl

theorem portFree_of_taken {kind tag : Byte} {payload : List Byte} {s : State} (taken : Taken kind tag payload s) :
    portFree s = true := by
  obtain ⟨-, wait, room, -⟩ := taken
  refine Bool.eq_true_of_not_eq_false fun busy => ?_
  exact ((portFree_eq_false_iff s).mp busy).elim (fun awaits => awaits wait) (Nat.not_le.mpr room)

theorem exec_frameReceived (kind tag : Byte) (payload : List Byte) (s : State) (live : s.held = false)
    (short : payload.length ≤ 250) :
    exec (.supervisoryFrameReceived kind tag payload) s = .next (arrive { kind, tag, payload } s) := by
  show execSupervisoryFrameReceived kind tag payload s = _
  rw [execSupervisoryFrameReceived, whenLive_live _ _ live]
  exact congrArg _ (if_neg (Nat.not_lt.mpr short))

/-- The sending of the head begins; the reset is not that of a reply that nobody awaits (R160, R163). -/
theorem beginSending_head (f : OutFrame) (rest : List OutFrame) (s : State) (wait : s.supervisory.resetWait = .none)
    (list : s.supervisory.outgoing = f :: rest) :
    beginSending s = { s with supervisory := { s.supervisory with outgoing := rest, line := outBytes f } } := by
  have calm : ¬(s.supervisory.resetWait = .replyWaiting ∧ isResetReply f = true) := fun ⟨waiting, _⟩ =>
    nomatch wait.symm.trans waiting
  unfold beginSending
  split
  next empty => nomatch list.symm.trans empty
  next g others found =>
    obtain ⟨rfl, rfl⟩ := List.cons.inj (list.symm.trans found)
    dsimp only
    rw [if_neg calm]

theorem beginSending_empty (s : State) (list : s.supervisory.outgoing = []) :
    beginSending s = { s with supervisory := { s.supervisory with line := [] } } := by
  unfold beginSending
  split
  next => rfl
  next found => nomatch list.symm.trans found

theorem exec_frameSent_calm (s : State) (live : s.held = false) (wait : s.supervisory.resetWait = .none) :
    exec .supervisoryFrameSent s = .next (takeHead (beginSending s)) :=
  (exec_supervisoryFrameSent s live).trans (congrArg _ (if_neg fun sent =>
    nomatch wait.symm.trans ((replyBeingSent_eq s).mp sent)))

/-! ### Characters (R62, R187) -/

/-- A frame or record in progress begins with its start byte. -/
theorem fromStart_progress (i : Input) (heard : List HeardByte) (x : HeardByte) {later l : List Byte}
    (some_ : heard ≠ []) (h : heard.map (·.2) ++ later = startByte i :: l) :
    fromStart i (heard ++ [x]) = heard ++ [x] := by
  obtain ⟨⟨g, b⟩, after, rfl⟩ := List.exists_cons_of_ne_nil some_
  obtain ⟨rfl, -⟩ := List.cons.inj h
  exact fromStart_start i g (after ++ [x])

/-- A single byte is kept where it is a start byte. -/
theorem fromStart_single (i : Input) (g : Nat) (b : Byte) :
    fromStart i [(g, b)] = if b = startByte i then [(g, b)] else [] := by
  by_cases start : b = startByte i
  · subst start
    rw [if_pos rfl]
    exact fromStart_start i g []
  · simp [fromStart, start]

theorem soon_append {heard : List HeardByte} {x : HeardByte} (some_ : heard ≠ [])
    (soon : ∀ b ∈ heard.tail, b.1 ≤ 20000) (next : x.1 ≤ 20000) : ∀ b ∈ (heard ++ [x]).tail, b.1 ≤ 20000 := by
  rw [List.tail_append_of_ne_nil some_]
  intro b mem
  rcases List.mem_append.mp mem with old | new
  · exact soon b old
  · rw [List.mem_singleton.mp new]
    exact next

theorem map_append_single (heard : List HeardByte) (g : Nat) (b : Byte) :
    (heard ++ [(g, b)]).map (·.2) = heard.map (·.2) ++ [b] := by simp

/-- The last byte of a frame in progress makes it whole. -/
theorem readFrame_ends (kind tag b : Byte) (payload : List Byte) (heard : List HeardByte) (g : Nat)
    (short : payload.length ≤ 250) (some_ : heard ≠ []) (soon : ∀ b ∈ heard.tail, b.1 ≤ 20000) (next : g ≤ 20000)
    (h : heard.map (·.2) ++ [b] = frameBytes kind tag payload) :
    readFrame (heard ++ [(g, b)]) = .frame kind tag payload [] := by
  have whole := readFrame_whole kind tag payload [] (heard ++ [(g, b)]) [] short nofun (soon_append some_ soon next)
    ((map_append_single heard g b).trans h)
  rwa [List.nil_append, List.append_nil] at whole

/-- Settles O31: the frame's event is the taking of its command or the queue's, and the event of sending lets the
head of the queue be taken. -/
theorem supervisoryLineEvents : Obligations.SupervisoryLineEvents := by
  refine ⟨fun s live => ⟨fun kind tag payload short => ⟨fun taken empty => ?_, fun busy room => ?_, fun full => ?_⟩,
    ?_, ?_, ?_⟩, fun s live wait => ⟨fun f rest u list form => ⟨fun none => ?_, fun c q queue room => ?_⟩,
    fun empty none => ?_⟩, fun kind tag b payload gap rest s live idle first short some_ h soon next => ?_⟩
  · rw [exec_frameReceived kind tag payload s live short, arrive_taken _ s (portFree_of_taken taken) empty]
    exact (exec_commandOf_taken { kind, tag, payload } s taken).symm
  · rw [exec_frameReceived kind tag payload s live short,
      arrive_joins _ s (.inl ((portFree_eq_false_iff s).mpr busy)), receiveFrame_eq, if_pos room]
  · have some_ : s.supervisory.queue ≠ [] := fun empty => by simp [empty] at full
    rw [exec_frameReceived kind tag payload s live short, arrive_joins _ s (.inr some_), receiveFrame_eq,
      if_neg (Nat.not_lt.mpr full)]
  · refine (whenLive_live (discardFrame .check) s live).trans (congrArg _ ?_)
    rw [discardFrame, count_eq]
    rfl
  · refine (whenLive_live (discardFrame .format) s live).trans (congrArg _ ?_)
    rw [discardFrame, count_eq]
    rfl
  · show execSupervisoryGap s = _
    rw [execSupervisoryGap, whenLive_live _ _ live, count_eq]
    rfl
  · rw [exec_frameSent_calm s live wait, beginSending_head f rest s wait list, ← form]
    refine congrArg _ (none.elim (fun empty => takeHead_empty u ?_) fun full => takeHead_busy u ?_)
    · rw [form]
      exact empty
    · rw [portFree_eq_false_iff, form]
      exact .inr full
  · have taken : Taken c.kind c.tag c.payload u := by
      rw [form]
      exact ⟨live, wait, room, .inr (congrArg List.head? queue)⟩
    rw [exec_frameSent_calm s live wait, beginSending_head f rest s wait list, ← form,
      takeHead_taken c q u (by rw [form]; exact queue) (portFree_of_taken taken)]
    exact (exec_commandOf_taken c u taken).symm
  · rw [exec_frameSent_calm s live wait, beginSending_empty s empty]
    exact congrArg _ (takeHead_empty _ none)
  · rw [step_arrival _ _ s idle first]
    have row : nextRow .supervisory (s.inputs.supervisory.heard ++ [(s.inputs.supervisory.lost + gap, b)]) =
        some (.supervisoryFrameReceived kind tag payload, []) := by
      rw [nextRow, nextSupervisory, readFrame_ends kind tag b payload _ _ short some_ soon next h]
    exact takeArrival_row .supervisory _ _ _ _ (by rw [listensAt, live]; rfl)
      (hearChar_ends .supervisory gap b s.inputs.supervisory _ []
        (by rw [fromStart_progress .supervisory _ _ some_ h]; exact row))

/-! ### The computer lines (R62, R63, R71) -/

theorem beginOrder_head (p : Port) (o : Order) (rest : List Order) (list : p.sendList = o :: rest) :
    beginOrder p = { p with
      sendList := rest, line := orderBytes p.sendSequence o, sendSequence := (p.sendSequence + 1) % 256 } := by
  simp only [beginOrder, list]

theorem beginOrder_empty (p : Port) (list : p.sendList = []) : beginOrder p = { p with line := [] } := by
  simp only [beginOrder, list]

/-- The start byte alone, or nothing, is no whole frame yet. -/
theorem nextComputer_single (k : Slot) (g : Nat) (b : Byte) :
    nextComputer k (if b = 0xA5 then [(g, b)] else []) = none := by
  by_cases start : b = 0xA5
  · subst start
    rfl
  · rw [if_neg start]
    rfl

theorem listensAt_computer (k : Slot) (s : State) :
    listensAt s (.computer k) = true ↔ s.held = false ∧ s.partState = .run := by
  simp [listensAt]

theorem heardNext_computer (k : Slot) (c : LineByte) (rest : List Arrival) (r : Reception) (s : State)
    (idle : s.pending = []) (first : s.arriving = .char (.computer k) c :: rest) (running : Running s)
    (heard : hearChar (.computer k) c s.inputs.computers[k] = (r, none)) :
    step s = .next (withReception k r rest s) := by
  rw [step_arrival _ _ s idle first]
  exact takeArrival_quiet (.computer k) c r { s with arriving := rest }
    ((listensAt_computer k { s with arriving := rest }).mpr running) heard

theorem heardRow_computer (k : Slot) (c : LineByte) (rest : List Arrival) (r : Reception) (row : Instr) (s : State)
    (idle : s.pending = []) (first : s.arriving = .char (.computer k) c :: rest) (running : Running s)
    (heard : hearChar (.computer k) c s.inputs.computers[k] = (r, some row)) :
    step s = exec row (withReception k r rest s) := by
  rw [step_arrival _ _ s idle first]
  exact takeArrival_row (.computer k) c r row { s with arriving := rest }
    ((listensAt_computer k { s with arriving := rest }).mpr running) heard

/-- Settles O40: the port's rows act in RUN; a character is skipped outside it, and in RUN joins what is in
progress, ends it or cuts it. -/
theorem computerLineEvents : Obligations.ComputerLineEvents := by
  refine ⟨fun k s ⟨live, run⟩ => ⟨?_, ?_, ?_, fun o rest list => ?_, fun list => ?_⟩,
    fun k gap char rest heardNow s idle first now => ⟨fun deaf => ?_, fun running => ⟨fun lost => ?_,
      fun b byte empty => ?_, fun kind seq b payload later byte short some_ soon h more => ⟨fun next last => ?_,
        fun next head long => ?_, fun late => ?_⟩⟩⟩⟩
  · refine (whenLive_inRun _ s live run).trans (congrArg _ ?_)
    rw [count_eq]
    rfl
  · refine (whenLive_inRun _ s live run).trans (congrArg _ ?_)
    rw [count_eq]
    rfl
  · refine (whenLive_inRun _ s live run).trans (congrArg _ ?_)
    rw [count_eq]
    rfl
  · refine (whenLive_inRun (updPort k beginOrder) s live run).trans (congrArg _ ?_)
    rw [updPort, beginOrder_head _ o rest list]
  · refine (whenLive_inRun (updPort k beginOrder) s live run).trans (congrArg _ ?_)
    rw [updPort, beginOrder_empty _ list]
  · rw [step_arrival _ _ s idle first]
    refine takeArrival_deaf _ _ _ (Bool.eq_false_iff.mpr fun hears => ?_)
    obtain ⟨live, run⟩ := (listensAt_computer k _).mp hears
    exact deaf.elim (fun held => nomatch held.symm.trans live) fun still => still run
  · subst lost now
    exact heardNext_computer k _ rest _ s idle first running (hearChar_lost _ gap _)
  · subst byte now
    have start := fromStart_single (.computer k) (s.inputs.computers[k].lost + gap) b
    rw [heardNext_computer k _ rest _ s idle first running (hearChar_joins (.computer k) gap b _ ?_)]
    · rw [empty, List.nil_append, start]
      rfl
    · rw [empty, List.nil_append, start]
      exact nextComputer_single k _ b
  · subst byte now last
    have row := readFrame_ends kind seq b payload _ _ short some_ soon next h
    refine heardRow_computer k _ rest _ _ s idle first running (hearChar_ends (.computer k) gap b _ _ [] ?_)
    rw [fromStart_progress (.computer k) _ _ some_ h, nextRow, nextComputer, row]
  · subst byte now
    obtain ⟨after, rfl⟩ : ∃ after, later = b :: after := by
      obtain ⟨c, after, rfl⟩ := List.exists_cons_of_ne_nil more
      exact ⟨after, congrArg (· :: after) (Option.some.inj head)⟩
    have behind : after ≠ [] := fun none => long (by rw [none]; rfl)
    have unended := readFrame_partial kind seq payload after []
      (s.inputs.computers[k].heard ++ [(s.inputs.computers[k].lost + gap, b)]) [] short nofun
      (soon_append some_ soon next) (by simp) (by rw [map_append_single, List.append_assoc]; exact h) behind nofun
    rw [List.nil_append, List.append_nil] at unended
    have kept := fromStart_progress (.computer k) s.inputs.computers[k].heard
      (s.inputs.computers[k].lost + gap, b) some_ h
    rw [heardNext_computer k _ rest _ s idle first running (hearChar_joins (.computer k) gap b _ ?_), kept]
    rw [kept, nextRow, nextComputer, unended]
    rfl
  · subst byte now
    have cut := readFrame_partial kind seq payload later [] s.inputs.computers[k].heard
      [(s.inputs.computers[k].lost + gap, b)] short nofun soon some_ h more (by simpa using late)
    rw [List.nil_append] at cut
    have start := fromStart_single (.computer k) (s.inputs.computers[k].lost + gap) b
    rw [heardRow_computer k _ rest _ _ s idle first running (hearChar_ends (.computer k) gap b _ (.computerGap k)
      [(s.inputs.computers[k].lost + gap, b)] ?_), start]
    · rfl
    · rw [fromStart_progress (.computer k) _ _ some_ h, nextRow, nextComputer, cut]
      rfl

/-! ### The field line (R13, R173, R186, R188) -/

theorem onField_open (f : State → State) (s : State) (open_ : s.partState ≠ .unconfigured) : onField f s = f s := by
  unfold onField
  split
  next closed => exact absurd closed open_
  all_goals rfl

theorem onField_closed (f : State → State) (s : State) (closed : s.partState = .unconfigured) : onField f s = s := by
  simp only [onField, closed]

theorem exec_fieldDiscard (i : Instr) (row : i = .fieldRecordDiscard ∨ i = .fieldGap) (s : State)
    (live : s.held = false) : exec i s = .next (onField (count .framesDiscarded) s) := by
  rcases row with rfl | rfl
  · exact whenLive_live (onField (count .framesDiscarded)) s live
  · exact whenLive_live (onField fun s => count .framesDiscarded s) s live

theorem exec_answerWindow (w : AnswerWindow) (s : State) (live : s.held = false) (open_ : s.field.window = some w) :
    exec .answerWindow s = .next (updChannel w.channel (fun ch => { ch with runState := .unknown })
      { s with now := clockAt w.deadline s, field := { s.field with window := none } }) := by
  show execAnswerWindow s = _
  rw [execAnswerWindow, whenLive_live _ _ live]
  simp only [open_, expire_some]

theorem exec_answerPeriod (deadline : Nat) (s : State) (live : s.held = false)
    (period : s.field.period = some deadline) : exec .answerPeriod s =
      .next (sendRecord { s with now := clockAt deadline s, field := { s.field with period := none } }) := by
  show execAnswerPeriod s = _
  rw [execAnswerPeriod, whenLive_live _ _ live]
  simp only [period, expire_some]

/-- Settles O42: the rows of the field line act outside UNCONFIGURED; its characters are heard there only. -/
theorem fieldLineTimesAndDiscards : Obligations.FieldLineTimesAndDiscards := by
  refine ⟨fun i s row live => ⟨fun open_ => ?_, fun closed => ?_⟩, fun deadline s live => ⟨fun c open_ => ?_,
    fun r rest period run list => ?_⟩, fun address value gap run b rest s live idle first =>
    ⟨fun closed => ?_, fun open_ low fit some_ h soon next => ?_⟩⟩
  · rw [exec_fieldDiscard i row s live, onField_open _ s open_, count_eq]
    rfl
  · rw [exec_fieldDiscard i row s live, onField_closed _ s closed]
  · exact exec_answerWindow { channel := c, deadline } s live open_
  · rw [exec_answerPeriod deadline s live period]
    exact congrArg _ (sendRecord_head r rest _ run list)
  · rw [step_arrival _ _ s idle first]
    refine takeArrival_deaf _ _ _ ?_
    simp [listensAt, closed]
  · rw [step_arrival _ _ s idle first]
    have whole := nextField_whole address value run [] (s.inputs.field.heard ++ [(s.inputs.field.lost + gap, b)]) []
      low fit nofun (soon_append some_ soon next) ((map_append_single _ _ b).trans h)
    rw [List.nil_append, List.append_nil] at whole
    refine takeArrival_row .field _ _ _ _ ?_ (hearChar_ends .field gap b s.inputs.field _ [] ?_)
    · simp [listensAt, live, open_]
    · exact (congrArg nextField (fromStart_progress .field _ _ some_ h)).trans whole

end Sys2Proof.Proofs
end


section
/-! SUPPORT. The orders of the host to one slot (R79, R99, R101, R111): what a pause, a resumption and a restart
order do to that slot's context, port and channels, and leave of everything else. -/

namespace Sys2Proof.Proofs

open Sys2Proof.Machine Sys2Proof.Safety Sys2Proof.Laws

/-! ### Vectors, slot numbers and the step that runs -/

/-- A vector that differs from another in one place. -/
theorem vector_eq_set {α : Type} {n : Nat} {v w : Vector α n} {k : Fin n} {x : α} (same : v[k] = x)
    (others : ∀ j : Fin n, j ≠ k → v[j] = w[j]) : v = w.set k x := by
  refine Vector.ext fun i low => ?_
  by_cases own : k.val = i
  · subst own
    rw [Vector.getElem_set_self]
    exact same
  · rw [Vector.getElem_set_ne k.isLt low own]
    exact others ⟨i, low⟩ fun h => own (congrArg Fin.val h).symm

theorem slotOf_val (k : Slot) : slotOf k.val = some k := dif_pos k.isLt

theorem slotOf_some {n : Nat} {k : Slot} (h : slotOf n = some k) : n = k.val := by
  unfold slotOf at h
  split at h
  · exact congrArg Fin.val (Option.some.inj h)
  · nomatch h

theorem runningStep_of {p : PlanNo} {i : Nat} {st : PlanStep} {s : State} (runs : RunsStep p i st s) :
    runningStep s = some (p, s.cfg.plans[p], i, st) := by
  obtain ⟨state, plan, step, found⟩ := runs
  simp only [runningStep, state, plan, step, found]

/-! ### The executor is told of an order (R111 step 4, R142) -/

theorem noteIssued_idle (k : Slot) (s : State) (idle : NoPlan s) : noteIssued k s = s := by
  simp only [noteIssued, runningStep_of_idle idle]

/-- A step that does not wait for an order takes no note of one. -/
theorem noteIssued_unqueued (k : Slot) (s : State) (h : s.executor.watch.outcome ≠ some .queued) :
    noteIssued k s = s := by
  unfold noteIssued
  split
  · exact if_neg fun ⟨_, _, queued⟩ => h queued
  · rfl

theorem noteIssued_queued (k : Slot) (s : State) {p : PlanNo} {i : Nat} {st : PlanStep} (runs : RunsStep p i st s)
    (kind : st.kind = .restart) (names : st.operand = k.val) (h : s.executor.watch.outcome = some .queued) :
    noteIssued k s =
      { s with executor := { s.executor with watch := { s.executor.watch with ordered := true } } } := by
  simp only [noteIssued, runningStep_of runs]
  exact if_pos ⟨kind, by rw [names, slotOf_val], h⟩

theorem noteIssued_form (k : Slot) (s : State) : ∃ x, noteIssued k s = { s with executor := x } := by
  unfold noteIssued
  split
  · split
    · exact ⟨_, rfl⟩
    · exact ⟨s.executor, rfl⟩
  · exact ⟨s.executor, rfl⟩

/-! ### REVOKE ahead of another order -/

/-- A slot in CONTROL is revoked first (R79, R91, R95, R99). -/
def revoked (k : Slot) (reason : RevokeReason) (s : State) : State :=
  if s.contexts[k].state = .control then sendOrder k (.revoke reason) s else s

/-- The orders that a revocation sends. -/
def revocation (k : Slot) (reason : RevokeReason) (s : State) : List Order :=
  if s.contexts[k].state = .control then [.revoke reason] else []

theorem revoked_slot (k : Slot) (reason : RevokeReason) (s : State) : SlotMoves k s (revoked k reason s) := by
  unfold revoked
  split
  · exact sendOrder_slot k _ s
  · exact .refl k s

theorem revoked_contexts (k : Slot) (reason : RevokeReason) (s : State) :
    (revoked k reason s).contexts = s.contexts := by
  unfold revoked
  split <;> rfl

theorem revoked_channels (k : Slot) (reason : RevokeReason) (s : State) :
    (revoked k reason s).channels = s.channels := by
  unfold revoked
  split <;> rfl

theorem revoked_port (k : Slot) (reason : RevokeReason) (s : State)
    (room : (s.ports[k].sendList ++ revocation k reason s).length ≤ 8) :
    (revoked k reason s).ports[k] =
      { s.ports[k] with sendList := s.ports[k].sendList ++ revocation k reason s } := by
  unfold revoked revocation at *
  split
  case isTrue control =>
    rw [if_pos control] at room
    exact sendOrder_room k _ s rfl (by simpa using room)
  case isFalse => rw [List.append_nil]

/-- A revocation is one order at most. -/
theorem revocation_fits (k : Slot) (reason : RevokeReason) (s : State) (room : s.ports[k].sendList.length < 7) :
    (s.ports[k].sendList ++ revocation k reason s).length < 8 := by
  unfold revocation
  split
  · simp only [List.length_append, List.length_singleton]
    omega
  · rw [List.append_nil]
    omega

/-! ### PAUSE and RESUME (R99, R101) -/

theorem pauseSlot_eq (k : Slot) (s : State) : pauseSlot k s =
    deriveOwned k (changeState k .paused none id (sendOrder k .pause (revoked k .pause s))) := rfl

theorem pauseSlot_slot (k : Slot) (s : State) : SlotMoves k s (pauseSlot k s) := by
  rw [pauseSlot_eq]
  exact (((revoked_slot k _ s).trans (sendOrder_slot k _ _)).trans (changeState_slot k _ _ _ _)).trans
    (deriveOwned_slot k _)

theorem pauseSlot_contexts (k : Slot) (s : State) :
    (pauseSlot k s).contexts = s.contexts.set k (contextEnters .paused none s.contexts[k]) := by
  have sent : (sendOrder k .pause (revoked k .pause s)).contexts = s.contexts := revoked_contexts k .pause s
  rw [pauseSlot_eq, (deriveOwned_plant k _).contexts, changeState_contexts, sent]
  rfl

theorem pauseSlot_port (k : Slot) (s : State)
    (room : (s.ports[k].sendList ++ revocation k .pause s).length < 8) : (pauseSlot k s).ports[k] =
      { s.ports[k] with
        reportTimer := none, sendList := s.ports[k].sendList ++ revocation k .pause s ++ [.pause] } := by
  have first := revoked_port k .pause s (Nat.le_of_lt room)
  have second := sendOrder_room k .pause (revoked k .pause s) rfl (by rw [first]; exact room)
  rw [pauseSlot_eq, (deriveOwned_plant k _).ports, changeState_port, second, first]
  rfl

/-- A pause keeps the demands and the match counts of its channels. -/
theorem pauseSlot_channel (k : Slot) (c : Chan) (s : State) :
    (pauseSlot k s).channels[c].demand = s.channels[c].demand ∧
    (pauseSlot k s).channels[c].matchCount = s.channels[c].matchCount := by
  have sent : (sendOrder k .pause (revoked k .pause s)).channels = s.channels := revoked_channels k .pause s
  have flags := (deriveOwned_plant k (changeState k .paused none id
    (sendOrder k .pause (revoked k .pause s)))).flags c
  rw [changeState_channel, sent] at flags
  exact ⟨flags.demand, flags.matchCount⟩

theorem resumeSlot_eq (k : Slot) (s : State) : resumeSlot k s =
    enterTrack k .resumed (s.cfg.computers[k].pausePolicy == .clear) (sendOrder k .resume s) := rfl

theorem resumeSlot_slot (k : Slot) (s : State) : SlotMoves k s (resumeSlot k s) :=
  (sendOrder_slot k _ s).trans (enterTrack_slot k _ _ _)

theorem resumeSlot_port (k : Slot) (s : State) (paused : s.contexts[k].state = .paused)
    (room : s.ports[k].sendList.length < 8) : (resumeSlot k s).ports[k] =
      { s.ports[k] with
        reportTimer := some (s.now + s.cfg.computers[k].reportTimeout)
        sendList := s.ports[k].sendList ++ [.resume] } := by
  have silent : reporting (sendOrder k .resume s).contexts[k].state = false := (congrArg reporting paused).trans rfl
  rw [resumeSlot_eq, enterTrack_port, silent, sendOrder_room k _ s rfl room]
  rfl

/-- Settles O20: the answers test the slot's state, and the two effects are those of `pauseSlot` and
`resumeSlot`. -/
theorem pauseAndResume : Obligations.PauseAndResume := by
  refine ⟨fun tag k s run taken => ⟨fun able room => ?_, fun unable => ?_⟩,
    fun tag k s run taken => ⟨fun paused room => ?_, fun other => ?_⟩⟩
  · have answer : pauseAnswer (b1 k.val) (leaveQueue s) = accept (pauseSlot k) :=
      (withSlot_order k (leaveQueue s) _ run).trans (if_pos able)
    have slot := pauseSlot_slot k (repliedOk 0x32 tag s)
    refine ⟨_, takeCommand_accepted _ _ _ _ _ _ taken answer, slot.cfg, slot.window, ?_, ?_, ?_⟩
    · exact pauseSlot_contexts k _
    · exact pauseSlot_port k (repliedOk 0x32 tag s) (revocation_fits k .pause (repliedOk 0x32 tag s) room)
    · exact fun c => pauseSlot_channel k c _
  · exact takeCommand_refused _ _ _ _ _ _ taken
      ((withSlot_order k (leaveQueue s) _ run).trans (if_neg (Bool.eq_false_iff.mp unable)))
  · have answer : resumeAnswer (b1 k.val) (leaveQueue s) = accept (resumeSlot k) :=
      (withSlot_order k (leaveQueue s) _ run).trans (if_pos paused)
    have context := enterTrack_get k k .resumed (s.cfg.computers[k].pausePolicy == .clear)
      (sendOrder k .resume (repliedOk 0x33 tag s))
    rw [if_pos rfl] at context
    have port := resumeSlot_port k (repliedOk 0x33 tag s) paused room
    refine ⟨resumeSlot k (repliedOk 0x33 tag s), takeCommand_accepted _ _ _ _ _ _ taken answer,
      (resumeSlot_slot k _).cfg, ?_, ?_, ?_, ?_, ?_, fun c own => ?_⟩
    · exact congrArg Context.state context
    · exact congrArg Context.trackCause context
    · exact congrArg Context.activeStyle context
    · exact congrArg Port.reportTimer port
    · exact congrArg Port.sendList port
    · refine (enterTrack_matches k .resumed _ c (sendOrder k .resume (repliedOk 0x33 tag s)) own).trans ?_
      show (if (s.cfg.computers[k].pausePolicy == .clear) = true then 0 else s.channels[c].matchCount) = _
      cases s.cfg.computers[k].pausePolicy <;> rfl
  · exact takeCommand_refused _ _ _ _ _ _ taken ((withSlot_order k (leaveQueue s) _ run).trans (if_neg other))

/-! ### A restart order (R79, R111) -/

/-- An order that finds the slot in FAULT forgives its failures. -/
def forgiven (k : Slot) (s : State) : State :=
  if s.contexts[k].state = .fault then updContext k (fun x => { x with failures := 0 }) s else s

theorem orderTaken_eq (k : Slot) (s : State) (settle : s.contexts[k].state ≠ .settle)
    (vacant : s.contexts[k].state ≠ .vacant) :
    orderTaken k s = enterSettle k (sendRestart k (forgiven k (revoked k .order s))) := by
  have same (state : s.contexts[k].state ≠ .control) : revoked k .order s = s := if_neg state
  unfold orderTaken forgiven
  rw [revoked_contexts]
  split
  case h_1 state =>
    rw [if_neg (by rw [state]; nofun)]
    exact congrArg (fun t => enterSettle k (sendRestart k t)) (if_pos state).symm
  case h_2 state => rw [if_pos state, same (by rw [state]; nofun)]
  case h_7 state => exact absurd state settle
  case h_8 state => exact absurd state vacant
  all_goals
    next state => rw [if_neg (by rw [state]; nofun), same (by rw [state]; nofun)]

theorem forgiven_slot (k : Slot) (s : State) : SlotMoves k s (forgiven k s) := by
  unfold forgiven
  split
  · exact updContext_slot k _ s
  · exact .refl k s

theorem forgiven_channels (k : Slot) (s : State) : (forgiven k s).channels = s.channels := by
  unfold forgiven
  split <;> rfl

theorem forgiven_ports (k : Slot) (s : State) : (forgiven k s).ports = s.ports := by
  unfold forgiven
  split <;> rfl

theorem orderTaken_slot (k : Slot) (s : State) : SlotMoves k s (orderTaken k s) := by
  by_cases settle : s.contexts[k].state = .settle
  · have : orderTaken k s = s := by simp only [orderTaken, settle]
    rw [this]
    exact .refl k s
  by_cases vacant : s.contexts[k].state = .vacant
  · have : orderTaken k s = s := by simp only [orderTaken, vacant]
    rw [this]
    exact .refl k s
  · rw [orderTaken_eq k s settle vacant]
    exact (((revoked_slot k _ s).trans (forgiven_slot k _)).trans (sendRestart_slot k _)).trans (enterSettle_slot k _)

theorem orderTaken_port (k : Slot) (s : State) (settle : s.contexts[k].state ≠ .settle)
    (vacant : s.contexts[k].state ≠ .vacant)
    (room : (s.ports[k].sendList ++ revocation k .order s).length < 8) : (orderTaken k s).ports[k] =
      { s.ports[k] with
        expectation := none, reportTimer := none
        sendList := s.ports[k].sendList ++ revocation k .order s ++
          [.restart s.cfg.computers[k].settleCode] } := by
  have moves := (revoked_slot k .order s).trans (forgiven_slot k (revoked k .order s))
  have first : (forgiven k (revoked k .order s)).ports[k] =
      { s.ports[k] with sendList := s.ports[k].sendList ++ revocation k .order s } := by
    rw [forgiven_ports]
    exact revoked_port k .order s (Nat.le_of_lt room)
  rw [orderTaken_eq k s settle vacant, enterSettle_port, sendRestart,
    sendOrder_room k _ _ rfl (by rw [first]; exact room), first, moves.cfg]

theorem enterSettle_demand (k : Slot) (c : Chan) (s : State) (own : owns s k c = true) :
    (enterSettle k s).channels[c].demand = none := by
  unfold enterSettle
  dsimp only
  rw [((deriveOwned_plant k _).flags c).demand, changeState_channel]
  exact congrArg ChannelRun.demand (if_pos own)

theorem orderTaken_demand (k : Slot) (c : Chan) (s : State) (settle : s.contexts[k].state ≠ .settle)
    (vacant : s.contexts[k].state ≠ .vacant) (own : owns s k c = true) :
    (orderTaken k s).channels[c].demand = none := by
  have moves := (revoked_slot k .order s).trans (forgiven_slot k (revoked k .order s))
  rw [orderTaken_eq k s settle vacant]
  refine enterSettle_demand k c _ ?_
  rw [owns, (moves.trans (sendRestart_slot k _)).cfg]
  exact own

/-- An order counts no match anew. -/
theorem orderTaken_matches (k : Slot) (c : Chan) (s : State) (settle : s.contexts[k].state ≠ .settle)
    (vacant : s.contexts[k].state ≠ .vacant) :
    (orderTaken k s).channels[c].matchCount = s.channels[c].matchCount := by
  have keeps (own : Bool) (ch : ChannelRun) : (demandEnters .settle own ch).matchCount = ch.matchCount := by
    cases own <;> rfl
  have before : (sendRestart k (forgiven k (revoked k .order s))).channels = s.channels :=
    (forgiven_channels k _).trans (revoked_channels k .order s)
  rw [orderTaken_eq k s settle vacant]
  generalize sendRestart k (forgiven k (revoked k .order s)) = u at before ⊢
  unfold enterSettle
  dsimp only
  rw [((deriveOwned_plant k _).flags c).matchCount, changeState_channel, keeps, before]

/-- An order reaches the modes of its own channels only. -/
theorem orderTaken_mode (k : Slot) (c : Chan) (s : State) (settle : s.contexts[k].state ≠ .settle)
    (vacant : s.contexts[k].state ≠ .vacant) (foreign : owns s k c = false) :
    (orderTaken k s).channels[c].mode = s.channels[c].mode := by
  have keeps (own : Bool) (ch : ChannelRun) : (demandEnters .settle own ch).mode = ch.mode := by
    cases own <;> rfl
  have before : (sendRestart k (forgiven k (revoked k .order s))).channels = s.channels :=
    (forgiven_channels k _).trans (revoked_channels k .order s)
  have cfg : (sendRestart k (forgiven k (revoked k .order s))).cfg = s.cfg :=
    (((revoked_slot k .order s).trans (forgiven_slot k _)).trans (sendRestart_slot k _)).cfg
  rw [orderTaken_eq k s settle vacant]
  generalize sendRestart k (forgiven k (revoked k .order s)) = u at before cfg ⊢
  unfold enterSettle
  dsimp only
  rw [deriveOwned, deriveEach_mode, if_neg, changeState_channel, keeps, before]
  intro mem
  have own := (List.mem_filter.mp mem).2
  rw [owns, (changeState_slot k _ _ _ u).cfg, cfg, ← owns, foreign] at own
  nomatch own

/-- What the issue of a restart order does to its slot and to the window unit (R79, R111), the executor's note
aside. -/
structure Issued (k : Slot) (s t : State) : Prop where
  cfg : t.cfg = s.cfg
  now : t.now = s.now
  events : t.events = s.events
  supervisory : t.supervisory = s.supervisory
  contexts : t.contexts = s.contexts.set k { contextEnters .settle none s.contexts[k] with
    inProgress := true
    failures := if s.contexts[k].state = .fault then 0 else s.contexts[k].failures
    settleTimer := some (s.now + settleSeconds s.cfg.computers[k].settleCode * 1000) }
  count : countOf t (boreOf s k) = countOf s (boreOf s k) + 1
  waitList : t.window.waitList = s.window.waitList.filter (·.slot != k)
  port : (s.ports[k].sendList ++ revocation k .order s).length < 8 → t.ports[k] =
    { s.ports[k] with
      expectation := none, reportTimer := none
      sendList := s.ports[k].sendList ++ revocation k .order s ++ [.restart s.cfg.computers[k].settleCode] }
  others : ∀ j : Slot, j ≠ k → t.ports[j] = s.ports[j]
  demands : ∀ c : Chan, owns s k c = true → t.channels[c].demand = none
  matches_ : ∀ c : Chan, t.channels[c].matchCount = s.channels[c].matchCount
  modes : ∀ c : Chan, owns s k c = false → t.channels[c].mode = s.channels[c].mode

theorem Issued.context {k : Slot} {s t : State} (h : Issued k s t) :
    t.contexts[k] = { contextEnters .settle none s.contexts[k] with
      inProgress := true
      failures := if s.contexts[k].state = .fault then 0 else s.contexts[k].failures
      settleTimer := some (s.now + settleSeconds s.cfg.computers[k].settleCode * 1000) } := by
  rw [h.contexts]
  exact Vector.getElem_set_self k.isLt

theorem ordered_issued (k : Slot) (s : State) (can : canIssue s.contexts[k] = true) :
    Issued k s (orderTaken k (flagged k s)) := by
  obtain ⟨-, vacant, settle⟩ := (canIssue_iff _).mp can
  have cfg := flagged_cfg k s
  have state : (flagged k s).contexts[k].state = s.contexts[k].state := by rw [flagged_contexts, if_pos rfl]
  have settle' : (flagged k s).contexts[k].state ≠ .settle := by rw [state]; exact settle
  have vacant' : (flagged k s).contexts[k].state ≠ .vacant := by rw [state]; exact vacant
  have slot := orderTaken_slot k (flagged k s)
  have ports : (flagged k s).ports = s.ports := by simp [flagged]
  have revocation' : revocation k .order (flagged k s) = revocation k .order s := by
    rw [revocation, state]
    rfl
  refine ⟨slot.cfg.trans cfg, slot.now.trans (by simp [flagged]), slot.events.trans (by simp [flagged]),
    slot.supervisory.trans (by simp [flagged]), ?_, ?_, ?_, fun room => ?_, fun j other => ?_, fun c own => ?_,
    fun c => ?_, fun c foreign => ?_⟩
  · exact vector_eq_set ((ordered_contexts k k s can).trans (if_pos rfl))
      fun j other => (ordered_contexts k j s can).trans (if_neg other)
  · have window : countOf (orderTaken k (flagged k s)) (boreOf s k) = countOf (flagged k s) (boreOf s k) := by
      cases boreOf s k <;> simp only [countOf, orderTaken_window]
    rw [window, flagged, countOf_updCount]
    exact (if_pos rfl).trans (by cases boreOf s k <;> rfl)
  · rw [orderTaken_window, flagged]
    cases boreOf _ k <;> rfl
  · rw [orderTaken_port k _ settle' vacant' (by rw [ports, revocation']; exact room), ports, revocation', cfg]
  · rw [slot.ports j other, ports]
  · exact orderTaken_demand k c _ settle' vacant' (by rw [owns, cfg]; exact own)
  · rw [orderTaken_matches k c _ settle' vacant', show (flagged k s).channels = s.channels by simp [flagged]]
  · rw [orderTaken_mode k c _ settle' vacant' (by rw [owns, cfg]; exact foreign),
      show (flagged k s).channels = s.channels by simp [flagged]]

/-- An order that can be issued is issued; the executor alone takes a note of it. -/
theorem issueOrder_issued (k : Slot) (s : State) (can : canIssue s.contexts[k] = true) :
    Issued k s (issueOrder k s) := by
  have issued := ordered_issued k s can
  obtain ⟨x, form⟩ := noteIssued_form k (orderTaken k (flagged k s))
  rw [issueOrder_of_can k s can, form]
  generalize orderTaken k (flagged k s) = u at issued ⊢
  obtain ⟨cfg, now, events, supervisory, contexts, count, waitList, port, others, demands, matches_, modes⟩ := issued
  exact ⟨cfg, now, events, supervisory, contexts, by rw [← count]; cases boreOf s k <;> rfl, waitList, port, others,
    demands, matches_, modes⟩

theorem ordered_executor (k : Slot) (s : State) : (orderTaken k (flagged k s)).executor = s.executor := by
  rw [(orderTaken_slot k (flagged k s)).executor]
  simp [flagged]

theorem ordered_cfg (k : Slot) (s : State) : (orderTaken k (flagged k s)).cfg = s.cfg := by
  rw [(orderTaken_slot k (flagged k s)).cfg, flagged_cfg]

theorem issueOrder_executor_idle (k : Slot) (s : State) (can : canIssue s.contexts[k] = true) (idle : NoPlan s) :
    (issueOrder k s).executor = s.executor := by
  rw [issueOrder_of_can k s can, noteIssued_idle _ _ (by rw [NoPlan, ordered_executor]; exact idle),
    ordered_executor]

theorem issueOrder_executor_unqueued (k : Slot) (s : State) (can : canIssue s.contexts[k] = true)
    (h : s.executor.watch.outcome ≠ some .queued) : (issueOrder k s).executor = s.executor := by
  rw [issueOrder_of_can k s can, noteIssued_unqueued _ _ (by rw [ordered_executor]; exact h), ordered_executor]

theorem issueOrder_executor_queued (k : Slot) (s : State) (can : canIssue s.contexts[k] = true) {p : PlanNo}
    {i : Nat} {st : PlanStep} (runs : RunsStep p i st s) (kind : st.kind = .restart) (names : st.operand = k.val)
    (h : s.executor.watch.outcome = some .queued) : (issueOrder k s).executor =
      { s.executor with watch := { s.executor.watch with ordered := true } } := by
  have executor := ordered_executor k s
  have runs' : RunsStep p i st (orderTaken k (flagged k s)) := by
    rw [RunsStep, executor, ordered_cfg]
    exact runs
  rw [issueOrder_of_can k s can, noteIssued_queued _ _ runs' kind names (by rw [executor]; exact h), executor]

theorem isWaiting_none (k : Slot) (s : State) (none : NoneWaiting s) : isWaiting s k = false := by
  rw [isWaiting, none]
  rfl

theorem boreWaits_none (b : Bore) (s : State) (none : NoneWaiting s) : boreWaits s b = false := by
  rw [boreWaits, none]
  rfl

/-- Settles O17: with a free window slot the request finds the row of issue, and what it does is `Issued`. -/
theorem restartIsIssued : Obligations.RestartIsIssued := by
  intro tag k s run idle present unsettled none free room taken
  have can : canIssue (repliedOk 0x30 tag s).contexts[k] = true := (canIssue_iff _).mpr ⟨idle, present, unsettled⟩
  have row (u : State) (h : requestRow u k = requestRow s k) : requestRow u k = .issue :=
    h.trans (requestRow_issue k s idle (isWaiting_none k s none) present free (boreWaits_none _ s none))
  have answer : restartAnswer (b1 k.val) (leaveQueue s) = accept (takeRequest .supervisor k) :=
    (restartAnswer_run k (leaveQueue s) run).trans
      ((answerRestart_rows k (leaveQueue s)).2.2.1 (row (leaveQueue s) rfl))
  have effect := (takeCommand_accepted _ _ _ _ _ _ taken answer).trans
    (congrArg _ (takeRequest_issue .supervisor k (repliedOk 0x30 tag s) (row (repliedOk 0x30 tag s) rfl)))
  have issued := issueOrder_issued k (repliedOk 0x30 tag s) can
  have port := issued.port (revocation_fits k .order (repliedOk 0x30 tag s) room)
  refine ⟨_, effect, issued.cfg, ?_, issued.contexts, issued.count, ?_, ?_, ?_, ?_, issued.demands, issued.others,
    fun plan => ?_, fun p i st runs kind names queued => ?_⟩
  · rw [issued.supervisory]
    exact repliesOf_reply ..
  · rw [issued.waitList, show (repliedOk 0x30 tag s).window.waitList = [] from none]
    rfl
  · exact congrArg Port.sendList port
  · exact congrArg Port.expectation port
  · exact congrArg Port.reportTimer port
  · exact issueOrder_executor_idle k _ can plan
  · exact issueOrder_executor_queued k (repliedOk 0x30 tag s) can runs kind names queued

end Sys2Proof.Proofs
end


section
/-! SUPPORT. Steps of a plan that begin, end and fail (R127 to R149) as far as a WAIT that follows them, the
timers of the plant (R15, R29, R40, R55), the trigger edge (R146, R187), and FORCE and UNFORCE (R19, R20). -/

namespace Sys2Proof.Proofs

open Sys2Proof.Machine Sys2Proof.Safety Sys2Proof.Laws

/-! ### Chains of steps -/

/-- The steps behind one that another follows begin with that one. -/
theorem stepsAfter_next (r : PlanRecord) (i : Nat) (next : PlanStep) (follows : r.steps[i + 1]? = some next) :
    ∃ rest, stepsAfter r i = (next, i + 1) :: rest := by
  obtain ⟨low, rfl⟩ := List.getElem?_eq_some_iff.mp follows
  refine ⟨r.steps.zipIdx.drop (i + 2), ?_⟩
  rw [stepsAfter, List.drop_eq_getElem_cons (by simpa using low)]
  simp

theorem stepsAfter_last (r : PlanRecord) (i : Nat) (last : r.steps.length ≤ i + 1) : stepsAfter r i = [] :=
  List.drop_eq_nil_of_le (by simpa using last)

/-- A chain that comes to a WAIT rests there (R131). -/
theorem runSteps_wait (p : PlanNo) (onFail : OnFail) (onEnd : State → State) (st : PlanStep) (i : Nat)
    (rest : List (PlanStep × Nat)) (s : State) (wait : st.kind = .wait) :
    runSteps p onFail onEnd ((st, i) :: rest) s = { s with executor := waitingAt i st s.now s.executor } := by
  have starts : startStep p i st s = ({ s with executor := waitingAt i st s.now s.executor }, .waits) := by
    simp only [startStep, startAction, wait]
    rfl
  simp only [runSteps, starts]

theorem completeStep_wait (p : PlanNo) (r : PlanRecord) (i : Nat) (next : PlanStep) (s : State)
    (follows : r.steps[i + 1]? = some next) (wait : next.kind = .wait) :
    completeStep p r i s = { s with executor := waitingAt (i + 1) next s.now s.executor } := by
  obtain ⟨rest, steps⟩ := stepsAfter_next r i next follows
  rw [completeStep, steps, runSteps_wait _ _ _ _ _ _ _ wait]
  rfl

theorem startPass_wait (p : PlanNo) (r : PlanRecord) (st : PlanStep) (rest : List PlanStep) (s : State)
    (steps : r.steps = st :: rest) (wait : st.kind = .wait) :
    startPass p r s = { s with executor := { waitingAt 0 st s.now s.executor with stretched := false } } := by
  rw [startPass, steps, List.zipIdx_cons, runSteps_wait _ _ _ _ _ _ _ wait]
  rfl

/-! ### The trigger edge (R146) -/

theorem takeEdge_idle (s : State) (idle : s.executor.state = .idle) : takeEdge s = count .triggerIgnored s := by
  unfold takeEdge
  split
  next other _ => nomatch idle.symm.trans other
  next other _ => nomatch idle.symm.trans other
  next other _ => nomatch idle.symm.trans other
  next => rfl

theorem takeEdge_armed (p : PlanNo) (s : State) (armed : s.executor.state = .armed) (plan : s.executor.plan = some p) :
    takeEdge s = startPass p s.cfg.plans[p] s := by
  simp only [takeEdge, armed, plan]

/-- Between passes the start mode decides whether an edge starts one. -/
theorem takeEdge_passWait (p : PlanNo) (s : State) (waits : s.executor.state = .passWait)
    (plan : s.executor.plan = some p) :
    (s.cfg.plans[p].startMode = .onTrigger → takeEdge s = startPass p s.cfg.plans[p] s) ∧
    (s.cfg.plans[p].startMode = .immediate → takeEdge s = count .triggerIgnored s) := by
  constructor <;> intro mode <;> simp only [takeEdge, waits, plan, mode]

/-- An edge while a step runs: it completes a WAIT-TRIGGER step; to another it means nothing in an IMMEDIATE plan,
and is an overrun in an ON_TRIGGER one. -/
theorem takeEdge_running (p : PlanNo) (i : Nat) (st : PlanStep) (s : State) (runs : RunsStep p i st s) :
    (st.kind = .waitTrigger → takeEdge s = completeStep p s.cfg.plans[p] i s) ∧
    (st.kind ≠ .waitTrigger →
      (s.cfg.plans[p].startMode = .immediate → takeEdge s = count .triggerIgnored s) ∧
      (s.cfg.plans[p].startMode = .onTrigger →
        (s.cfg.plans[p].overrun = .abort →
          takeEdge s = endPlan p .abortedOverrun (latch .planOverrun none s)) ∧
        (s.cfg.plans[p].overrun = .stretch →
          takeEdge s = count .triggerIgnored (latch .planOverrun none s)))) := by
  have step := runningStep_of runs
  obtain ⟨state, plan, -, -⟩ := runs
  refine ⟨fun kind => ?_, fun other => ⟨fun mode => ?_, fun mode => ⟨fun overrun => ?_, fun overrun => ?_⟩⟩⟩
  · simp only [takeEdge, state, plan, step, kind, if_true]
  · simp only [takeEdge, state, plan, step, if_neg other, mode]
  · simp only [takeEdge, state, plan, step, if_neg other, mode, overrun]
  · simp only [takeEdge, state, plan, step, if_neg other, mode, overrun]

/-- A report other than this one leaves the flag of this kind. -/
theorem latch_events_other (k j : EventKind) (item : Option Item) (s : State) (other : eventIndex j ≠ eventIndex k) :
    (latch k item s).events[eventIndex j] = s.events[eventIndex j] := by
  have apart : (eventIndex k).val ≠ (eventIndex j).val := fun same => other (Fin.ext same.symm)
  simp only [latch_events, Fin.getElem_fin, Vector.getElem_set_ne _ _ apart]

/-- An edge that overruns a pass (R147). -/
theorem takeEdge_overrun (p : PlanNo) (i : Nat) (st : PlanStep) (s : State) (runs : RunsStep p i st s)
    (other : st.kind ≠ .waitTrigger) (mode : s.cfg.plans[p].startMode = .onTrigger) :
    (takeEdge s).events[(8 : Fin 16)] = { latched := true, item := none } ∧
    (s.cfg.plans[p].overrun = .abort → (takeEdge s).executor.state = .idle ∧
      (takeEdge s).executor.lastResult = .abortedOverrun ∧ (takeEdge s).counter = s.counter) ∧
    (s.cfg.plans[p].overrun = .stretch → (takeEdge s).executor = s.executor ∧
      (takeEdge s).counter = countedOnce .triggerIgnored s) := by
  have latched := latch_latched .planOverrun none s
  obtain ⟨aborts, stretches⟩ := ((takeEdge_running p i st s runs).2 other).2 mode
  cases overrun : s.cfg.plans[p].overrun
  case abort =>
    rw [aborts overrun]
    refine ⟨?_, fun _ => ⟨?_, ?_, ?_⟩, nofun⟩
    · exact (latch_events_other .planAborted .planOverrun none _ (by decide)).trans latched
    · exact congrArg Executor.state (endPlan_executor p .abortedOverrun (latch .planOverrun none s))
    · exact congrArg Executor.lastResult (endPlan_executor p .abortedOverrun (latch .planOverrun none s))
    · rw [endPlan_eq, latch_eq, latch_eq]
      rfl
  case stretch =>
    rw [stretches overrun, count_eq]
    refine ⟨latched, nofun, fun _ => ⟨latch_executor .planOverrun none s, ?_⟩⟩
    show (if (latch .planOverrun none s).cfg.counterSource = _ ∧ _ then min 255 ((latch .planOverrun none s).counter + 1)
      else (latch .planOverrun none s).counter) = _
    rw [latch_eq]
    rfl

/-- The rising edge that the filter of the trigger input brings. -/
theorem pinEvent_trigger (s : State) (due : isDue s.now s.pins.trigger.filter = true)
    (quiet : isDue s.now s.pins.reset.filter = false) (l : List Arrival) :
    pinEvent { s with arriving := l } = some (.planTriggerEdge, filterTaken .planTrigger { s with arriving := l }) := by
  have off : ¬isDue s.now s.pins.reset.filter = true := Bool.eq_false_iff.mp quiet
  exact (if_neg off).trans (if_pos due)

theorem triggerAt_level (high : Bool) (now : Nat) (p : TriggerInput) : triggerAt high now p =
    if high = p.high then p
    else if high = false then { high := false, since := now, filter := none }
    else if p.since + 10 ≤ now then { high := true, since := now, filter := some (now + 10) }
    else { high := true, since := now, filter := none } := by
  by_cases same : high = p.high
  · rw [if_pos same, same, triggerAt_same]
  · rw [if_neg same]
    cases high with
    | false =>
      rw [if_pos rfl]
      exact triggerAt_fall now p (by simpa using Ne.symm same)
    | true =>
      rw [triggerAt_rise now p (by simpa using Ne.symm same), if_neg (show ¬true = false from nofun)]
      split <;> rfl

/-- Settles O50: the edge by the executor's state, and the levels of the input by its filter. -/
theorem edgeByExecutorState : Obligations.EdgeByExecutorState := by
  refine ⟨fun s live => ?_, fun high others s idle open_ arrives => ?_, fun ends s idle filter reset deaf => ?_⟩
  · have row : exec .planTriggerEdge s = .next (takeEdge s) := whenLive_live takeEdge s live
    rw [row]
    have counted : Host.Outcome.next (count .triggerIgnored s) =
        (Host.Outcome.next { s with counter := countedOnce .triggerIgnored s } : Host.Outcome State Fault Refusal) := by
      rw [count_eq]
      rfl
    refine ⟨fun state => ?_, fun p plan => ⟨fun waits mode => ?_, fun st rest starts steps wait => ?_,
      fun i st runs step found => ⟨fun trigger next follows wait => ?_, fun other mode => ?_⟩,
      fun i st runs step found other mode => ?_⟩⟩
    · rw [takeEdge_idle s state]
      exact counted
    · rw [(takeEdge_passWait p s waits plan).2 mode]
      exact counted
    · have begins : takeEdge s = startPass p s.cfg.plans[p] s := by
        rcases starts with armed | ⟨waits, mode⟩
        · exact takeEdge_armed p s armed plan
        · exact (takeEdge_passWait p s waits plan).1 mode
      rw [begins, startPass_wait p _ st rest s steps wait]
    · rw [(takeEdge_running p i st s ⟨runs, plan, step, found⟩).1 trigger,
        completeStep_wait p _ i next s follows wait]
    · rw [((takeEdge_running p i st s ⟨runs, plan, step, found⟩).2 other).1 mode]
      exact counted
    · exact ⟨_, rfl, takeEdge_overrun p i st s ⟨runs, plan, step, found⟩ other mode⟩
  · rw [step_arrival _ _ s idle arrives]
    refine takeArrival_level .planTrigger high _ _ (pinEvent_open { s with arriving := others } open_) ?_
    simp only [setLevel, triggerAt_level]
  · have quiet : isDue s.now s.pins.reset.filter = false := isDue_of_open reset
    refine ⟨fun due => ?_, fun ms others early arrives still => ?_⟩
    · have ran : isDue s.now s.pins.trigger.filter = true := by
        rw [filter]
        exact decide_eq_true due
      exact step_pinEvent .planTriggerEdge .planTrigger s idle deaf (pinEvent_trigger s ran quiet)
    · have waits : isDue s.now s.pins.trigger.filter = false := by
        rw [filter]
        exact decide_eq_false (Nat.not_le.mpr early)
      have none : ownEvent { s with arriving := others } = none := by
        have spontaneous' : spontaneous { s with arriving := others } = none := still
        simp only [ownEvent, pinEvent_none { s with arriving := others } quiet waits, spontaneous', Option.map_none]
      rw [step_arrival _ _ s idle arrives, takeArrival_passes _ _ none]
      rfl

/-! ### Timers of the plant (R15, R29, R40, R55) -/

theorem setDriveFault_clear (c : Chan) (s : State) (clear : s.channels[c].driveFault = false) :
    setDriveFault c s = latch .driveFault (some (.channel c)) (withdraw c
      (updChannel c (fun ch => { ch with driveFault := true, startConfirm := none }) s)) :=
  if_neg (Bool.eq_false_iff.mp clear)

/-- The start-confirm timer's expiry sets the drive fault (R15, R16). -/
theorem exec_startConfirm (deadline : Nat) (c : Chan) (s : State) (live : s.held = false)
    (timer : s.channels[c].startConfirm = some deadline) (clear : s.channels[c].driveFault = false) :
    exec (.startConfirmTimer c) s = .next (latch .driveFault (some (.channel c)) (withdraw c
      (updChannel c (fun ch => { ch with driveFault := true, startConfirm := none })
        { s with now := clockAt deadline s }))) := by
  show execStartConfirmTimer c s = _
  rw [execStartConfirmTimer, whenLive_live _ _ live, timer, expire_some, setDriveFault_clear, updChannel_twice]
  · rfl
  · rw [updChannel_get, if_pos rfl]
    exact clear

/-- With one entry at most for a channel, the channel's entry is the one that is found. -/
theorem entryOf_mem (s : State) (e : AdmissionEntry) (mem : e ∈ s.admission.queue)
    (nodup : (s.admission.queue.map (·.channel)).Nodup) : entryOf s e.channel = some e := by
  cases found : entryOf s e.channel with
  | none => exact absurd (beq_self_eq_true e.channel) (List.find?_eq_none.mp found e mem)
  | some x =>
    obtain ⟨memX, same⟩ := entryOf_some found
    exact congrArg some (List.inj_on_of_nodup_map nodup memX mem same)

theorem exec_starvation (deadline : Nat) (e : AdmissionEntry) (s : State) (live : s.held = false)
    (entry : entryOf s e.channel = some e) (timer : e.starvation = some deadline) (new : e.reported = false) :
    exec (.starvationTimer e.channel) s = .next (latch .budgetStarved (some (.channel e.channel))
      (updEntry e.channel (fun x => { x with starvation := none, reported := true })
        { s with now := clockAt deadline s })) := by
  show execStarvationTimer e.channel s = _
  rw [execStarvationTimer, whenLive_live _ _ live]
  simp only [entry, timer, expire_some, starve, new, Bool.false_eq_true, if_false]

theorem exec_age (deadline : Nat) (s : State) (live : s.held = false) (timer : s.daylight.ageTimer = some deadline) :
    exec .ageTimer s = .next (latch .daylightStale none { s with
      now := clockAt deadline s, daylight := { s.daylight with ageTimer := none, stale := true } }) := by
  show execAgeTimer s = _
  rw [execAgeTimer, whenLive_live _ _ live, timer, expire_some]

theorem exec_refill (deadline : Nat) (s : State) (live : s.held = false)
    (timer : s.admission.refillTimer = some deadline) :
    exec .refillTimer s =
      .next (noteCredit (serve (refillCredit (restartRefill { s with now := clockAt deadline s })))) := by
  show execRefillTimer s = _
  rw [execRefillTimer, whenLive_live _ _ live, timer, expire_some]

theorem noteCredit_idle (s : State) (idle : NoPlan s) : noteCredit s = s := by
  simp only [noteCredit, runningStep_of_idle idle]

theorem noteCredit_running (p : PlanNo) (i : Nat) (st : PlanStep) (s : State) (runs : RunsStep p i st s)
    (kind : st.kind = .awaitCredit) : noteCredit s =
      if st.operand ≤ s.admission.credit then completeStep p s.cfg.plans[p] i s else s := by
  simp only [noteCredit, runningStep_of runs, kind, true_and]

theorem serve_empty (s : State) (empty : s.admission.queue = []) : serve s = s := by
  rw [serve, empty, serveQueue, setQueue, ← empty]

/-- Settles O46: each expiry is one change of its timer's block under one report, and the refill is followed by
a serving and the executor's look at credit. -/
theorem plantTimersAct : Obligations.PlantTimersAct := by
  refine fun deadline c s live => ⟨fun timer clear => ?_, ?_, fun timer => ?_, ?_⟩
  · refine ⟨_, exec_startConfirm deadline c s live timer clear, ?_, latch_latched .driveFault _ _, ?_⟩
    · rw [latch_channels]
      rfl
    · rw [latch_supervisory]
      exact noticeAfter_congr 11 rfl rfl rfl rfl rfl
  · rintro e mem nodup rfl new timer
    refine ⟨_, exec_starvation deadline e s live (entryOf_mem s e mem nodup) timer new, ?_, ?_,
      latch_latched .budgetStarved _ _, ?_⟩
    · rw [latch_admission, updEntry, setQueue]
      simp only [beq_iff_eq]
    · rw [latch_channels]
      rfl
    · rw [latch_supervisory]
      exact noticeAfter_congr 10 rfl rfl rfl rfl rfl
  · refine ⟨_, exec_age deadline s live timer, ?_, ?_, latch_latched .daylightStale _ _, ?_⟩
    · rw [latch_eq]
    · rw [latch_channels]
    · rw [latch_supervisory]
      exact noticeAfter_congr 12 rfl rfl rfl rfl rfl
  · intro r timer form
    have row : exec .refillTimer s = .next (noteCredit (serve r)) := by
      rw [exec_refill deadline s live timer, form]
      rfl
    have stays := serve_plant r
    have executor : (serve r).executor = s.executor := by rw [stays.executor, form]
    have cfg : (serve r).cfg = s.cfg := by rw [stays.cfg, form]
    have now : (serve r).now = clockAt deadline s := by rw [stays.now, form]
    have idle (plan : NoPlan s) : exec .refillTimer s = .next (serve r) := by
      rw [row, noteCredit_idle (serve r) (by rw [NoPlan, executor]; exact plan)]
    refine ⟨fun plan empty => ?_, idle, fun p i st state plan step found kind => ?_⟩
    · rw [idle plan, serve_empty r (by rw [form]; exact empty)]
    · have runs : RunsStep p i st (serve r) := by
        rw [RunsStep, executor, cfg]
        exact ⟨state, plan, step, found⟩
      rw [row, noteCredit_running p i st _ runs kind]
      refine ⟨fun short => by rw [if_neg (Nat.not_le.mpr short)], fun next reached follows wait => ?_⟩
      rw [if_pos reached, completeStep_wait p _ i next _ (by rw [cfg]; exact follows) wait, ← now, ← executor]

/-! ### FORCE and UNFORCE (R19, R20) -/

/-- A FORCE leaves the channel adopted, forced and at the forced value as target. -/
theorem forceChannel_channel (c : Chan) (value : Nat) (s : State) :
    (forceChannel c value s).cfg = s.cfg ∧
    (forceChannel c value s).channels[c].adopted = true ∧
    (forceChannel c value s).channels[c].forced = some (min value 1000) ∧
    (forceChannel c value s).channels[c].mode = .forced ∧
    (forceChannel c value s).channels[c].target = some (min value 1000) ∧
    (forceChannel c value s).channels[c].demand = s.channels[c].demand := by
  have base : ∃ u : State, u.cfg = s.cfg ∧ u.channels[c].adopted = true ∧ u.channels[c].demand = s.channels[c].demand ∧
      forceChannel c value s = derive c (updChannel c (fun ch => { ch with forced := some (min value 1000) }) u) := by
    by_cases adopted : s.channels[c].adopted = true
    · exact ⟨s, rfl, adopted, rfl, by rw [forceChannel, if_pos adopted]; rfl⟩
    · obtain ⟨n, eq⟩ := updRecount_eq c (fun ch => { ch with driven := some 0, adopted := true }) s
      have record : (adoptAt c 0 s).channels[c].adopted = true ∧
          (adoptAt c 0 s).channels[c].demand = s.channels[c].demand := by
        rw [adoptAt, eq, updChannel_get, if_pos rfl]
        exact ⟨rfl, rfl⟩
      exact ⟨adoptAt c 0 s, rfl, record.1, record.2, by rw [forceChannel, if_neg adopted]; rfl⟩
  obtain ⟨u, cfg, adopted, demand, form⟩ := base
  rw [form]
  have cfgV : (updChannel c (fun ch => { ch with forced := some (min value 1000) }) u).cfg = s.cfg := cfg
  have record : (updChannel c (fun ch => { ch with forced := some (min value 1000) }) u).channels[c] =
      { u.channels[c] with forced := some (min value 1000) } := by rw [updChannel_get, if_pos rfl]
  generalize updChannel c (fun ch => { ch with forced := some (min value 1000) }) u = v at record cfgV ⊢
  have adoptedV : v.channels[c].adopted = true := by rw [record]; exact adopted
  have forcedV : v.channels[c].forced = some (min value 1000) := by rw [record]
  have mode : modeOf v c = .forced := by rw [modeOf, if_pos adoptedV, if_pos (by rw [forcedV]; rfl)]
  have flags := (derive_plant c v).flags c
  have settings := deriveFrom_settings (frozenNow v c) c c v
  rw [if_pos rfl, if_pos rfl, mode] at settings
  refine ⟨(derive_plant c v).cfg.trans cfgV, flags.adopted.trans adoptedV, flags.forced.trans forcedV, settings.1,
    settings.2.trans forcedV,
    flags.demand.trans (by rw [record]; exact demand)⟩

/-- A channel that its owner in CONTROL takes back follows its demand and, if it is to be counted, from match
count 0 (R20, R21). -/
theorem unforceChannel_channel (c : Chan) (k : Slot) (m f : Nat) (s : State) (forced : s.channels[c].forced = some f)
    (adopted : s.channels[c].adopted = true) (owner : s.cfg.channels[c].owner = some k)
    (control : s.contexts[k].state = .control) (demand : s.channels[c].demand = some m) :
    (unforceChannel c s).channels[c].forced = none ∧ (unforceChannel c s).channels[c].mode = .follow ∧
    (unforceChannel c s).channels[c].target = some m ∧
    (s.channels[c].driveFault = false → (unforceChannel c s).channels[c].matchCount = 0) := by
  have record : (updRecount c (fun ch => { ch with forced := none }) s).channels[c] = { s.channels[c] with
      forced := none, matchCount := if s.channels[c].driveFault = false then 0 else s.channels[c].matchCount } := by
    unfold updRecount
    dsimp only
    rw [updChannel_get, if_pos rfl]
    have before : countedRecord s.cfg.channels[c].owner.isSome s.channels[c] = false := by
      rw [countedRecord, forced]
      exact Bool.and_false _
    have after : countedRecord s.cfg.channels[c].owner.isSome { s.channels[c] with forced := none } =
        !s.channels[c].driveFault := by
      rw [countedRecord, owner, adopted]
      exact Bool.and_true _
    rw [before, after]
    cases s.channels[c].driveFault <;> rfl
  have cfg : (updRecount c (fun ch => { ch with forced := none }) s).cfg = s.cfg := rfl
  have contexts : (updRecount c (fun ch => { ch with forced := none }) s).contexts = s.contexts := rfl
  rw [unforceChannel]
  generalize updRecount c (fun ch => { ch with forced := none }) s = v at record cfg contexts ⊢
  have mode : modeOf v c = .follow := by
    unfold modeOf
    rw [if_pos (by rw [record]; exact adopted), if_neg (by rw [record]; nofun), cfg]
    simp only [owner]
    rw [contexts, ownerMode, control]
  have flags := (derive_plant c v).flags c
  have settings := deriveFrom_settings (frozenNow v c) c c v
  rw [if_pos rfl, if_pos rfl, mode] at settings
  refine ⟨flags.forced.trans (by rw [record]), settings.1, settings.2.trans ?_, fun clear => ?_⟩
  · simp only [targetOf]
    rw [record]
    exact congrArg (fun d => some (Option.getD d _)) demand
  · exact flags.matchCount.trans ((congrArg ChannelRun.matchCount record).trans (if_pos clear))

/-- Settles O21: the answers ask for the used condition and for a forced value, and a forced mode ranks first in
R4. -/
theorem forceAndUnforce : Obligations.ForceAndUnforce := by
  refine ⟨fun tag hi lo c s run taken => ?_, fun tag c s run taken => ?_⟩
  · have answered : forceAnswer (b1 c.val ++ [hi, lo]) (leaveQueue s) =
        if isUsed (leaveQueue s) c then accept (forceChannel c (word hi lo)) else refuse .refusedState := by
      simp only [forceAnswer, b1, List.singleton_append, readChan_byteOf]
      exact asOrder_run (leaveQueue s) _ run
    refine ⟨fun used => ?_, fun unused => ?_⟩
    · obtain ⟨cfg, adopted, forced, mode, target, demand⟩ :=
        forceChannel_channel c (word hi lo) (repliedOk 0x34 tag s)
      exact ⟨_, takeCommand_accepted _ _ _ _ _ _ taken (answered.trans (if_pos used)), cfg,
        (forceChannel_computers c (word hi lo) (repliedOk 0x34 tag s)).contexts, adopted, forced, mode, target, demand⟩
    · exact takeCommand_refused _ _ _ _ _ _ taken (answered.trans (if_neg (Bool.eq_false_iff.mp unused)))
  · have answered : unforceAnswer (b1 c.val) (leaveQueue s) =
        if s.channels[c].forced.isSome then accept (unforceChannel c) else accept id :=
      withChannel_order c (leaveQueue s)
        (fun c => if s.channels[c].forced.isSome then accept (unforceChannel c) else accept id) run
    refine ⟨fun f k m forced adopted owner control demand => ?_, fun free => ?_⟩
    · exact ⟨_, takeCommand_accepted _ _ _ _ _ _ taken (answered.trans (if_pos (by rw [forced]; rfl))),
        unforceChannel_channel c k m f (repliedOk 0x35 tag s) forced adopted owner control demand⟩
    · exact takeCommand_accepted _ _ _ _ _ _ taken (answered.trans (if_neg (by rw [free]; nofun)))

end Sys2Proof.Proofs
end


section
/-! SUPPORT. A report of a computer as it reaches its port and its channels (R65 to R68), RECOVERY requests (R110,
R115), a break in CONTROL (R90 to R92) and the images that a HELLO brings (R81, R82, R95, R96). -/

namespace Sys2Proof.Proofs

open Sys2Proof.Machine Sys2Proof.Safety Sys2Proof.Laws

/-! ### The pairs of a report (R67) -/

/-- The demand of a channel after these pairs. -/
def lastDemand (c : Chan) (pairs : List (Nat × Nat)) (before : Option Nat) : Option Nat :=
  (pairs.filter fun p => p.1 == c.val).getLast?.elim before fun p => some (min p.2 1000)

theorem lastDemand_cons (c : Chan) (p : Nat × Nat) (pairs : List (Nat × Nat)) (before : Option Nat) :
    lastDemand c (p :: pairs) before =
      lastDemand c pairs (if p.1 = c.val then some (min p.2 1000) else before) := by
  unfold lastDemand
  by_cases names : p.1 = c.val
  · rw [List.filter_cons_of_pos (by simpa using names), List.getLast?_cons, if_pos names]
    cases (pairs.filter fun p => p.1 == c.val).getLast? <;> rfl
  · rw [List.filter_cons_of_neg (by simpa using names), if_neg names]

theorem pairChannel_eq_some (s : State) (k : Slot) (p : Nat × Nat) (c : Chan) :
    pairChannel s k p = some c ↔ p.1 = c.val ∧ owns s k c = true := by
  unfold pairChannel chanOf
  by_cases low : p.1 < 48
  · rw [dif_pos low]
    dsimp only
    split
    case isTrue own =>
      rw [Option.some.injEq, Fin.ext_iff]
      refine ⟨fun same => ⟨same, ?_⟩, fun h => h.1⟩
      rwa [← show (⟨p.1, low⟩ : Chan) = c from Fin.ext same]
    case isFalse foreign =>
      refine ⟨nofun, fun ⟨same, own⟩ => absurd ?_ foreign⟩
      rwa [show (⟨p.1, low⟩ : Chan) = c from Fin.ext same]
  · rw [dif_neg low]
    exact ⟨nofun, fun ⟨same, _⟩ => absurd (same ▸ c.isLt) low⟩

theorem takePair_channel (k : Slot) (p : Nat × Nat) (c : Chan) (s : State) : (takePair k p s).channels[c] =
    if owns s k c then { s.channels[c] with
      demand := if p.1 = c.val then some (min p.2 1000) else s.channels[c].demand }
    else s.channels[c] := by
  unfold takePair
  split
  case h_1 d found =>
    obtain ⟨names, own⟩ := (pairChannel_eq_some s k p d).mp found
    rw [updChannel_get]
    by_cases same : c = d
    · subst same
      rw [if_pos rfl, if_pos own, if_pos names]
      rfl
    · rw [if_neg same, if_neg fun h : p.1 = c.val => same (Fin.ext (h.symm.trans names)), ite_self]
  case h_2 none =>
    rw [count_eq]
    show s.channels[c] = _
    split
    case isTrue own =>
      have other : ¬p.1 = c.val := fun names => by
        rw [(pairChannel_eq_some s k p c).mpr ⟨names, own⟩] at none
        nomatch none
      rw [if_neg other]
    case isFalse => rfl

/-- A report's pairs set demands and may be counted; nothing else. -/
theorem takePairs_form (k : Slot) (pairs : List (Nat × Nat)) (s : State) : ∃ n v,
    takePairs k pairs s = { s with counter := n, channels := v } ∧
    ∀ c : Chan, v[c] = if owns s k c then
      { s.channels[c] with demand := lastDemand c pairs s.channels[c].demand } else s.channels[c] := by
  induction pairs generalizing s with
  | nil => exact ⟨s.counter, s.channels, rfl, fun c => (ite_self _).symm⟩
  | cons p pairs ih =>
    have first : ∃ n v, takePair k p s = { s with counter := n, channels := v } := by
      unfold takePair
      split
      · exact ⟨_, _, rfl⟩
      · exact ⟨_, _, count_eq _ s⟩
    obtain ⟨n, v, form⟩ := first
    have channel := fun c => takePair_channel k p c s
    obtain ⟨n', v', form', channel'⟩ := ih (takePair k p s)
    rw [form] at channel channel' form'
    refine ⟨n', v', ?_, fun c => ?_⟩
    · show takePairs k pairs (takePair k p s) = _
      rw [form, form']
    · rw [channel' c]
      show (if owns s k c = true then _ else _) = _
      have record : v[c] = _ := channel c
      split
      case isTrue own =>
        rw [if_pos own] at record
        show { v[c] with demand := lastDemand c pairs v[c].demand } = _
        rw [record, lastDemand_cons]
      case isFalse foreign =>
        rw [if_neg foreign] at record
        exact record

/-! ### A report at its port (R65, R66, R68) -/

/-- A report that the port has accepted: steps 1 to 3 of R65. -/
def accepted (k : Slot) (seq : Nat) (pairs : List (Nat × Nat)) (s : State) : State :=
  startReport k (takePairs k pairs (expectAfter k seq (if isGap s k seq then count .reportGaps s else s)))

theorem accepted_form (k : Slot) (seq : Nat) (pairs : List (Nat × Nat)) (s : State) : ∃ n v,
    accepted k seq pairs s = { s with
      counter := n, channels := v
      ports := s.ports.set k { s.ports[k] with
        expectation := some ((seq + 1) % 256)
        reportTimer := some (s.now + s.cfg.computers[k].reportTimeout) } } ∧
    ∀ c : Chan, v[c] = if owns s k c then
      { s.channels[c] with demand := lastDemand c pairs s.channels[c].demand } else s.channels[c] := by
  have gap : ∃ n, (if isGap s k seq then count .reportGaps s else s) = { s with counter := n } := by
    split
    · exact ⟨_, count_eq _ s⟩
    · exact ⟨s.counter, rfl⟩
  obtain ⟨n, gap⟩ := gap
  obtain ⟨n', v, form, channel⟩ := takePairs_form k pairs (expectAfter k seq { s with counter := n })
  refine ⟨n', v, ?_, channel⟩
  rw [accepted, gap, form]
  simp only [startReport, expectAfter, updPort, Fin.getElem_fin, Vector.getElem_set_self, Vector.set_set]

/-- The channels that a report names are derived last (R65 step 5). -/
theorem acceptReport_eq (k : Slot) (seq : Nat) (h : Health) (pairs : List (Nat × Nat)) (s : State) : ∃ named,
    acceptReport k seq h pairs s = deriveEach named (controllerTakes k h (accepted k seq pairs s)) := ⟨_, rfl⟩

/-- The context with the health of the last report. -/
def heard (k : Slot) (h : Health) (s : State) : State := updContext k (fun x => { x with lastHealth := some h }) s

theorem heard_context (k : Slot) (h : Health) (s : State) :
    (heard k h s).contexts[k] = { s.contexts[k] with lastHealth := some h } := updContext_same k _ s

/-- What a report that has been accepted and heard leaves, and what it sets. -/
structure Heard (k : Slot) (h : Health) (pairs : List (Nat × Nat)) (s u : State) : Prop where
  cfg : u.cfg = s.cfg
  now : u.now = s.now
  window : u.window = s.window
  executor : u.executor = s.executor
  events : u.events = s.events
  supervisory : u.supervisory = s.supervisory
  contexts : u.contexts = s.contexts.set k { s.contexts[k] with lastHealth := some h }
  sendList : u.ports[k].sendList = s.ports[k].sendList
  reportTimer : u.ports[k].reportTimer = some (s.now + s.cfg.computers[k].reportTimeout)
  channel : ∀ c : Chan, u.channels[c] = if owns s k c then
    { s.channels[c] with demand := lastDemand c pairs s.channels[c].demand } else s.channels[c]

theorem Heard.context {k : Slot} {h : Health} {pairs : List (Nat × Nat)} {s u : State} (t : Heard k h pairs s u) :
    u.contexts[k] = { s.contexts[k] with lastHealth := some h } := by
  rw [t.contexts]
  exact Vector.getElem_set_self k.isLt

theorem heard_accepted (k : Slot) (seq : Nat) (h : Health) (pairs : List (Nat × Nat)) (s : State) :
    Heard k h pairs s (heard k h (accepted k seq pairs s)) := by
  obtain ⟨n, v, form, channel⟩ := accepted_form k seq pairs s
  have port : (heard k h (accepted k seq pairs s)).ports[k] = { s.ports[k] with
      expectation := some ((seq + 1) % 256)
      reportTimer := some (s.now + s.cfg.computers[k].reportTimeout) } := by
    rw [form]
    exact Vector.getElem_set_self k.isLt
  have line := congrArg Port.sendList port
  have timer := congrArg Port.reportTimer port
  rw [form] at line timer ⊢
  exact ⟨rfl, rfl, rfl, rfl, rfl, rfl, rfl, line, timer, channel⟩

theorem accepted_contexts (k : Slot) (seq : Nat) (pairs : List (Nat × Nat)) (s : State) :
    (accepted k seq pairs s).contexts = s.contexts := by
  obtain ⟨n, v, form, -⟩ := accepted_form k seq pairs s
  rw [form]

/-- What the controller does with a report, by the slot's state and the report's health. -/
theorem controllerTakes_rows (k : Slot) (h : Health) (s : State) :
    (s.contexts[k].state = .track → controllerTakes k h s =
      if handoverTest (judge k (heard k h s)) k then enterControl k (judge k (heard k h s))
      else judge k (heard k h s)) ∧
    (s.contexts[k].state = .control → h = .good → controllerTakes k h s = heard k h s) ∧
    (s.contexts[k].state = .control → h = .degraded → controllerTakes k h s = takeBreak k (heard k h s)) := by
  refine ⟨fun state => if_pos state, fun state good => ?_, fun state degraded => ?_⟩
  · subst good
    exact (if_neg (by rw [state]; nofun)).trans (if_pos state)
  · subst degraded
    exact (if_neg (by rw [state]; nofun)).trans (if_pos state)

theorem exec_demand (k : Slot) (seq : Nat) (h : Health) (pairs : List (Nat × Nat)) (s : State) (running : Running s)
    (loud : s.contexts[k].state = .track ∨ s.contexts[k].state = .control) :
    exec (.demand k seq h pairs) s = .next (acceptReport k seq h pairs s) := by
  obtain ⟨live, run⟩ := running
  refine (whenLive_inRun _ s live run).trans (congrArg Host.Outcome.next ?_)
  rcases loud with state | state <;> simp only [state]

/-- Settles O35: the report is `accepted`, the controller notes its health, and derivations leave demands. -/
theorem demandInControlIsFollowed : Obligations.DemandInControlIsFollowed := by
  intro k seq pairs s running control
  obtain ⟨named, report⟩ := acceptReport_eq k seq .good pairs s
  obtain ⟨n, v, form, channel⟩ := accepted_form k seq pairs s
  have takes := (controllerTakes_rows k .good (accepted k seq pairs s)).2.1 (by rw [form]; exact control) rfl
  rw [takes, form] at report
  have plant := deriveEach_plant named (heard k .good { s with
      counter := n, channels := v
      ports := s.ports.set k { s.ports[k] with
        expectation := some ((seq + 1) % 256)
        reportTimer := some (s.now + s.cfg.computers[k].reportTimeout) } })
  rw [← report] at plant
  refine ⟨_, exec_demand k seq .good pairs s running (.inr control), plant.cfg, plant.contexts, plant.ports,
    fun c => (plant.flags c).demand.trans ?_⟩
  show v[c].demand = _
  rw [channel c]
  split
  · dsimp only [lastDemand]
    cases (pairs.filter fun p => p.1 == c.val).getLast? <;> rfl
  · rfl

/-! ### RECOVERY requests (R110, R115) -/

theorem filter_not_waiting (k : Slot) (s : State) (absent : isWaiting s k = false) :
    s.window.waitList.filter (·.slot != k) = s.window.waitList := by
  refine List.filter_eq_self.mpr fun e mem => ?_
  refine bne_iff_ne.mpr fun own => ?_
  rw [(isWaiting_iff s k).mpr ⟨e, mem, own⟩] at absent
  nomatch absent

/-- A RECOVERY request for a slot that is neither in progress nor VACANT: joined to its entry, appended behind a
full window, or issued. -/
theorem requestRecovery_rows (k : Slot) (s : State) (idle : s.contexts[k].inProgress = false)
    (present : s.contexts[k].state ≠ .vacant) :
    (isWaiting s k = true → requestRecovery k s =
      setWaitList (s.window.waitList.map fun e => if e.slot = k then joinEntry .recovery e else e) s) ∧
    (isWaiting s k = false →
      (limitOf s (boreOf s k) ≤ countOf s (boreOf s k) ∨ boreWaits s (boreOf s k) = true) →
      requestRecovery k s = latch .windowWait (some (.slot k))
        (setWaitList (s.window.waitList ++ [newEntry .recovery k s]) s)) ∧
    (isWaiting s k = false → countOf s (boreOf s k) < limitOf s (boreOf s k) → boreWaits s (boreOf s k) = false →
      requestRecovery k s = issueOrder k s) :=
  ⟨takeRequest_waiting .recovery k s idle,
    fun absent full => takeRequest_append .recovery k s (requestRow_append k s idle absent present full),
    fun absent room free => takeRequest_issue .recovery k s (requestRow_issue k s idle absent present room free)⟩

/-- A RECOVERY request made while the window unit stands as it did in `s`. -/
theorem requestRecovery_after (k : Slot) {s u : State} (cfg : u.cfg = s.cfg) (now : u.now = s.now)
    (window : u.window = s.window) (idle : u.contexts[k].inProgress = false)
    (present : u.contexts[k].state ≠ .vacant) (unsettled : u.contexts[k].state ≠ .settle) :
    (isWaiting s k = true → (requestRecovery k u).contexts = u.contexts ∧ (requestRecovery k u).ports = u.ports ∧
      (requestRecovery k u).window = { s.window with
        waitList := s.window.waitList.map fun e => if e.slot = k then joinEntry .recovery e else e }) ∧
    (isWaiting s k = false →
      (limitOf s (boreOf s k) ≤ countOf s (boreOf s k) ∨ boreWaits s (boreOf s k) = true) →
      (requestRecovery k u).contexts = u.contexts ∧ (requestRecovery k u).ports = u.ports ∧
      (requestRecovery k u).window = { s.window with
        waitList := s.window.waitList ++
          [{ slot := k, source := .recovery, plan := none, mark := false, since := s.now }] } ∧
      (requestRecovery k u).events[(5 : Fin 16)] = { latched := true, item := some (.slot k) }) ∧
    (isWaiting s k = false → countOf s (boreOf s k) < limitOf s (boreOf s k) → boreWaits s (boreOf s k) = false →
      Issued k u (requestRecovery k u) ∧
      countOf (requestRecovery k u) (boreOf s k) = countOf s (boreOf s k) + 1 ∧
      (requestRecovery k u).window.waitList = s.window.waitList) := by
  have bore : boreOf u k = boreOf s k := by rw [boreOf, cfg, boreOf]
  have count : ∀ b, countOf u b = countOf s b := fun b => by cases b <;> simp only [countOf, window]
  have limit : ∀ b, limitOf u b = limitOf s b := fun b => by cases b <;> simp only [limitOf, cfg]
  have waits : isWaiting u k = isWaiting s k := by simp only [isWaiting, window]
  have borne : ∀ b, boreWaits u b = boreWaits s b := fun b => by simp only [boreWaits, boreOf, window, cfg]
  have rows := requestRecovery_rows k u idle present
  rw [waits, bore, count, limit, borne, window] at rows
  obtain ⟨joined, appended, issued⟩ := rows
  refine ⟨fun waits => ?_, fun absent full => ?_, fun absent room free => ?_⟩
  · rw [joined waits]
    exact ⟨rfl, rfl, by rw [setWaitList, window]⟩
  · rw [appended absent full]
    refine ⟨latch_contexts .., latch_ports .., ?_, latch_latched .windowWait _ _⟩
    rw [latch_window, setWaitList, window, newEntry, now]
    rfl
  · have order := issueOrder_issued k u ((canIssue_iff _).mpr ⟨idle, present, unsettled⟩)
    rw [issued absent room free]
    refine ⟨order, ?_, ?_⟩
    · have counted := order.count
      rwa [bore, count] at counted
    · rw [order.waitList, filter_not_waiting k u (waits.trans absent), window]

/-- Whatever row it finds, a RECOVERY request leaves reports other than WINDOW_WAIT and the match counts. -/
theorem requestRecovery_leaves (k : Slot) (s : State) (j : EventKind) (other : eventIndex j ≠ eventIndex .windowWait) :
    (requestRecovery k s).events[eventIndex j] = s.events[eventIndex j] ∧
    ∀ c : Chan, (requestRecovery k s).channels[c].matchCount = s.channels[c].matchCount := by
  have issue : (issueOrder k s).events = s.events ∧
      ∀ c : Chan, (issueOrder k s).channels[c].matchCount = s.channels[c].matchCount := by
    cases can : canIssue s.contexts[k] with
    | true => exact ⟨(issueOrder_issued k s can).events, (issueOrder_issued k s can).matches_⟩
    | false =>
      rw [issueOrder_of_not k s can]
      exact ⟨rfl, fun _ => rfl⟩
  unfold requestRecovery takeRequest
  split
  · exact ⟨rfl, fun _ => rfl⟩
  · exact ⟨rfl, fun _ => rfl⟩
  · exact ⟨rfl, fun _ => rfl⟩
  · exact ⟨by rw [issue.1], issue.2⟩
  · exact ⟨latch_events_other .windowWait j _ _ other, fun c => by rw [latch_channels]; rfl⟩

/-! ### A break (R90 to R92) -/

/-- The slot goes back to TRACK behind a REVOKE (BREAK). -/
def retracked (k : Slot) (s : State) : State := enterTrack k .broke true (sendOrder k (.revoke .broke) s)

theorem takeBreak_rows (k : Slot) (s : State) :
    (s.cfg.computers[k].breakPolicy = .ignore → takeBreak k s = latch .broke (some (.slot k)) s) ∧
    (s.cfg.computers[k].breakPolicy = .retrack →
      takeBreak k s = retracked k (latch .broke (some (.slot k)) s)) ∧
    (s.cfg.computers[k].breakPolicy = .restart →
      takeBreak k s = requestRecovery k (retracked k (latch .broke (some (.slot k)) s))) := by
  have cfg : (latch .broke (some (.slot k)) s).cfg = s.cfg := (latch_moves ..).cfg
  refine ⟨fun policy => ?_, fun policy => ?_, fun policy => ?_⟩ <;> simp only [takeBreak, cfg, policy] <;> rfl

theorem retracked_slot (k : Slot) (s : State) : SlotMoves k s (retracked k s) :=
  (sendOrder_slot k _ s).trans (enterTrack_slot k _ _ _)

theorem retracked_context (k : Slot) (s : State) :
    (retracked k s).contexts[k].state = .track ∧ (retracked k s).contexts[k].trackCause = some .broke ∧
    (retracked k s).contexts[k].inProgress = s.contexts[k].inProgress := by
  rw [retracked, enterTrack_get, if_pos rfl]
  exact ⟨rfl, rfl, rfl⟩

theorem retracked_sendList (k : Slot) (s : State) (room : s.ports[k].sendList.length < 8) :
    (retracked k s).ports[k].sendList = s.ports[k].sendList ++ [.revoke .broke] := by
  rw [retracked, enterTrack_port, sendOrder_room k _ s rfl room]

theorem retracked_matches (k : Slot) (c : Chan) (s : State) (own : owns s k c = true) :
    (retracked k s).channels[c].matchCount = 0 :=
  (enterTrack_matches k .broke true c (sendOrder k (.revoke .broke) s) own).trans (if_pos rfl)

/-- Settles O37: the report is `accepted`, and the policy decides what follows the report of BREAK. -/
theorem breakIsTakenByPolicy : Obligations.BreakIsTakenByPolicy := by
  intro k seq pairs s running control room
  obtain ⟨named, report⟩ := acceptReport_eq k seq .degraded pairs s
  have entered : (accepted k seq pairs s).contexts[k].state = .control := by
    rw [accepted_contexts]
    exact control
  have taken := heard_accepted k seq .degraded pairs s
  rw [(controllerTakes_rows k .degraded (accepted k seq pairs s)).2.2 entered rfl] at report
  generalize heard k .degraded (accepted k seq pairs s) = u at report taken
  obtain ⟨ignores, retracks, restarts⟩ := takeBreak_rows k u
  have latched := latch_latched .broke (some (.slot k)) u
  have moves : SlotMoves k (latch .broke (some (.slot k)) u) (retracked k (latch .broke (some (.slot k)) u)) :=
    retracked_slot k _
  have plant := deriveEach_plant named (takeBreak k u)
  rw [← report] at plant
  have context : (latch .broke (some (.slot k)) u).contexts[k] =
      { s.contexts[k] with lastHealth := some .degraded } := by
    rw [latch_contexts]
    exact taken.context
  have list : (latch .broke (some (.slot k)) u).ports[k].sendList = s.ports[k].sendList := by
    rw [latch_ports]
    exact taken.sendList
  have cfg : (latch .broke (some (.slot k)) u).cfg = s.cfg := (latch_moves ..).cfg.trans taken.cfg
  have now : (latch .broke (some (.slot k)) u).now = s.now := (latch_moves ..).now.trans taken.now
  have window : (latch .broke (some (.slot k)) u).window = s.window := by
    rw [latch_window]
    exact taken.window
  have policyOf : u.cfg.computers[k].breakPolicy = s.cfg.computers[k].breakPolicy := by rw [taken.cfg]
  rw [policyOf] at ignores retracks restarts
  have line : (latch .broke (some (.slot k)) u).supervisory.outgoing =
      noticeAfter 4 s (latch .broke (some (.slot k)) u) := by
    rw [latch_supervisory]
    exact noticeAfter_congr 4 taken.events taken.cfg taken.supervisory rfl rfl
  have owned : ∀ c, owns s k c = true → owns (latch .broke (some (.slot k)) u) k c = true := fun c own => by
    rw [owns, cfg]
    exact own
  generalize latch .broke (some (.slot k)) u = b at *
  obtain ⟨state, cause, flag⟩ := retracked_context k b
  have sent := retracked_sendList k b (by rw [list]; exact room.trans (by decide))
  rw [list] at sent
  have clears := fun c own => retracked_matches k c b (owned c own)
  have kept : (retracked k b).events[(4 : Fin 16)] = { latched := true, item := some (.slot k) } := by
    rw [moves.events]
    exact latched
  generalize retracked k b = r at *
  have later := requestRecovery_leaves k r .broke (by decide)
  refine ⟨_, exec_demand k seq .degraded pairs s running (.inr control), ?_, fun policy => ?_, fun policy c own => ?_,
    fun policy => ?_, fun policy idle => ?_⟩
  · rw [plant.events]
    cases policy : s.cfg.computers[k].breakPolicy with
    | ignore => rw [ignores policy]; exact latched
    | retrack => rw [retracks policy]; exact kept
    | restart => rw [restarts policy]; exact later.1.trans kept
  · rw [ignores policy] at plant
    refine ⟨?_, ?_, ?_⟩
    · rw [plant.contexts, context]
      exact control
    · rw [plant.ports, list]
    · rw [plant.supervisory, line]
      exact (noticeAfter_congr 4 rfl rfl rfl plant.events plant.cfg).symm
  · rw [(plant.flags c).matchCount]
    cases policy' : s.cfg.computers[k].breakPolicy with
    | ignore => exact absurd policy' policy
    | retrack => rw [retracks policy']; exact clears c own
    | restart => rw [restarts policy']; exact (later.2 c).trans (clears c own)
  · rw [retracks policy] at plant
    refine ⟨?_, ?_, ?_, ?_⟩
    · rw [plant.contexts, state]
    · rw [plant.contexts, cause]
    · rw [plant.window, moves.window, window]
    · rw [plant.ports, sent]
  · have free : r.contexts[k].inProgress = false := by
      rw [flag, context]
      exact idle
    obtain ⟨joins, appends, issues⟩ := requestRecovery_after k (moves.cfg.trans cfg) (moves.now.trans now)
      (moves.window.trans window) free (by rw [state]; nofun) (by rw [state]; nofun)
    rw [restarts policy] at plant
    refine ⟨fun waits => ?_, fun absent full => ?_, fun absent room' clear => ?_⟩
    · obtain ⟨contexts, ports, list⟩ := joins waits
      rw [plant.contexts, plant.ports, plant.window, contexts, ports, list]
      exact ⟨state, cause, rfl, sent⟩
    · obtain ⟨contexts, ports, list, event⟩ := appends absent full
      rw [plant.contexts, plant.ports, plant.window, plant.events, contexts, ports, list]
      exact ⟨state, cause, rfl, event, sent⟩
    · obtain ⟨order, counted, waits⟩ := issues absent room' clear
      have single : revocation k .order r = [] := if_neg (by rw [state]; nofun)
      have port := order.port
        (by rw [single, sent, List.append_nil, List.length_append]; exact Nat.succ_lt_succ room)
      have count : ∀ c, countOf (acceptReport k seq .degraded pairs s) c = countOf (requestRecovery k r) c :=
        fun c => by cases c <;> simp only [countOf, plant.window]
      rw [count, plant.contexts, plant.ports, plant.window, order.context, port]
      refine ⟨rfl, rfl, rfl, counted, waits, ?_⟩
      show r.ports[k].sendList ++ revocation k .order r ++ [.restart r.cfg.computers[k].settleCode] = _
      rw [single, sent, moves.cfg, cfg, List.append_nil, List.append_assoc]
      rfl

end Sys2Proof.Proofs
end


section
/-! SUPPORT. The images of a HELLO (R81, R82, R95, R96), and a handover that a plan takes back within the event
(R88, R139, R142). -/

namespace Sys2Proof.Proofs

open Sys2Proof.Machine Sys2Proof.Safety Sys2Proof.Laws

/-! ### An image (R72, R82) -/

/-- A new image is issued and its timer runs (R81, R82, R95). -/
def imaged (k : Slot) (s : State) : State := startImageTimer k (issueImage k s)

theorem issueImage_slot (k : Slot) (s : State) : SlotMoves k s (issueImage k s) :=
  (updContext_slot k _ s).trans (sendOrder_slot k _ _)

theorem issueImage_context (k : Slot) (s : State) : (issueImage k s).contexts[k] =
    { s.contexts[k] with generation := (s.contexts[k].generation + 1) % 65536 } :=
  updContext_same k (fun x => { x with generation := (s.contexts[k].generation + 1) % 65536 }) s

theorem imaged_slot (k : Slot) (s : State) : SlotMoves k s (imaged k s) :=
  (issueImage_slot k s).trans
    (updContext_slot k (fun x => { x with imageTimer := some ((issueImage k s).now + Config.imageTime) }) _)

theorem imaged_context (k : Slot) (s : State) : (imaged k s).contexts[k] = { s.contexts[k] with
    generation := (s.contexts[k].generation + 1) % 65536, imageTimer := some (s.now + 2000) } := by
  rw [imaged, startImageTimer, updContext_get, if_pos rfl, issueImage_context]
  rfl

theorem imageEntries_channels (s : State) (k : Slot) : (imageEntries s k).map (·.channel) = ownedBy s k := by
  rw [imageEntries, List.map_map]
  exact List.map_id _

/-- Where no IMAGE waits the new one joins the back of the send list (R71). -/
theorem imaged_port (k : Slot) (s : State) (none : s.ports[k].sendList.any isImage = false)
    (room : s.ports[k].sendList.length < 8) : (imaged k s).ports[k] = { s.ports[k] with
      sendList := s.ports[k].sendList ++
        [.image ((s.contexts[k].generation + 1) % 65536) (imageEntries s k)] } := by
  show (sendOrder k _ (updContext k _ s)).ports[k] = _
  rw [sendOrder, updPort_same]
  have sends : (isImage (.image ((s.contexts[k].generation + 1) % 65536) (imageEntries s k)) &&
      (updContext k (fun x => { x with generation := (s.contexts[k].generation + 1) % 65536 }) s).ports[k].sendList.any
        isImage) = false := (Bool.true_and _).trans none
  dsimp only
  rw [if_neg (Bool.eq_false_iff.mp sends)]
  exact if_pos room

/-- A slot that was not in JOIN comes to it with an image, out of CONTROL behind a REVOKE (REJOIN). -/
def rejoined (k : Slot) (s : State) : State :=
  imaged k (deriveOwned k (changeState k .join (some .image) id (revoked k .rejoin s)))

theorem exec_hello (k : Slot) (seq : Nat) (s : State) (running : Running s) :
    (s.contexts[k].state = .settle → exec (.hello k seq) s = .next (count .prematureHello s)) ∧
    (s.contexts[k].state = .join → exec (.hello k seq) s =
      .next (imaged k (updContext k (fun x => { x with phase := some .image, helloTimer := none }) s))) ∧
    (s.contexts[k].state = .lost ∨ s.contexts[k].state = .track ∨ s.contexts[k].state = .control →
      exec (.hello k seq) s = .next (rejoined k s)) ∧
    (s.contexts[k].state = .paused ∨ s.contexts[k].state = .fault ∨ s.contexts[k].state = .vacant →
      exec (.hello k seq) s = .next (count .reportsDiscarded s)) := by
  obtain ⟨live, run⟩ := running
  refine ⟨fun state => ?_, fun state => ?_, fun states => ?_, fun states => ?_⟩ <;>
    refine (whenLive_inRun _ s live run).trans (congrArg Host.Outcome.next ?_)
  · simp only [state]
  · simp only [state]
    rfl
  · rcases states with state | state | state <;> simp only [state]
    · rfl
    · have stays : rejoined k s = rejoin k s :=
        congrArg (enterImage k) (if_neg (by rw [state]; nofun))
      have self : selfRestart k s = rejoin k s :=
        congrArg (enterImage k) (if_neg (by rw [state]; nofun))
      rw [stays, self, ite_self]
    · rfl
  · rcases states with state | state | state <;> simp only [state]

/-- The context, the port and the demands of a slot that comes to JOIN with an image. -/
theorem rejoined_effect (k : Slot) (s : State) (empty : s.ports[k].sendList = []) :
    (rejoined k s).contexts[k] = { contextEnters .join (some .image) s.contexts[k] with
      generation := (s.contexts[k].generation + 1) % 65536, imageTimer := some (s.now + 2000) } ∧
    (∃ entries, (rejoined k s).ports[k] = { s.ports[k] with
        expectation := none, reportTimer := none
        sendList := revocation k .rejoin s ++
          [.image ((s.contexts[k].generation + 1) % 65536) entries] } ∧
      entries.map (·.channel) = ownedBy s k) ∧
    ∀ c : Chan, owns s k c = true → (rejoined k s).channels[c].demand = none := by
  have before := revoked_slot k .rejoin s
  have plant := deriveOwned_plant k (changeState k .join (some .image) id (revoked k .rejoin s))
  have context : (deriveOwned k (changeState k .join (some .image) id (revoked k .rejoin s))).contexts[k] =
      contextEnters .join (some .image) s.contexts[k] := by
    rw [plant.contexts, changeState_get, if_pos rfl, revoked_contexts]
    rfl
  have port : (deriveOwned k (changeState k .join (some .image) id (revoked k .rejoin s))).ports[k] =
      { s.ports[k] with expectation := none, reportTimer := none, sendList := revocation k .rejoin s } := by
    have fits : (s.ports[k].sendList ++ revocation k .rejoin s).length ≤ 8 := by
      rw [empty]
      unfold revocation
      split <;> simp
    rw [plant.ports, changeState_port, revoked_port k .rejoin s fits, empty]
    rfl
  have moves := before.trans ((changeState_slot k .join (some .image) id (revoked k .rejoin s)).trans
    (deriveOwned_slot k _))
  have demand : ∀ c : Chan, owns s k c = true →
      (deriveOwned k (changeState k .join (some .image) id (revoked k .rejoin s))).channels[c].demand = none := by
    intro c own
    rw [(plant.flags c).demand, changeState_channel]
    exact congrArg ChannelRun.demand (if_pos (by rw [owns, before.cfg]; exact own))
  rw [rejoined]
  generalize deriveOwned k (changeState k .join (some .image) id (revoked k .rejoin s)) = u at context port moves demand
  have plain : u.ports[k].sendList.any isImage = false := by
    rw [port]
    dsimp only [revocation]
    split <;> rfl
  have short : u.ports[k].sendList.length < 8 := by
    rw [port]
    dsimp only [revocation]
    split <;> simp
  refine ⟨?_, ⟨imageEntries u k, ?_, ?_⟩, demand⟩
  · rw [imaged_context, context, moves.now]
    rfl
  · rw [imaged_port k u plain short, port, context]
    rfl
  · rw [imageEntries_channels]
    simp only [ownedBy, funext fun c => show owns u k c = owns s k c by rw [owns, moves.cfg, owns]]

/-- Settles O38: by the slot's state, a count, an image within JOIN, or an entry to JOIN with one. -/
theorem helloBringsImage : Obligations.HelloBringsImage := by
  intro k seq s running
  obtain ⟨premature, again, enters, discarded⟩ := exec_hello k seq s running
  refine ⟨fun state => ?_, fun states empty => ?_, fun states => ?_⟩
  · rw [premature state, count_eq]
    rfl
  · by_cases join : s.contexts[k].state = .join
    · have slot := imaged_slot k (updContext k (fun x => { x with phase := some .image, helloTimer := none }) s)
      have context := imaged_context k (updContext k (fun x => { x with phase := some .image, helloTimer := none }) s)
      rw [updContext_get, if_pos rfl] at context
      have port := imaged_port k (updContext k (fun x => { x with phase := some .image, helloTimer := none }) s)
        (by rw [updContext_ports, empty]; rfl) (by rw [updContext_ports, empty]; decide)
      rw [updContext_get, if_pos rfl, updContext_ports, empty] at port
      refine ⟨_, _, again join, slot.cfg, slot.window, ?_, ?_, ?_, ?_, ?_, ?_, ?_, fun other => absurd join other, ?_,
        imageEntries_channels _ k⟩
      · rw [context]
        exact join
      · rw [context]
      · rw [context]
      · rw [context]
      · rw [context]
      · rw [context]
        rfl
      · rw [context]
      · rw [port, if_neg (by rw [join]; nofun)]
        rfl
    · obtain ⟨context, ⟨entries, port, channels⟩, demands⟩ := rejoined_effect k s empty
      have slot : SlotMoves k s (rejoined k s) := (((revoked_slot k .rejoin s).trans (changeState_slot k _ _ _ _)).trans
        (deriveOwned_slot k _)).trans (imaged_slot k _)
      refine ⟨_, entries, enters (states.resolve_left join), slot.cfg, slot.window, ?_⟩
      rw [context, port]
      exact ⟨rfl, rfl, rfl, rfl, rfl, rfl, rfl, fun _ => ⟨rfl, rfl, rfl, rfl, demands⟩, rfl, channels⟩
  · rw [discarded states, count_eq]
    rfl

/-! ### A handover that a plan takes back at once (R88, R139, R142) -/

/-- In RUN, no channel used, slot 0 enabled in an ORDERED TRACK; plan 0 runs its step 0, a RESTART of slot 0 that
is ordered, and has a PAUSE of slot 0 behind it. -/
def handedToPause : State :=
  { State.reset with
    partState := .run
    cfg := { State.reset.cfg with
      computers := State.reset.cfg.computers.set 0 { State.reset.cfg.computers[0] with enabled := true }
      plans := State.reset.cfg.plans.set 0 { State.reset.cfg.plans[0] with
        steps := [{ kind := .restart, operand := 0, timeout := 0 }, { kind := .pause, operand := 0, timeout := 0 }] } }
    contexts := State.reset.contexts.set 0 { State.reset.contexts[0] with
      state := .track, trackCause := some .ordered }
    executor := { State.reset.executor with
      state := .running, plan := some 0, step := some 0
      watch := { outcome := some .issued, ordered := true, resumed := false } } }

/-- The state that an outcome leaves a slot in. -/
def slotAfter (k : Slot) : Host.Outcome State Fault Refusal → Option ComputerState
  | .next t => some t.contexts[k].state
  | _ => none

/-- Within the event the RESTART step completes at CONTROL and the PAUSE step behind it takes the slot out of
CONTROL again (R139). -/
theorem handedToPause_paused : slotAfter 0 (exec (.demand 0 0 .good []) handedToPause) = some .paused := by decide

/-- Refutes O36: its second part claims CONTROL at the end of the event for every plan that runs, also for one
whose next step is no WAIT but a PAUSE of the slot. -/
theorem not_agreementBringsControl : ¬ Obligations.AgreementBringsControl := by
  intro h
  have none : ∀ c : Chan, owns handedToPause 0 c = false := by decide
  obtain ⟨t, row, control, -⟩ := h.2 0 0 .good [] 0 0 { kind := .restart, operand := 0, timeout := 0 } handedToPause
    ⟨rfl, rfl⟩ rfl ⟨rfl, rfl, rfl, rfl⟩ rfl (by decide)
    fun c own => absurd own (Bool.eq_false_iff.mp (none c))
  have paused := handedToPause_paused
  rw [row, slotAfter, control] at paused
  nomatch paused

end Sys2Proof.Proofs
end


section
/-! SUPPORT. What a chain of steps keeps (R139 to R143), and what no operation but a failed attempt, an image and
a report timer touches: generations, recorded rejections, report-lost flags and the report of failed attempts. -/

namespace Sys2Proof.Proofs

open Sys2Proof.Machine Sys2Proof.Safety Sys2Proof.Laws

/-! ### Relations that a chain of steps keeps -/

/-- A relation between a state and the next that every part of a chain of steps keeps. -/
structure StepRelation (R : State → State → Prop) : Prop where
  refl : ∀ s, R s s
  trans : ∀ {s t u}, R s t → R t u → R s u
  executor : ∀ f s, R s (updExecutor f s)
  begins : ∀ p i st s, R s (startStep p i st s).1
  fails : ∀ st s, R s (noteFailure st s)
  ends : ∀ p result s, R s (endPlan p result s)

namespace StepRelation

variable {R : State → State → Prop}

theorem runSteps (keeps : StepRelation R) (p : PlanNo) (onFail : OnFail) (onEnd : State → State)
    (h : ∀ s, R s (onEnd s)) (l : List (PlanStep × Nat)) (s : State) :
    R s (Machine.runSteps p onFail onEnd l s) := by
  induction l generalizing s with
  | nil => exact h s
  | cons head rest ih =>
    obtain ⟨st, i⟩ := head
    have first := keeps.begins p i st s
    unfold Machine.runSteps
    split
    next e => rw [e] at first; exact first
    next e => rw [e] at first; exact keeps.trans first (ih _)
    next e =>
      rw [e] at first
      split
      · exact keeps.trans (keeps.trans first (keeps.fails st _)) (ih _)
      · exact keeps.trans (keeps.trans first (keeps.fails st _)) (keeps.ends p _ _)

theorem countPass (keeps : StepRelation R) (s : State) : R s (Machine.countPass s) :=
  keeps.executor (fun x => { x with passes := bump16 x.passes, step := none }) s

theorem enterPassWait (keeps : StepRelation R) (s : State) : R s (Machine.enterPassWait s) :=
  keeps.executor (fun x => { x with state := .passWait }) s

theorem freshPassEnd (keeps : StepRelation R) (p : PlanNo) (r : PlanRecord) (s : State) :
    R s (Machine.freshPassEnd p r s) := by
  unfold Machine.freshPassEnd
  dsimp only
  refine keeps.trans (keeps.countPass s) ?_
  split
  · exact keeps.ends p _ _
  · split
    · exact keeps.enterPassWait _
    · split
      · exact keeps.trans (keeps.enterPassWait _) (keeps.executor _ _)
      · exact keeps.enterPassWait _

theorem startPass (keeps : StepRelation R) (p : PlanNo) (r : PlanRecord) (s : State) :
    R s (Machine.startPass p r s) :=
  keeps.trans (keeps.executor _ s) (keeps.runSteps p _ _ (keeps.freshPassEnd p r) _ _)

theorem passEnd (keeps : StepRelation R) (p : PlanNo) (r : PlanRecord) (s : State) : R s (Machine.passEnd p r s) := by
  unfold Machine.passEnd
  dsimp only
  refine keeps.trans (keeps.countPass s) ?_
  split
  · exact keeps.ends p _ _
  · split
    · exact keeps.enterPassWait _
    · split
      · exact keeps.trans (keeps.executor _ _) (keeps.startPass p r _)
      · split
        · exact keeps.startPass p r _
        · exact keeps.enterPassWait _

theorem failStep (keeps : StepRelation R) (p : PlanNo) (r : PlanRecord) (i : Nat) (st : PlanStep) (s : State) :
    R s (Machine.failStep p r i st s) := by
  unfold Machine.failStep
  split
  · exact keeps.trans (keeps.fails st s) (keeps.runSteps p _ _ (keeps.passEnd p r) _ _)
  · exact keeps.trans (keeps.fails st s) (keeps.ends p _ _)

theorem noteFault (keeps : StepRelation R) (k : Slot) (s : State) : R s (Machine.noteFault k s) := by
  unfold Machine.noteFault
  split
  · split
    · exact keeps.failStep _ _ _ _ s
    · exact keeps.refl s
  · exact keeps.refl s

end StepRelation

/-! ### Marks -/

/-- Generations, report-lost flags, recorded rejections and the report of failed attempts stay. -/
structure MarksStay (s t : State) : Prop where
  generation : ∀ j : Slot, t.contexts[j].generation = s.contexts[j].generation
  reportLost : ∀ j : Slot, t.ports[j].reportLost = s.ports[j].reportLost
  lastReject : ∀ j : Slot, t.ports[j].lastReject = s.ports[j].lastReject
  attempts : t.events[(2 : Fin 16)] = s.events[(2 : Fin 16)]

theorem MarksStay.refl (s : State) : MarksStay s s := ⟨fun _ => rfl, fun _ => rfl, fun _ => rfl, rfl⟩

theorem MarksStay.trans {s t u : State} (h : MarksStay s t) (g : MarksStay t u) : MarksStay s u :=
  ⟨fun j => (g.generation j).trans (h.generation j), fun j => (g.reportLost j).trans (h.reportLost j),
    fun j => (g.lastReject j).trans (h.lastReject j), g.attempts.trans h.attempts⟩

theorem marks_of_same {s t : State} (contexts : t.contexts = s.contexts) (ports : t.ports = s.ports)
    (events : t.events = s.events) : MarksStay s t :=
  ⟨fun _ => by rw [contexts], fun _ => by rw [ports], fun _ => by rw [ports], by rw [events]⟩

theorem updContext_marks (k : Slot) (f : Context → Context) (s : State)
    (same : ∀ x, (f x).generation = x.generation) : MarksStay s (updContext k f s) := by
  refine ⟨fun j => ?_, fun _ => rfl, fun _ => rfl, rfl⟩
  rw [updContext_get]
  split
  · exact same _
  · rfl

theorem updPort_marks (k : Slot) (f : Port → Port) (s : State) (lost : ∀ p, (f p).reportLost = p.reportLost)
    (reject : ∀ p, (f p).lastReject = p.lastReject) : MarksStay s (updPort k f s) := by
  have port (j : Slot) : (updPort k f s).ports[j] = if j = k then f s.ports[j] else s.ports[j] := by
    by_cases own : j = k
    · subst own
      rw [if_pos rfl, updPort_same]
    · rw [if_neg own, updPort_other k j f s own]
  refine ⟨fun _ => rfl, fun j => ?_, fun j => ?_, rfl⟩ <;> rw [port] <;> split
  · exact lost _
  · rfl
  · exact reject _
  · rfl

theorem sendOrder_marks (k : Slot) (o : Order) (s : State) : MarksStay s (sendOrder k o s) := by
  refine updPort_marks k _ s (fun p => ?_) (fun p => ?_) <;> split
  · rfl
  · split <;> rfl
  · rfl
  · split <;> rfl

/-- What an operation on one slot leaves of the others, it leaves of their marks. -/
theorem slot_marks {k : Slot} {s t : State} (h : SlotMoves k s t)
    (generation : t.contexts[k].generation = s.contexts[k].generation)
    (reportLost : t.ports[k].reportLost = s.ports[k].reportLost)
    (lastReject : t.ports[k].lastReject = s.ports[k].lastReject) : MarksStay s t := by
  refine ⟨fun j => ?_, fun j => ?_, fun j => ?_, by rw [h.events]⟩ <;> by_cases own : j = k
  · exact own ▸ generation
  · rw [h.contexts j own]
  · exact own ▸ reportLost
  · rw [h.ports j own]
  · exact own ▸ lastReject
  · rw [h.ports j own]

theorem latch_marks (k : EventKind) (item : Option Item) (s : State)
    (other : eventIndex .attemptFailed ≠ eventIndex k) : MarksStay s (latch k item s) :=
  ⟨fun _ => by rw [latch_contexts], fun _ => by rw [latch_ports], fun _ => by rw [latch_ports],
    latch_events_other k .attemptFailed item s other⟩

theorem plant_marks {s t : State} (h : PlantMoves s t) : MarksStay s t := marks_of_same h.contexts h.ports h.events

theorem changeState_marks (k : Slot) (new : ComputerState) (phase : Option JoinPhase) (f : Context → Context)
    (s : State) (same : ∀ x, (f x).generation = x.generation) : MarksStay s (changeState k new phase f s) := by
  refine slot_marks (changeState_slot k new phase f s) ?_ ?_ ?_
  · rw [changeState_get, if_pos rfl]
    exact same _
  · rw [changeState_port]
    rfl
  · rw [changeState_port]
    rfl

theorem enterSettle_get (k j : Slot) (s : State) : (enterSettle k s).contexts[j] = if j = k then
      { contextEnters .settle none s.contexts[j] with
        settleTimer := some (s.now + settleSeconds s.cfg.computers[j].settleCode * 1000) }
    else s.contexts[j] := by
  rw [enterSettle_contexts]
  by_cases own : j = k
  · subst own
    rw [if_pos rfl]
    exact Vector.getElem_set_self j.isLt
  · rw [if_neg own]
    exact Vector.getElem_set_ne k.isLt j.isLt fun same => own (Fin.ext same.symm)

theorem enterSettle_marks (k : Slot) (s : State) : MarksStay s (enterSettle k s) := by
  refine slot_marks (enterSettle_slot k s) ?_ ?_ ?_
  · rw [enterSettle_get, if_pos rfl]
    rfl
  · rw [enterSettle_port]
  · rw [enterSettle_port]

theorem enterLost_marks (k : Slot) (s : State) : MarksStay s (enterLost k s) := by
  refine slot_marks (enterLost_slot k s) ?_ ?_ ?_
  · unfold enterLost
    rw [(deriveOwned_plant k _).contexts, changeState_get, if_pos rfl]
    rfl
  · rw [enterLost_port]
  · rw [enterLost_port]

theorem enterTrack_marks (k : Slot) (cause : TrackCause) (zero : Bool) (s : State) :
    MarksStay s (enterTrack k cause zero s) := by
  refine slot_marks (enterTrack_slot k cause zero s) ?_ ?_ ?_
  · rw [enterTrack_get, if_pos rfl]
    rfl
  · rw [enterTrack_port]
  · rw [enterTrack_port]

theorem pauseSlot_marks (k : Slot) (s : State) : MarksStay s (pauseSlot k s) := by
  rw [pauseSlot_eq]
  refine MarksStay.trans ?_ (((sendOrder_marks k .pause _).trans
    (changeState_marks k .paused none id _ fun _ => rfl)).trans (plant_marks (deriveOwned_plant k _)))
  unfold revoked
  split
  · exact sendOrder_marks k _ s
  · exact .refl s

theorem resumeSlot_marks (k : Slot) (s : State) : MarksStay s (resumeSlot k s) :=
  (sendOrder_marks k _ s).trans (enterTrack_marks k _ _ _)

theorem orderTaken_marks (k : Slot) (s : State) : MarksStay s (orderTaken k s) := by
  have restart (t : State) : MarksStay t (enterSettle k (sendRestart k t)) :=
    (sendOrder_marks k _ t).trans (enterSettle_marks k _)
  unfold orderTaken
  split
  · exact (sendOrder_marks k _ s).trans (restart _)
  · exact (updContext_marks k (fun x => { x with failures := 0 }) s fun _ => rfl).trans (restart _)
  · exact restart s
  · exact restart s
  · exact restart s
  · exact restart s
  · exact .refl s
  · exact .refl s

theorem issueOrder_marks (k : Slot) (s : State) : MarksStay s (issueOrder k s) := by
  cases can : canIssue s.contexts[k] with
  | false =>
    rw [issueOrder_of_not k s can]
    exact .refl s
  | true =>
    obtain ⟨x, form⟩ := noteIssued_form k (orderTaken k (flagged k s))
    rw [issueOrder_of_can k s can, form]
    have flags : MarksStay s (flagged k s) := by
      refine ⟨fun j => ?_, fun j => by simp [flagged], fun j => by simp [flagged], by simp [flagged]⟩
      rw [flagged_contexts]
      split <;> rfl
    have ordered := flags.trans (orderTaken_marks k (flagged k s))
    exact ordered.trans (marks_of_same rfl rfl rfl)

theorem serveBore_marks (b : Bore) (s : State) : MarksStay s (serveBore b s) := by
  refine foldl_moves MarksStay.refl MarksStay.trans _ (fun s e => ?_) _ s
  split
  · exact issueOrder_marks _ s
  · exact .refl s

theorem takeRequest_marks (r : Requester) (k : Slot) (s : State) : MarksStay s (takeRequest r k s) := by
  unfold takeRequest
  split
  · exact .refl s
  · exact marks_of_same rfl rfl rfl
  · exact .refl s
  · exact issueOrder_marks k s
  · have list : MarksStay s (setWaitList (s.window.waitList ++ [newEntry r k s]) s) := marks_of_same rfl rfl rfl
    exact list.trans (latch_marks .windowWait _ _ (by decide))

theorem releaseWindow_marks (k : Slot) (s : State) : MarksStay s (releaseWindow k s) := by
  have frees : MarksStay s (freed k s) := by
    refine ⟨fun j => ?_, fun j => by rw [freed_ports], fun j => by rw [freed_ports], ?_⟩
    · rw [freed_contexts]
      split <;> rfl
    · unfold freed
      split
      · cases boreOf s k <;> rfl
      · rfl
  rw [releaseWindow_eq]
  split
  · exact frees.trans (serveBore_marks _ _)
  · exact frees

/-! ### Marks along a chain of steps -/

theorem updExecutor_marks (f : Executor → Executor) (s : State) : MarksStay s (updExecutor f s) :=
  marks_of_same rfl rfl rfl

theorem awaitStep_marks (st : PlanStep) (s : State) : MarksStay s (awaitStep st s).1 := by
  unfold awaitStep
  exact updExecutor_marks (fun x => { x with stepTimer := timeoutDeadline s st.timeout }) s

theorem startRestart_marks (p : PlanNo) (k : Slot) (st : PlanStep) (s : State) :
    MarksStay s (startRestart p k st s).1 := by
  unfold startRestart
  dsimp only
  split
  · dsimp only
    exact (takeRequest_marks _ k s).trans (updExecutor_marks _ _)
  · exact ((takeRequest_marks _ k s).trans (updExecutor_marks _ _)).trans (awaitStep_marks st _)

theorem startPause_marks (k : Slot) (s : State) : MarksStay s (startPause k s).1 := by
  unfold startPause
  split
  · exact pauseSlot_marks k s
  · exact .refl s

theorem startResume_marks (k : Slot) (st : PlanStep) (s : State) : MarksStay s (startResume k st s).1 := by
  unfold startResume
  split
  · exact ((resumeSlot_marks k s).trans (updExecutor_marks _ _)).trans (awaitStep_marks st _)
  · exact .refl s

theorem placeMark_marks (plan : PlanNo) (pass step code : Nat) (s : State) :
    MarksStay s (placeMark plan pass step code s) := by
  unfold placeMark
  split <;> exact marks_of_same rfl rfl rfl

theorem startAction_marks (p : PlanNo) (i : Nat) (st : PlanStep) (s : State) :
    MarksStay s (startAction p i st s).1 := by
  unfold startAction
  split
  · split
    · exact startRestart_marks p _ st s
    · exact .refl s
  · split
    · exact startPause_marks _ s
    · exact .refl s
  · split
    · exact startResume_marks _ st s
    · exact .refl s
  · dsimp only
    exact updExecutor_marks _ s
  · exact awaitStep_marks st s
  · split
    · exact .refl s
    · exact awaitStep_marks st s
  · exact (updExecutor_marks _ s).trans (placeMark_marks _ _ _ _ _)

/-- A chain of steps keeps the marks. -/
theorem marks_stepRelation : StepRelation MarksStay where
  refl := .refl
  trans := .trans
  executor := updExecutor_marks
  begins p i st s := (updExecutor_marks _ s).trans (startAction_marks p i st _)
  fails st s := (updExecutor_marks _ s).trans (latch_marks .stepFailed _ _ (by decide))
  ends p result s := by
    rw [endPlan_eq]
    have ended : MarksStay s { dropPlan p s with executor := endedExecutor result s.executor } :=
      marks_of_same rfl rfl rfl
    exact ended.trans (latch_marks _ _ _ (by cases result <;> decide))

theorem enterFault_marks (k : Slot) (s : State) : MarksStay s (enterFault k s) := by
  have enters : MarksStay s (faulted k s) :=
    (changeState_marks k .fault none id s fun _ => rfl).trans (plant_marks (deriveOwned_plant k _))
  rw [enterFault_eq]
  exact ((enters.trans (releaseWindow_marks k _)).trans (latch_marks .computerFault _ _ (by decide))).trans
    (marks_stepRelation.noteFault k _)

end Sys2Proof.Proofs
end


section
/-! SUPPORT. The failure of a step (R141, R148), and the failure of an attempt as far as FAULT (R97, R98, R115,
R116, R118, R142). -/

namespace Sys2Proof.Proofs

open Sys2Proof.Machine Sys2Proof.Safety Sys2Proof.Laws

/-! ### The failure of a step (R141) -/

/-- The executor as the failure of its step leaves it. -/
def failedExecutor (x : Executor) : Executor := { x with stepTimer := none, skipped := min 255 (x.skipped + 1) }

theorem noteFailure_eq (st : PlanStep) (s : State) : noteFailure st s =
    latch .stepFailed (stepItem st) { s with executor := failedExecutor s.executor } := rfl

theorem noteFailure_executor (st : PlanStep) (s : State) :
    (noteFailure st s).executor = failedExecutor s.executor := by
  rw [noteFailure_eq, latch_executor]

theorem noteFailure_contexts (st : PlanStep) (s : State) : (noteFailure st s).contexts = s.contexts := by
  rw [noteFailure_eq, latch_contexts]

theorem noteFailure_ports (st : PlanStep) (s : State) : (noteFailure st s).ports = s.ports := by
  rw [noteFailure_eq, latch_ports]

theorem noteFailure_now (st : PlanStep) (s : State) : (noteFailure st s).now = s.now := by
  rw [noteFailure_eq, (latch_moves ..).now]

theorem endPlan_events_other (p : PlanNo) (result : PlanResult) (k : EventKind) (s : State)
    (other : eventIndex k ≠ eventIndex (resultEvent result)) :
    (endPlan p result s).events[eventIndex k] = s.events[eventIndex k] := by
  rw [endPlan_events]
  exact Vector.getElem_set_ne _ _ fun same => other (Fin.ext same.symm)

/-- Under SKIP a WAIT behind the failed step begins (R141). -/
theorem failStep_wait (p : PlanNo) (r : PlanRecord) (i : Nat) (st next : PlanStep) (s : State) (skip : r.onFail = .skip)
    (follows : r.steps[i + 1]? = some next) (wait : next.kind = .wait) : failStep p r i st s =
      { noteFailure st s with executor := waitingAt (i + 1) next s.now (failedExecutor s.executor) } := by
  obtain ⟨rest, steps⟩ := stepsAfter_next r i next follows
  simp only [failStep, skip]
  rw [steps, runSteps_wait _ _ _ _ _ _ _ wait, noteFailure_executor, noteFailure_now]

theorem failStep_abort (p : PlanNo) (r : PlanRecord) (i : Nat) (st : PlanStep) (s : State) (abort : r.onFail = .abort) :
    failStep p r i st s = endPlan p .abortedFail (noteFailure st s) := by
  simp only [failStep, abort]

/-- Where nothing further starts than a WAIT, the failure of a step is `stepFails`, and leaves every slot and port
and every other report but that of the plan's end. -/
theorem failStep_fails (p : PlanNo) (r : PlanRecord) (i : Nat) (st : PlanStep) (s : State) (rests : FailureRests r i) :
    stepFails r i (stepItem st) s (failStep p r i st s) ∧ (failStep p r i st s).contexts = s.contexts ∧
    (failStep p r i st s).ports = s.ports ∧
    ∀ k : EventKind, eventIndex k ≠ 9 → eventIndex k ≠ 7 →
      (failStep p r i st s).events[eventIndex k] = s.events[eventIndex k] := by
  have latched : (noteFailure st s).events[eventIndex .stepFailed] = { latched := true, item := stepItem st } :=
    latch_latched .stepFailed _ _
  have others (k : EventKind) (h : eventIndex k ≠ 9) : (noteFailure st s).events[eventIndex k] =
      s.events[eventIndex k] := latch_events_other .stepFailed k _ _ h
  have executor := noteFailure_executor st s
  rcases rests with abort | ⟨skip, next, follows, wait⟩
  · rw [failStep_abort p r i st s abort]
    refine ⟨⟨?_, fun _ => ⟨?_, ?_⟩, fun _ skip => ?_⟩, ?_, ?_, fun k h9 h7 => ?_⟩
    · exact (endPlan_events_other p .abortedFail .stepFailed _ (by decide)).trans latched
    · exact latch_latched .planAborted none _
    · rw [endPlan_executor, executor]
      rfl
    · rw [abort] at skip
      nomatch skip
    · rw [endPlan_contexts, noteFailure_contexts]
    · rw [endPlan_ports, noteFailure_ports]
    · rw [endPlan_events_other p .abortedFail k _ h7, others k h9]
  · have contexts := noteFailure_contexts st s
    have ports := noteFailure_ports st s
    rw [failStep_wait p r i st next s skip follows wait]
    generalize noteFailure st s = u at latched others contexts ports ⊢
    refine ⟨⟨latched, fun abort => ?_, fun next' _ follows' => ?_⟩, contexts, ports, fun k h9 _ => others k h9⟩
    · rw [skip] at abort
      nomatch abort
    · obtain rfl : next = next' := Option.some.inj (follows.symm.trans follows')
      rfl

/-- What a failure leads to depends on the executor and the clock alone. -/
theorem stepFails_congr {r : PlanRecord} {i : Nat} {item : Option Item} {s u t : State}
    (executor : u.executor = s.executor) (now : u.now = s.now) (h : stepFails r i item u t) : stepFails r i item s t := by
  unfold stepFails at *
  rw [executor, now] at h
  exact h

/-! ### The executor is told of FAULT (R142) -/

theorem noteFault_idle (k : Slot) (s : State) (idle : NoPlan s) : noteFault k s = s := by
  simp only [noteFault, runningStep_of_idle idle]

theorem noteFault_running (k : Slot) (p : PlanNo) (i : Nat) (st : PlanStep) (s : State) (runs : RunsStep p i st s) :
    noteFault k s =
      if st.kind = .restart ∧ st.operand = k.val then failStep p s.cfg.plans[p] i st s else s := by
  have names : slotOf st.operand = some k ↔ st.operand = k.val := ⟨slotOf_some, fun h => by rw [h, slotOf_val]⟩
  simp only [noteFault, runningStep_of runs, names]

theorem stepItem_restart (k : Slot) (st : PlanStep) (kind : st.kind = .restart) (names : st.operand = k.val) :
    stepItem st = some (.slot k) := by
  simp only [stepItem, kind, names, slotOf_val, Option.map_some]

/-! ### A bore's queue served for other slots (R116) -/

/-- What the restarts of other slots leave of slot `k`, of reports and of the executor. -/
structure SlotLeft (k : Slot) (s t : State) : Prop where
  cfg : t.cfg = s.cfg
  now : t.now = s.now
  context : t.contexts[k] = s.contexts[k]
  port : t.ports[k] = s.ports[k]
  events : t.events = s.events
  waits : ∀ e ∈ t.window.waitList, e ∈ s.window.waitList
  modes : ∀ c : Chan, owns s k c = true → t.channels[c].mode = s.channels[c].mode
  idle : NoPlan s → t.executor = s.executor

theorem SlotLeft.refl (k : Slot) (s : State) : SlotLeft k s s :=
  ⟨rfl, rfl, rfl, rfl, rfl, fun _ => id, fun _ _ => rfl, fun _ => rfl⟩

theorem SlotLeft.trans {k : Slot} {s t u : State} (h : SlotLeft k s t) (g : SlotLeft k t u) : SlotLeft k s u where
  cfg := g.cfg.trans h.cfg
  now := g.now.trans h.now
  context := g.context.trans h.context
  port := g.port.trans h.port
  events := g.events.trans h.events
  waits e mem := h.waits e (g.waits e mem)
  modes c own := (g.modes c (by rw [owns, h.cfg]; exact own)).trans (h.modes c own)
  idle plan := (g.idle (by rw [NoPlan, h.idle plan]; exact plan)).trans (h.idle plan)

theorem issueOrder_left (k j : Slot) (s : State) (other : k ≠ j) : SlotLeft k s (issueOrder j s) := by
  cases can : canIssue s.contexts[j] with
  | false =>
    rw [issueOrder_of_not j s can]
    exact .refl k s
  | true =>
    have issued := issueOrder_issued j s can
    refine ⟨issued.cfg, issued.now, ?_, issued.others k other, issued.events, fun e mem => ?_, fun c own => ?_,
      fun idle => issueOrder_executor_idle j s can idle⟩
    · rw [issued.contexts]
      exact Vector.getElem_set_ne j.isLt k.isLt fun same => other (Fin.ext same.symm)
    · rw [issued.waitList] at mem
      exact List.mem_of_mem_filter mem
    · refine issued.modes c (Bool.eq_false_iff.mpr fun foreign => other ?_)
      have ownK : s.cfg.channels[c].owner = some k := beq_iff_eq.mp own
      have ownJ : s.cfg.channels[c].owner = some j := beq_iff_eq.mp foreign
      exact Option.some.inj (ownK.symm.trans ownJ)

theorem serveEntries_left (k : Slot) (b : Bore) (l : List WaitEntry) (s : State) (others : ∀ e ∈ l, e.slot ≠ k) :
    SlotLeft k s (serveEntries b l s) := by
  induction l generalizing s with
  | nil => exact .refl k s
  | cons e l ih =>
    refine SlotLeft.trans ?_ (ih _ fun x mem => others x (List.mem_cons_of_mem e mem))
    dsimp only
    split
    · exact issueOrder_left k e.slot s (others e List.mem_cons_self).symm
    · exact .refl k s

/-! ### FAULT (R98, R116, R118) -/

theorem freed_waitList (k : Slot) (s : State) : (freed k s).window.waitList = (dropRecovery k s).window.waitList := by
  unfold freed
  split
  · cases boreOf s k <;> rfl
  · rfl

theorem freed_executor (k : Slot) (s : State) : (freed k s).executor = s.executor := by
  unfold freed
  split
  · cases boreOf s k <;> rfl
  · rfl

theorem freed_channels (k : Slot) (s : State) : (freed k s).channels = s.channels := by
  unfold freed
  split
  · cases boreOf s k <;> rfl
  · rfl

theorem freed_none (k : Slot) (s : State) (quiet : NoneWaiting s) : NoneWaiting (freed k s) := by
  rw [NoneWaiting, freed_waitList]
  show List.map _ (List.filter _ s.window.waitList) = []
  rw [quiet]
  rfl

theorem releaseWindow_none (k : Slot) (s : State) (quiet : NoneWaiting s) : releaseWindow k s = freed k s := by
  rw [releaseWindow_eq, serveBore_none _ _ (freed_none k s quiet), ite_self]

/-- A slot that waits as a RECOVERY only has no entry left (R118). -/
theorem freed_absent (k : Slot) (s : State) (recoveries : ∀ e ∈ s.window.waitList, e.slot = k → e.source = .recovery) :
    ∀ e ∈ (freed k s).window.waitList, e.slot ≠ k := by
  rw [freed_waitList]
  intro e mem own
  obtain ⟨x, found, rfl⟩ := List.mem_map.mp (show e ∈ List.map _ (List.filter _ s.window.waitList) from mem)
  obtain ⟨waits, stays⟩ := List.mem_filter.mp found
  have ownX : x.slot = k := by
    split at own <;> exact own
  simp [ownX, recoveries x waits ownX] at stays

theorem releaseWindow_left (k : Slot) (s : State)
    (recoveries : ∀ e ∈ s.window.waitList, e.slot = k → e.source = .recovery) :
    SlotLeft k (freed k s) (releaseWindow k s) := by
  rw [releaseWindow_eq]
  split
  · exact serveEntries_left k _ _ _ (freed_absent k s recoveries)
  · exact .refl k _

theorem faulted_slot (k : Slot) (s : State) : SlotMoves k s (faulted k s) :=
  (changeState_slot k .fault none id s).trans (deriveOwned_slot k _)

theorem faulted_port (k : Slot) (s : State) : (faulted k s).ports[k] = { s.ports[k] with reportTimer := none } := by
  rw [faulted, (deriveOwned_plant k _).ports, changeState_port]
  rfl

/-- The channels of a slot in FAULT are in FALLBACK (R4). -/
theorem faulted_mode (k : Slot) (c : Chan) (s : State) (own : owns s k c = true)
    (adopted : s.channels[c].adopted = true) (free : s.channels[c].forced = none) :
    (faulted k s).channels[c].mode = .fallback := by
  have cfg := (changeState_slot k .fault none id s).cfg
  have owner : s.cfg.channels[c].owner = some k := beq_iff_eq.mp own
  have channel := changeState_channel k .fault none id c s
  have state : (changeState k .fault none id s).contexts[k].state = .fault := by
    rw [changeState_get, if_pos rfl]
    rfl
  unfold faulted
  generalize changeState k .fault none id s = u at cfg channel state ⊢
  have ownU : c ∈ ownedBy u k := List.mem_filter.mpr ⟨List.mem_finRange c, by rw [owns, cfg]; exact own⟩
  rw [deriveOwned, deriveEach_mode, if_pos ownU]
  refine modeOf_fallback u c (by rw [channel]; exact adopted) (by rw [channel]; exact free) ?_
  rw [cfg, owner, leavesFallback]
  rw [state]

end Sys2Proof.Proofs
end


section
/-! SUPPORT. The failure of an attempt whole (R97, R98), as the timers and the rejections of a slot bring it. -/

namespace Sys2Proof.Proofs

open Sys2Proof.Machine Sys2Proof.Safety Sys2Proof.Laws

/-! ### The state in which an attempt fails -/

/-- A state that differs from `s` by no more than what the event that fails the attempt has done: context timers
of the slot and marks of its port. -/
structure Attempting (k : Slot) (s v : State) : Prop where
  cfg : v.cfg = s.cfg
  now : v.now = s.now
  window : v.window = s.window
  executor : v.executor = s.executor
  events : v.events = s.events
  supervisory : v.supervisory = s.supervisory
  channels : v.channels = s.channels
  enters : ∀ new phase, contextEnters new phase v.contexts[k] = contextEnters new phase s.contexts[k]
  others : ∀ j : Slot, j ≠ k → v.contexts[j] = s.contexts[j]
  sendList : v.ports[k].sendList = s.ports[k].sendList

/-- What an entry keeps of a context is the same in both. -/
theorem Attempting.kept {k : Slot} {s v : State} (h : Attempting k s v) :
    v.contexts[k].failures = s.contexts[k].failures ∧ v.contexts[k].inProgress = s.contexts[k].inProgress := by
  have failures : (contextEnters .lost none v.contexts[k]).failures = (contextEnters .lost none s.contexts[k]).failures :=
    congrArg Context.failures (h.enters .lost none)
  have flag : (contextEnters .lost none v.contexts[k]).inProgress = (contextEnters .lost none s.contexts[k]).inProgress :=
    congrArg Context.inProgress (h.enters .lost none)
  exact ⟨failures, flag⟩

/-- The attempt is counted. -/
structure Attempted (k : Slot) (s a : State) : Prop where
  cfg : a.cfg = s.cfg
  now : a.now = s.now
  window : a.window = s.window
  executor : a.executor = s.executor
  channels : a.channels = s.channels
  enters : ∀ new phase, contextEnters new phase a.contexts[k] = { contextEnters new phase s.contexts[k] with
    failures := min 7 (s.contexts[k].failures + 1) }
  others : ∀ j : Slot, j ≠ k → a.contexts[j] = s.contexts[j]
  sendList : a.ports[k].sendList = s.ports[k].sendList
  latched : a.events[(2 : Fin 16)] = { latched := true, item := some (.slot k) }
  outgoing : a.supervisory.outgoing = noticeAfter 2 s a

theorem attempted_of {k : Slot} {s v : State} (h : Attempting k s v) : Attempted k s (attempted k v) := by
  have only : attempted k v = latch .attemptFailed (some (.slot k)) (updContext k (fun x => { x with
      failures := min Config.faultFailures (v.contexts[k].failures + 1) }) v) := rfl
  have moves := (updContext_slot k (fun x => { x with
      failures := min Config.faultFailures (v.contexts[k].failures + 1) }) v).toComputerMoves.trans
    (latch_moves .attemptFailed (some (.slot k)) _)
  rw [← only] at moves
  refine ⟨moves.cfg.trans h.cfg, moves.now.trans h.now, ?_, ?_, ?_, fun new phase => ?_, fun j other => ?_, ?_, ?_, ?_⟩
  · rw [only, latch_window]
    exact h.window
  · rw [only, latch_executor]
    exact h.executor
  · rw [only, latch_channels]
    exact h.channels
  · rw [attempted_contexts, if_pos rfl, ← h.enters, h.kept.1]
    rfl
  · rw [attempted_contexts, if_neg other, h.others j other]
  · rw [only, latch_ports]
    exact h.sendList
  · exact latch_latched .attemptFailed _ _
  · rw [only, latch_supervisory]
    exact noticeAfter_congr 2 h.events h.cfg h.supervisory rfl rfl

/-! ### Below the seventh failure (R97) -/

theorem enterLost_get (k j : Slot) (s : State) : (enterLost k s).contexts[j] =
    if j = k then contextEnters .lost none s.contexts[j] else s.contexts[j] := by
  unfold enterLost
  rw [(deriveOwned_plant k _).contexts, changeState_get]
  rfl

/-- With the flag set RESTART is sent again. -/
theorem attempt_again (k : Slot) {s a : State} (h : Attempted k s a) (room : s.ports[k].sendList.length < 8)
    (low : s.contexts[k].failures < 6) :
    (enterSettle k (sendRestart k a)).window = s.window ∧
    (enterSettle k (sendRestart k a)).contexts = s.contexts.set k { s.contexts[k] with
      state := .settle, phase := none, failures := s.contexts[k].failures + 1, trackCause := none
      settleTimer := some (s.now + settleSeconds s.cfg.computers[k].settleCode * 1000)
      helloTimer := none, imageTimer := none, trackTimer := none } ∧
    (enterSettle k (sendRestart k a)).ports[k].sendList =
      s.ports[k].sendList ++ [.restart s.cfg.computers[k].settleCode] ∧
    (enterSettle k (sendRestart k a)).supervisory.outgoing =
      noticeAfter 2 s (enterSettle k (sendRestart k a)) := by
  have moves := (sendRestart_slot k a).trans (enterSettle_slot k _)
  have small : min 7 (s.contexts[k].failures + 1) = s.contexts[k].failures + 1 :=
    Nat.min_eq_right (Nat.succ_le_of_lt (Nat.lt_succ_of_lt low))
  refine ⟨moves.window.trans h.window, vector_eq_set ?_ fun j other => ?_, ?_, ?_⟩
  · rw [enterSettle_get, if_pos rfl, show (sendRestart k a).contexts = a.contexts from rfl, h.enters, small,
      (sendRestart_slot k a).now, (sendRestart_slot k a).cfg, h.now, h.cfg]
    rfl
  · rw [moves.contexts j other, h.others j other]
  · rw [enterSettle_port, sendRestart, sendOrder_room k _ a rfl (by rw [h.sendList]; exact room), h.sendList, h.cfg]
  · rw [moves.supervisory, h.outgoing]
    exact (noticeAfter_congr 2 rfl rfl rfl moves.events moves.cfg).symm

/-- With the flag clear the slot enters LOST and a RECOVERY request follows. -/
theorem attempt_lost (k : Slot) {s a : State} (h : Attempted k s a) (room : s.ports[k].sendList.length < 8)
    (low : s.contexts[k].failures < 6) (clear : s.contexts[k].inProgress = false) :
    (requestRecovery k (enterLost k a)).contexts[k].failures = s.contexts[k].failures + 1 ∧
    (requestRecovery k (enterLost k a)).ports[k].reportTimer = none ∧
    (isWaiting s k = true → (requestRecovery k (enterLost k a)).contexts[k].state = .lost ∧
      (requestRecovery k (enterLost k a)).ports[k].sendList = s.ports[k].sendList ∧
      (requestRecovery k (enterLost k a)).window = { s.window with
        waitList := s.window.waitList.map fun e => if e.slot = k then joinEntry .recovery e else e }) ∧
    (isWaiting s k = false →
      (limitOf s (boreOf s k) ≤ countOf s (boreOf s k) ∨ boreWaits s (boreOf s k) = true) →
      (requestRecovery k (enterLost k a)).contexts[k].state = .lost ∧
      (requestRecovery k (enterLost k a)).ports[k].sendList = s.ports[k].sendList ∧
      (requestRecovery k (enterLost k a)).window = { s.window with
        waitList := s.window.waitList ++
          [{ slot := k, source := .recovery, plan := none, mark := false, since := s.now }] } ∧
      (requestRecovery k (enterLost k a)).events[(5 : Fin 16)] = { latched := true, item := some (.slot k) }) ∧
    (isWaiting s k = false → countOf s (boreOf s k) < limitOf s (boreOf s k) → boreWaits s (boreOf s k) = false →
      (requestRecovery k (enterLost k a)).contexts[k].state = .settle ∧
      (requestRecovery k (enterLost k a)).contexts[k].inProgress = true ∧
      countOf (requestRecovery k (enterLost k a)) (boreOf s k) = countOf s (boreOf s k) + 1 ∧
      (requestRecovery k (enterLost k a)).ports[k].sendList =
        s.ports[k].sendList ++ [.restart s.cfg.computers[k].settleCode]) := by
  have moves := enterLost_slot k a
  have small : min 7 (s.contexts[k].failures + 1) = s.contexts[k].failures + 1 :=
    Nat.min_eq_right (Nat.succ_le_of_lt (Nat.lt_succ_of_lt low))
  have context := enterLost_get k k a
  rw [if_pos rfl, h.enters, small] at context
  have port := enterLost_port k a
  have cfg : (enterLost k a).cfg = s.cfg := moves.cfg.trans h.cfg
  have list : (enterLost k a).ports[k].sendList = s.ports[k].sendList := (congrArg Port.sendList port).trans h.sendList
  have timer : (enterLost k a).ports[k].reportTimer = none := congrArg Port.reportTimer port
  have state : (enterLost k a).contexts[k].state = .lost := congrArg Context.state context
  have failures : (enterLost k a).contexts[k].failures = s.contexts[k].failures + 1 :=
    congrArg Context.failures context
  obtain ⟨joins, appends, issues⟩ := requestRecovery_after k cfg (moves.now.trans h.now) (moves.window.trans h.window)
    ((congrArg Context.inProgress context).trans clear) (by rw [state]; nofun) (by rw [state]; nofun)
  generalize enterLost k a = u at cfg list timer state failures joins appends issues ⊢
  have single : revocation k .order u = [] := if_neg (by rw [state]; nofun)
  have fits : (u.ports[k].sendList ++ revocation k .order u).length < 8 := by
    rw [single, List.append_nil, list]
    exact room
  have rows : isWaiting s k = true ∨ (isWaiting s k = false ∧
      ((limitOf s (boreOf s k) ≤ countOf s (boreOf s k) ∨ boreWaits s (boreOf s k) = true) ∨
        (countOf s (boreOf s k) < limitOf s (boreOf s k) ∧ boreWaits s (boreOf s k) = false))) := by
    rcases Nat.lt_or_ge (countOf s (boreOf s k)) (limitOf s (boreOf s k)) with free | full
    · cases isWaiting s k <;> cases boreWaits s (boreOf s k) <;> simp [free]
    · cases isWaiting s k <;> simp [full]
  have both : (requestRecovery k u).contexts[k].failures = s.contexts[k].failures + 1 ∧
      (requestRecovery k u).ports[k].reportTimer = none := by
    rcases rows with waits | ⟨absent, full | ⟨free, none⟩⟩
    · obtain ⟨contexts, ports, -⟩ := joins waits
      rw [contexts, ports]
      exact ⟨failures, timer⟩
    · obtain ⟨contexts, ports, -⟩ := appends absent full
      rw [contexts, ports]
      exact ⟨failures, timer⟩
    · obtain ⟨order, -⟩ := issues absent free none
      rw [order.context, order.port fits]
      exact ⟨(if_neg (by rw [state]; nofun)).trans failures, rfl⟩
  refine ⟨both.1, both.2, fun waits => ?_, fun absent full => ?_, fun absent free none => ?_⟩
  · obtain ⟨contexts, ports, window⟩ := joins waits
    rw [contexts, ports]
    exact ⟨state, list, window⟩
  · obtain ⟨contexts, ports, window, event⟩ := appends absent full
    rw [contexts, ports]
    exact ⟨state, list, window, event⟩
  · obtain ⟨order, counted, -⟩ := issues absent free none
    rw [order.context, order.port fits]
    refine ⟨rfl, rfl, counted, ?_⟩
    show u.ports[k].sendList ++ revocation k .order u ++ [.restart u.cfg.computers[k].settleCode] = _
    rw [single, list, cfg, List.append_nil]

/-! ### The seventh failure (R98) -/

/-- The slot has entered FAULT and its window slot is freed. -/
structure Freed (k : Slot) (s u : State) : Prop where
  cfg : u.cfg = s.cfg
  now : u.now = s.now
  executor : u.executor = s.executor
  context : u.contexts[k] = { contextEnters .fault none s.contexts[k] with
    failures := min 7 (s.contexts[k].failures + 1), inProgress := false }
  sendList : u.ports[k].sendList = s.ports[k].sendList
  reportTimer : u.ports[k].reportTimer = none
  count : ∀ b, countOf u b =
    countOf s b - (if b = boreOf s k ∧ s.contexts[k].inProgress = true then 1 else 0)
  modes : ∀ c : Chan, owns s k c = true → s.channels[c].adopted = true → s.channels[c].forced = none →
    u.channels[c].mode = .fallback

theorem freed_of {k : Slot} {s a : State} (h : Attempted k s a) : Freed k s (freed k (faulted k a)) := by
  have slot := faulted_slot k a
  have moves := (freed_lists k (faulted k a)).moves
  have context := faulted_contexts k k a
  rw [if_pos rfl, h.enters] at context
  have bore : boreOf (faulted k a) k = boreOf s k := by rw [boreOf, slot.cfg, h.cfg, boreOf]
  have count : ∀ b, countOf (faulted k a) b = countOf s b := fun b => by
    cases b <;> simp only [countOf, slot.window, h.window]
  refine ⟨moves.cfg.trans (slot.cfg.trans h.cfg), moves.now.trans (slot.now.trans h.now), ?_, ?_, ?_, ?_, fun b => ?_,
    fun c own adopted free => ?_⟩
  · rw [freed_executor, slot.executor, h.executor]
  · rw [freed_contexts, if_pos rfl, context]
  · rw [freed_ports, faulted_port]
    exact h.sendList
  · rw [freed_ports, faulted_port]
  · rw [freed_count, bore, count, context]
    rfl
  · rw [freed_channels]
    exact faulted_mode k c a (by rw [owns, h.cfg]; exact own) (by rw [h.channels]; exact adopted)
      (by rw [h.channels]; exact free)

theorem faulted_waitList {k : Slot} {s a : State} (h : Attempted k s a) :
    (faulted k a).window.waitList = s.window.waitList := by rw [(faulted_slot k a).window, h.window]

/-- The seventh failure where no plan executes. -/
theorem attempt_fault (k : Slot) {s a : State} (h : Attempted k s a) (last : s.contexts[k].failures = 6)
    (plan : NoPlan s) (recoveries : ∀ e ∈ s.window.waitList, e.slot = k → e.source = .recovery) :
    (enterFault k a).contexts[k] = { s.contexts[k] with
      state := .fault, phase := none, failures := 7, inProgress := false, trackCause := none
      settleTimer := none, helloTimer := none, imageTimer := none, trackTimer := none } ∧
    (enterFault k a).events[(3 : Fin 16)] = { latched := true, item := some (.slot k) } ∧
    (enterFault k a).ports[k].sendList = s.ports[k].sendList ∧ (enterFault k a).ports[k].reportTimer = none ∧
    (∀ e ∈ (enterFault k a).window.waitList, e.slot ≠ k) ∧
    (NoneWaiting s → countOf (enterFault k a) (boreOf s k) =
      countOf s (boreOf s k) - (if s.contexts[k].inProgress = true then 1 else 0)) ∧
    ∀ c : Chan, owns s k c = true → s.channels[c].adopted = true → s.channels[c].forced = none →
      (enterFault k a).channels[c].mode = .fallback := by
  have free := freed_of h
  have list := faulted_waitList h
  have recoveriesF : ∀ e ∈ (faulted k a).window.waitList, e.slot = k → e.source = .recovery := by
    rw [list]
    exact recoveries
  have left := releaseWindow_left k (faulted k a) recoveriesF
  have absent := freed_absent k (faulted k a) recoveriesF
  have quiet : NoneWaiting s → releaseWindow k (faulted k a) = freed k (faulted k a) := fun none =>
    releaseWindow_none k _ (list.trans none)
  have idle : NoPlan (latch .computerFault (some (.slot k)) (releaseWindow k (faulted k a))) := by
    have planF : NoPlan (freed k (faulted k a)) := by
      rw [NoPlan, free.executor]
      exact plan
    rw [NoPlan, latch_executor, left.idle planF]
    exact planF
  have latched := latch_latched .computerFault (some (.slot k)) (releaseWindow k (faulted k a))
  rw [enterFault_eq, noteFault_idle k _ idle]
  refine ⟨?_, latched, ?_, ?_, fun e mem => ?_, fun none => ?_, fun c own adopted free' => ?_⟩
  · rw [latch_contexts, left.context, free.context, last]
    rfl
  · rw [latch_ports, left.port, free.sendList]
  · rw [latch_ports, left.port, free.reportTimer]
  · rw [latch_window] at mem
    exact absent e (left.waits e mem)
  · have through : countOf (latch .computerFault (some (.slot k)) (releaseWindow k (faulted k a))) (boreOf s k) =
        countOf (freed k (faulted k a)) (boreOf s k) := by
      rw [quiet none]
      cases boreOf s k <;> simp only [countOf, latch_window]
    rw [through, free.count]
    simp only [true_and]
  · have ownF : owns (freed k (faulted k a)) k c = true := by
      rw [owns, free.cfg]
      exact own
    rw [latch_channels, left.modes c ownF]
    exact free.modes c own adopted free'

/-- The seventh failure where a plan runs a step and nothing waits. -/
theorem attempt_faultStep (k : Slot) {s a : State} (h : Attempted k s a) (last : s.contexts[k].failures = 6)
    (none : NoneWaiting s) (p : PlanNo) (i : Nat) (st : PlanStep) (runs : RunsStep p i st s) :
    (st.kind = .restart → st.operand = k.val → FailureRests s.cfg.plans[p] i →
      (enterFault k a).contexts[k].failures = 7 ∧
      (enterFault k a).events[(3 : Fin 16)] = { latched := true, item := some (.slot k) } ∧
      stepFails s.cfg.plans[p] i (some (.slot k)) s (enterFault k a)) ∧
    ((st.kind ≠ .restart ∨ st.operand ≠ k.val) → (enterFault k a).contexts[k].failures = 7 ∧
      (enterFault k a).events[(3 : Fin 16)] = { latched := true, item := some (.slot k) } ∧
      (enterFault k a).executor = s.executor) := by
  have free := freed_of h
  have quiet : releaseWindow k (faulted k a) = freed k (faulted k a) :=
    releaseWindow_none k _ ((faulted_waitList h).trans none)
  have latched := latch_latched .computerFault (some (.slot k)) (freed k (faulted k a))
  have contexts := latch_contexts .computerFault (some (.slot k)) (freed k (faulted k a))
  have executor := (latch_executor .computerFault (some (.slot k)) (freed k (faulted k a))).trans free.executor
  have moves := latch_moves .computerFault (some (.slot k)) (freed k (faulted k a))
  have cfg := moves.cfg.trans free.cfg
  have now := moves.now.trans free.now
  have failures : (freed k (faulted k a)).contexts[k].failures = 7 := by
    rw [free.context, last]
    rfl
  rw [enterFault_eq, quiet]
  rw [← contexts] at failures
  generalize latch .computerFault (some (.slot k)) (freed k (faulted k a)) = b at latched executor cfg now failures ⊢
  have runsB : RunsStep p i st b := by
    rw [RunsStep, executor, cfg]
    exact runs
  rw [noteFault_running k p i st b runsB, cfg]
  refine ⟨fun kind names rests => ?_, fun other => ?_⟩
  · obtain ⟨fails, contextsF, -, events⟩ := failStep_fails p s.cfg.plans[p] i st b rests
    rw [if_pos ⟨kind, names⟩, contextsF]
    refine ⟨failures, (events .computerFault (by decide) (by decide)).trans latched, ?_⟩
    rw [← stepItem_restart k st kind names]
    exact stepFails_congr executor now fails
  · rw [if_neg fun both => other.elim (absurd both.1) (absurd both.2)]
    exact ⟨failures, latched, executor⟩

/-! ### The failure of an attempt -/

/-- An attempt fails as R97 and R98 say, and leaves what `MarksStay` names but for the report of the failure. -/
theorem failAttempt_fails (k : Slot) {s v : State} (h : Attempting k s v) (room : s.ports[k].sendList.length < 8) :
    attemptFails k s (failAttempt k v) ∧ MarksStay (attempted k v) (failAttempt k v) := by
  have counts := attempted_of h
  obtain ⟨sameFailures, sameFlag⟩ := h.kept
  rw [failAttempt_eq, sameFailures, sameFlag]
  generalize attempted k v = a at counts ⊢
  have marks : MarksStay a (if 7 ≤ s.contexts[k].failures + 1 then enterFault k a
      else if s.contexts[k].inProgress then enterSettle k (sendRestart k a) else requestRecovery k (enterLost k a)) := by
    split
    · exact enterFault_marks k a
    · split
      · exact (sendOrder_marks k _ a).trans (enterSettle_marks k _)
      · exact (enterLost_marks k a).trans (takeRequest_marks .recovery k _)
  have below (low : s.contexts[k].failures < 6) : ¬7 ≤ s.contexts[k].failures + 1 :=
    Nat.not_le.mpr (Nat.succ_lt_succ low)
  have at6 (last : s.contexts[k].failures = 6) : 7 ≤ s.contexts[k].failures + 1 := Nat.le_of_eq (by rw [last])
  refine ⟨⟨marks.attempts.trans counts.latched, fun set low => ?_, fun clear low => ?_, fun last plan recoveries => ?_,
    fun last none p i st runs => ?_⟩, marks⟩
  · rw [if_neg (below low), if_pos set]
    exact attempt_again k counts room low
  · rw [if_neg (below low), if_neg (Bool.eq_false_iff.mp clear)]
    exact attempt_lost k counts room low clear
  · rw [if_pos (at6 last)]
    exact attempt_fault k counts last plan recoveries
  · rw [if_pos (at6 last)]
    exact attempt_faultStep k counts last none p i st runs

/-! ### Timers and rejections that fail an attempt -/

/-- A change of a context that no entry keeps. -/
theorem attempting_updContext (k : Slot) (f : Context → Context) (s : State)
    (enters : ∀ x new phase, contextEnters new phase (f x) = contextEnters new phase x) :
    Attempting k s (updContext k f s) :=
  ⟨rfl, rfl, rfl, rfl, rfl, rfl, rfl, fun new phase => by rw [updContext_get, if_pos rfl, enters],
    fun j other => updContext_other k j f s other, rfl⟩

/-- A change of a port that leaves its orders. -/
theorem attempting_updPort (k : Slot) (f : Port → Port) (s : State) (list : ∀ p, (f p).sendList = p.sendList) :
    Attempting k s (updPort k f s) :=
  ⟨rfl, rfl, rfl, rfl, rfl, rfl, rfl, fun _ _ => rfl, fun _ _ => rfl, by rw [updPort_same, list]⟩

/-- The rows of the three context timers: the timer stops and, in its state, the attempt fails. -/
theorem exec_attemptTimers (deadline : Nat) (k : Slot) (s : State) (live : s.held = false) :
    (s.contexts[k].helloTimer = some deadline → s.contexts[k].state = .join → exec (.helloTimer k) s =
      .next (failAttempt k (updContext k (fun x => { x with helloTimer := none })
        { s with now := clockAt deadline s }))) ∧
    (s.contexts[k].imageTimer = some deadline → s.contexts[k].state = .join → exec (.imageTimer k) s =
      .next (failAttempt k (updContext k (fun x => { x with imageTimer := none })
        { s with now := clockAt deadline s }))) ∧
    (s.contexts[k].trackTimer = some deadline → s.contexts[k].state = .track → exec (.trackTimer k) s =
      .next (failAttempt k (updContext k (fun x => { x with trackTimer := none })
        { s with now := clockAt deadline s }))) := by
  refine ⟨fun timer state => ?_, fun timer state => ?_, fun timer state => ?_⟩
  · show execHelloTimer k s = _
    rw [execHelloTimer, whenLive_live _ _ live, timer, expire_some]
    exact congrArg _ (if_pos (by rw [updContext_get, if_pos rfl]; exact state))
  · show execImageTimer k s = _
    rw [execImageTimer, whenLive_live _ _ live, timer, expire_some]
    exact congrArg _ (if_pos (by rw [updContext_get, if_pos rfl]; exact state))
  · show execTrackTimer k s = _
    rw [execTrackTimer, whenLive_live _ _ live, timer, expire_some]
    exact congrArg _ (if_pos (by rw [updContext_get, if_pos rfl]; exact state))

/-- Settles O48: each of the three timers fails the attempt in a state that differs in that timer alone. -/
theorem attemptTimersFail : Obligations.AttemptTimersFail := by
  intro deadline k i s running room timers
  obtain ⟨hello, image, track⟩ := exec_attemptTimers deadline k s running.1
  have fails (f : Context → Context)
      (enters : ∀ x new phase, contextEnters new phase (f x) = contextEnters new phase x) (row : exec i s =
        .next (failAttempt k (updContext k f { s with now := clockAt deadline s }))) :
      ∃ t, exec i s = .next t ∧ t.now = clockAt deadline s ∧ t.cfg = s.cfg ∧
        attemptFails k { s with now := clockAt deadline s } t :=
    ⟨_, row, (failAttempt_moves k _).now, (failAttempt_moves k _).cfg,
      (failAttempt_fails k (attempting_updContext k f { s with now := clockAt deadline s } enters) room).1⟩
  rcases timers with ⟨rfl, timer, state⟩ | ⟨rfl, timer, state⟩ | ⟨rfl, timer, state⟩
  · exact fails (fun x => { x with helloTimer := none }) (fun _ _ _ => rfl) (hello timer state)
  · exact fails (fun x => { x with imageTimer := none }) (fun _ _ _ => rfl) (image timer state)
  · exact fails (fun x => { x with trackTimer := none }) (fun _ _ _ => rfl) (track timer state)

/-- The port as the expiry of its report timer leaves it (R69). -/
def reportGone (deadline : Nat) (k : Slot) (s : State) : State :=
  updPort k (fun p => { p with reportTimer := none, reportLost := true }) { s with now := clockAt deadline s }

theorem exec_reportTimer (deadline : Nat) (k : Slot) (s : State) (live : s.held = false)
    (timer : s.ports[k].reportTimer = some deadline) : exec (.reportTimer k) s =
      .next (rearmReport k (reportMissed k (reportGone deadline k s))) := by
  show execReportTimer k s = _
  rw [execReportTimer, whenLive_live _ _ live, timer, expire_some]
  rfl

theorem rearmReport_silent (k : Slot) (s : State) (silent : reporting s.contexts[k].state = false) :
    rearmReport k s = s := if_neg (Bool.eq_false_iff.mp silent)

/-- The failure of an attempt with the flag set leaves the slot in no state in which its reports matter. -/
theorem attemptFails_rearm (k : Slot) (s u : State) (set : s.contexts[k].inProgress = true)
    (h : attemptFails k s u) : attemptFails k s (rearmReport k u) := by
  cases loud : reporting u.contexts[k].state with
  | false =>
    rw [rearmReport_silent k u loud]
    exact h
  | true =>
    have rearms : rearmReport k u = startReport k u := if_pos loud
    obtain ⟨latched, again, -, fault, step⟩ := h
    rw [rearms]
    refine ⟨latched, fun flag low => ?_, fun clear => ?_, fun last plan recoveries => ?_, step⟩
    · have settled := congrArg (fun v => reporting v[k].state) (again flag low).2.1
      simp only [Fin.getElem_fin, Vector.getElem_set_self] at settled
      exact nomatch loud.symm.trans settled
    · exact nomatch set.symm.trans clear
    · have faulted := congrArg (fun x => reporting x.state) (fault last plan recoveries).1
      exact nomatch loud.symm.trans faulted

/-- A slot that loses its reports outside an attempt enters LOST (R89, R93). -/
theorem reportGone_lost (deadline : Nat) (k : Slot) (s : State) :
    (enterLost k (reportGone deadline k s)).contexts[k].state = .lost ∧
    (enterLost k (reportGone deadline k s)).ports[k] = { s.ports[k] with reportTimer := none, reportLost := true } ∧
    ControllerMoves { s with now := clockAt deadline s } (enterLost k (reportGone deadline k s)) := by
  have moves := (updPort_slot k (fun p => { p with reportTimer := none, reportLost := true })
    { s with now := clockAt deadline s }).trans (enterLost_slot k (reportGone deadline k s))
  refine ⟨?_, ?_, moves.toControllerMoves⟩
  · rw [enterLost_get, if_pos rfl]
    rfl
  · rw [enterLost_port, reportGone, updPort_same]

theorem enterHello_eq (k : Slot) (s : State) : enterHello k s =
    deriveOwned k (changeState k .join (some .hello) (fun x => { x with helloTimer := some (s.now + 60000) }) s) := rfl

/-- Settles O47: by the slot's state the report timer loses the slot or fails the attempt, and the settle timer
enters JOIN. -/
theorem reportAndSettleTimers : Obligations.ReportAndSettleTimers := by
  refine ⟨fun deadline k s running timer clear => ⟨fun control => ?_, fun track => ?_⟩,
    fun deadline k s running timer set track room => ?_, fun deadline k s running timer settle => ?_⟩
  · have row := exec_reportTimer deadline k s running.1 timer
    obtain ⟨state, port, moves⟩ := reportGone_lost deadline k s
    have missed : reportMissed k (reportGone deadline k s) =
        latch .computerLost (some (.slot k)) (enterLost k (reportGone deadline k s)) := by
      have control' : (reportGone deadline k s).contexts[k].state = .control := control
      simp only [reportMissed, control']
    rw [missed] at row
    generalize enterLost k (reportGone deadline k s) = u at row state port moves
    have lost : (latch .computerLost (some (.slot k)) u).contexts[k].state = .lost := by
      rw [latch_contexts]
      exact state
    rw [rearmReport_silent k _ (by rw [lost]; rfl)] at row
    refine ⟨_, row, lost, ?_, ?_, ?_, ?_, latch_latched .computerLost _ u, ?_⟩
    · rw [latch_ports, port]
    · rw [latch_ports, port]
    · rw [latch_ports, port]
    · rw [latch_window, moves.window]
    · rw [latch_supervisory]
      exact noticeAfter_congr 1 moves.events moves.cfg moves.supervisory rfl rfl
  · have row := exec_reportTimer deadline k s running.1 timer
    obtain ⟨state, port, moves⟩ := reportGone_lost deadline k s
    have missed : reportMissed k (reportGone deadline k s) =
        enterLost k (reportGone deadline k s) := by
      have track' : (reportGone deadline k s).contexts[k].state = .track := track
      have clear' : (reportGone deadline k s).contexts[k].inProgress = false := clear
      simp only [reportMissed, track', clear', Bool.false_eq_true, if_false]
    rw [missed] at row
    generalize enterLost k (reportGone deadline k s) = u at row state port moves
    rw [rearmReport_silent k _ (by rw [state]; rfl)] at row
    exact ⟨_, row, state, by rw [port], by rw [port], by rw [port], moves.window, moves.events⟩
  · have row := exec_reportTimer deadline k s running.1 timer
    have missed : reportMissed k (reportGone deadline k s) =
        failAttempt k (reportGone deadline k s) := by
      have track' : (reportGone deadline k s).contexts[k].state = .track := track
      have set' : (reportGone deadline k s).contexts[k].inProgress = true := set
      simp only [reportMissed, track', set', if_true]
    have moves := failAttempt_moves k (reportGone deadline k s)
    have differs : Attempting k { s with now := clockAt deadline s } (reportGone deadline k s) :=
      attempting_updPort k (fun p => { p with reportTimer := none, reportLost := true }) _ fun _ => rfl
    obtain ⟨fails, marks⟩ := failAttempt_fails k differs room
    have lost : (failAttempt k (reportGone deadline k s)).ports[k].reportLost = true := by
      refine (marks.reportLost k).trans ?_
      simp only [attempted, latch_ports, updContext_ports]
      rw [reportGone, updPort_same]
    rw [missed] at row
    have rearmed_fails := attemptFails_rearm k { s with now := clockAt deadline s } _ set fails
    have rearmed : ∀ u : State, (rearmReport k u).now = u.now ∧ (rearmReport k u).cfg = u.cfg ∧
        (rearmReport k u).ports[k].reportLost = u.ports[k].reportLost := fun u => by
      unfold rearmReport
      split
      · exact ⟨rfl, rfl, by rw [startReport, updPort_same]⟩
      · exact ⟨rfl, rfl, rfl⟩
    obtain ⟨now, cfg, lostR⟩ := rearmed (failAttempt k (reportGone deadline k s))
    exact ⟨_, row, now.trans moves.now, cfg.trans moves.cfg, lostR.trans lost, rearmed_fails⟩
  · have row : exec (.settleTimer k) s = .next (enterHello k { s with now := clockAt deadline s }) := by
      show execSettleTimer k s = _
      rw [execSettleTimer, whenLive_live _ _ running.1, timer, expire_some]
      exact congrArg _ (if_pos settle)
    have slot := changeState_slot k .join (some .hello)
      (fun x => { x with helloTimer := some (clockAt deadline s + 60000) }) { s with now := clockAt deadline s }
    have contexts := changeState_contexts k .join (some .hello)
      (fun x => { x with helloTimer := some (clockAt deadline s + 60000) }) { s with now := clockAt deadline s }
    have ports := changeState_ports k .join (some .hello)
      (fun x => { x with helloTimer := some (clockAt deadline s + 60000) }) { s with now := clockAt deadline s }
    rw [enterHello_eq] at row
    generalize changeState k .join (some .hello)
      (fun x => { x with helloTimer := some (clockAt deadline s + 60000) }) { s with now := clockAt deadline s } = u
      at row slot contexts ports
    have plant := deriveOwned_plant k u
    exact ⟨_, row, plant.cfg.trans slot.cfg, plant.window.trans slot.window, plant.contexts.trans contexts,
      plant.ports.trans ports, plant.events.trans slot.events⟩

/-- Settles O39: a current reply enters TRACK or fails the attempt, any other is counted. -/
theorem imageRepliesActOrAreStale : Obligations.ImageRepliesActOrAreStale := by
  refine ⟨fun k seq gen s running => ⟨fun current => ?_, fun stale => ?_⟩,
    fun k seq gen reason s running => ⟨fun current room => ?_, fun stale => ?_⟩⟩
  · have row : exec (.imageOk k seq gen) s = .next (enterTrack k (joinCause s.contexts[k]) true s) :=
      (whenLive_inRun _ s running.1 running.2).trans (congrArg _ (if_pos current))
    have join : s.contexts[k].state = .join := by
      simp only [replyCurrent, Bool.and_eq_true, beq_iff_eq] at current
      exact current.1.1
    refine ⟨_, row, (enterTrack_slot k _ _ s).cfg, ?_, ?_, fun c own => ?_⟩
    · rw [enterTrack_contexts, joinCause]
      cases flag : s.contexts[k].inProgress <;> rfl
    · rw [enterTrack_ports, join]
      rfl
    · exact (enterTrack_matches k _ true c s own).trans (if_pos rfl)
  · refine (whenLive_inRun _ s running.1 running.2).trans (congrArg _ ?_)
    rw [if_neg (Bool.eq_false_iff.mp stale), count_eq]
    rfl
  · have row : exec (.imageReject k seq gen reason) s =
        .next (failAttempt k (updPort k (fun p => { p with lastReject := some reason }) s)) :=
      (whenLive_inRun _ s running.1 running.2).trans (congrArg _ (if_pos current))
    have moves := failAttempt_moves k (updPort k (fun p => { p with lastReject := some reason }) s)
    obtain ⟨fails, marks⟩ := failAttempt_fails k
      (attempting_updPort k (fun p => { p with lastReject := some reason }) s fun _ => rfl) room
    refine ⟨_, row, moves.cfg, moves.now, ?_, ?_, fails⟩
    · rw [marks.generation, attempted_contexts, if_pos rfl]
      rfl
    · rw [marks.lastReject, attempted, latch_ports, updContext_ports, updPort_same]
  · refine (whenLive_inRun _ s running.1 running.2).trans (congrArg _ ?_)
    rw [if_neg (Bool.eq_false_iff.mp stale), count_eq]
    rfl

end Sys2Proof.Proofs
end


section
/-! SUPPORT. The start of a step (R128 to R133, R139 to R141), and what PLAN-START and the plan's timers start
(R137 to R145, R148). -/

namespace Sys2Proof.Proofs

open Sys2Proof.Machine Sys2Proof.Safety Sys2Proof.Laws

/-! ### A step by its outcome (R139) -/

/-- The state in which the start action of step i is taken. -/
def begun (i : Nat) (s : State) : State :=
  { s with executor := { s.executor with state := .running, step := some i, watch := clearWatch, stepTimer := none } }

theorem startStep_eq (p : PlanNo) (i : Nat) (st : PlanStep) (s : State) :
    startStep p i st s = startAction p i st (begun i s) := rfl

theorem runSteps_waits {p : PlanNo} {onFail : OnFail} {onEnd : State → State} {st : PlanStep} {i : Nat}
    {rest : List (PlanStep × Nat)} {s t : State} (starts : startAction p i st (begun i s) = (t, .waits)) :
    runSteps p onFail onEnd ((st, i) :: rest) s = t := by
  simp only [runSteps, startStep_eq, starts]

/-- A step that is completed at its start goes on to the WAIT behind it (R140). -/
theorem runSteps_completed {p : PlanNo} {r : PlanRecord} {onEnd : State → State} {st next : PlanStep} {i : Nat}
    {s t : State} (starts : startAction p i st (begun i s) = (t, .completed)) (follows : r.steps[i + 1]? = some next)
    (wait : next.kind = .wait) : runSteps p r.onFail onEnd ((st, i) :: stepsAfter r i) s =
      { t with executor := waitingAt (i + 1) next t.now t.executor } := by
  obtain ⟨rest, steps⟩ := stepsAfter_next r i next follows
  simp only [runSteps, startStep_eq, starts]
  rw [steps, runSteps_wait _ _ _ _ _ _ _ wait]

/-- A step that fails at its start fails as one does that has run (R141). -/
theorem runSteps_failed {p : PlanNo} {r : PlanRecord} {onEnd : State → State} {st : PlanStep} {i : Nat} {s t : State}
    (starts : startAction p i st (begun i s) = (t, .failed)) (rests : FailureRests r i) :
    runSteps p r.onFail onEnd ((st, i) :: stepsAfter r i) s = failStep p r i st t := by
  simp only [runSteps, startStep_eq, starts]
  rcases rests with abort | ⟨skip, next, follows, wait⟩
  · simp only [abort, failStep_abort p r i st t abort]
  · obtain ⟨rest, steps⟩ := stepsAfter_next r i next follows
    simp only [failStep, skip]
    rw [steps, runSteps_wait _ _ _ _ _ _ _ wait, runSteps_wait _ _ _ _ _ _ _ wait]

theorem awaitStep_eq (st : PlanStep) (s : State) : awaitStep st s =
    ({ s with executor := { s.executor with
      stepTimer := if st.timeout = 0 then none else some (s.now + st.timeout * 1000) } }, .waits) := rfl

/-! ### RESTART (R110, R114, R128) -/

theorem startAction_restart (p : PlanNo) (i : Nat) (st : PlanStep) (k : Slot) (s : State) (kind : st.kind = .restart)
    (names : st.operand = k.val) : startAction p i st s = startRestart p k st s := by
  simp only [startAction, kind, names, slotOf_val]

/-- A RESTART step waits unless its slot is VACANT, with the outcome of its request. -/
theorem startRestart_waits (p : PlanNo) (k : Slot) (st : PlanStep) (s : State) (outcome : RestartOutcome)
    (ordered : Bool) (found : planOutcome (requestRow s k) = outcome) (live : outcome ≠ .refused)
    (orders : (outcome == .issued || outcome == .attached) = ordered) :
    startRestart p k st s = ({ takeRequest (.plan p) k s with
      executor := { (takeRequest (.plan p) k s).executor with
        watch := { outcome := some outcome, ordered, resumed := false }
        stepTimer := if st.timeout = 0 then none else some ((takeRequest (.plan p) k s).now + st.timeout * 1000) } },
      .waits) := by
  unfold startRestart
  dsimp only
  rw [found, orders, if_neg live]
  rfl

theorem startRestart_refused (p : PlanNo) (k : Slot) (st : PlanStep) (s : State) (row : requestRow s k = .vacant) :
    startRestart p k st s = ({ s with executor := { s.executor with
      watch := { outcome := some .refused, ordered := false, resumed := false } } }, .failed) := by
  have nothing : takeRequest (.plan p) k s = s := by simp only [takeRequest, row]
  unfold startRestart
  dsimp only
  rw [nothing, row]
  rfl

/-- The start of a RESTART step (R128). -/
theorem restart_begins (p : PlanNo) (i : Nat) (st : PlanStep) (k : Slot) (s : State) (onFail : OnFail)
    (onEnd : State → State) (rest : List (PlanStep × Nat)) (kind : st.kind = .restart) (names : st.operand = k.val) :
    restartBegins p i st k s (runSteps p onFail onEnd ((st, i) :: rest) s) := by
  have starts := startAction_restart p i st k (begun i s) kind names
  have waits := fun outcome ordered found live orders =>
    runSteps_waits (onFail := onFail) (onEnd := onEnd) (rest := rest)
      (starts.trans (startRestart_waits p k st (begun i s) outcome ordered found live orders))
  refine ⟨fun busy => ?_, fun idle queued => ?_, fun idle absent present => ⟨fun full => ?_,
    fun room free unsettled short => ?_⟩⟩
  · have row : requestRow (begun i s) k = .inProgress := requestRow_inProgress k (begun i s) busy
    have nothing : takeRequest (.plan p) k (begun i s) = begun i s := by simp only [takeRequest, row]
    rw [waits .attached true (by rw [row]; rfl) nofun rfl, nothing]
    rfl
  · have row : requestRow (begun i s) k = .waiting := requestRow_waiting k (begun i s) idle queued
    have joins := takeRequest_waiting (.plan p) k (begun i s) idle queued
    rw [waits .queued false (by rw [row]; rfl) nofun rfl, joins]
    rfl
  · have row : requestRow (begun i s) k = .append := requestRow_append k (begun i s) idle absent present full
    have appends := takeRequest_append (.plan p) k (begun i s) row
    rw [waits .queued false (by rw [row]; rfl) nofun rfl, appends]
    refine ⟨?_, latch_contexts .., latch_ports .., latch_window .., latch_latched .windowWait _ _⟩
    dsimp only
    rw [latch_executor, (latch_moves ..).now]
    rfl
  · have row : requestRow (begun i s) k = .issue := requestRow_issue k (begun i s) idle absent present room free
    have issues := takeRequest_issue (.plan p) k (begun i s) row
    have can : canIssue (begun i s).contexts[k] = true := (canIssue_iff _).mpr ⟨idle, present, unsettled⟩
    have order := issueOrder_issued k (begun i s) can
    have executor := issueOrder_executor_unqueued k (begun i s) can nofun
    have port := order.port (revocation_fits k .order (begun i s) short)
    rw [waits .issued true (by rw [row]; rfl) nofun rfl, issues]
    generalize issueOrder k (begun i s) = u at order executor port
    refine ⟨?_, congrArg Context.state order.context, congrArg Context.inProgress order.context, ?_, ?_,
      congrArg Port.sendList port⟩
    · dsimp only
      rw [executor, order.now]
      rfl
    · have count : countOf u (boreOf s k) = countOf s (boreOf s k) + 1 := order.count
      rw [← count]
      cases boreOf s k <;> rfl
    · exact order.waitList.trans (filter_not_waiting k s absent)

/-! ### PAUSE and RESUME (R129, R130) -/

theorem startAction_pause (p : PlanNo) (i : Nat) (st : PlanStep) (k : Slot) (s : State) (kind : st.kind = .pause)
    (names : st.operand = k.val) : startAction p i st s = startPause k s := by
  simp only [startAction, kind, names, slotOf_val]

theorem startAction_resume (p : PlanNo) (i : Nat) (st : PlanStep) (k : Slot) (s : State) (kind : st.kind = .resume)
    (names : st.operand = k.val) : startAction p i st s = startResume k st s := by
  simp only [startAction, kind, names, slotOf_val]

/-- The start of a PAUSE step for a slot that may be paused (R129). -/
theorem pause_begins (p : PlanNo) (r : PlanRecord) (i : Nat) (st next : PlanStep) (k : Slot) (s : State)
    (onEnd : State → State) (kind : st.kind = .pause) (names : st.operand = k.val)
    (able : pausable s.contexts[k] = true) (room : s.ports[k].sendList.length < 7)
    (follows : r.steps[i + 1]? = some next) (wait : next.kind = .wait) :
    pauseBegins i next k s (runSteps p r.onFail onEnd ((st, i) :: stepsAfter r i) s) := by
  have starts : startAction p i st (begun i s) = (pauseSlot k (begun i s), .completed) :=
    (startAction_pause p i st k (begun i s) kind names).trans (if_pos able)
  have slot := pauseSlot_slot k (begun i s)
  have context := pauseSlot_contexts k (begun i s)
  have port := pauseSlot_port k (begun i s) (revocation_fits k .pause (begun i s) room)
  rw [runSteps_completed starts follows wait]
  generalize pauseSlot k (begun i s) = u at slot context port
  refine ⟨?_, ?_, congrArg Port.sendList port, slot.window, slot.contexts⟩
  · show u.contexts[k].state = _
    rw [context]
    exact congrArg Context.state (Vector.getElem_set_self k.isLt)
  · dsimp only
    rw [slot.now, slot.executor]
    rfl

/-- The start of a RESUME step for a slot in PAUSED (R130). -/
theorem resume_begins (p : PlanNo) (i : Nat) (st : PlanStep) (k : Slot) (s : State) (onFail : OnFail)
    (onEnd : State → State) (rest : List (PlanStep × Nat)) (kind : st.kind = .resume) (names : st.operand = k.val)
    (paused : s.contexts[k].state = .paused) (room : s.ports[k].sendList.length < 8) :
    resumeBegins i st k s (runSteps p onFail onEnd ((st, i) :: rest) s) := by
  have starts : startAction p i st (begun i s) = ({ resumeSlot k (begun i s) with
      executor := { (resumeSlot k (begun i s)).executor with
        watch := { (resumeSlot k (begun i s)).executor.watch with resumed := true }
        stepTimer := if st.timeout = 0 then none
          else some ((resumeSlot k (begun i s)).now + st.timeout * 1000) } }, .waits) :=
    (startAction_resume p i st k (begun i s) kind names).trans (if_pos paused)
  have slot := resumeSlot_slot k (begun i s)
  have context := enterTrack_get k k .resumed (s.cfg.computers[k].pausePolicy == .clear)
    (sendOrder k .resume (begun i s))
  rw [if_pos rfl] at context
  have port := resumeSlot_port k (begun i s) paused room
  have same : enterTrack k .resumed (s.cfg.computers[k].pausePolicy == .clear) (sendOrder k .resume (begun i s)) =
      resumeSlot k (begun i s) := (resumeSlot_eq k (begun i s)).symm
  rw [runSteps_waits starts]
  rw [same] at context
  generalize resumeSlot k (begun i s) = u at slot context port
  refine ⟨congrArg Context.state context, congrArg Context.trackCause context, ?_, congrArg Port.sendList port,
    slot.window, slot.contexts⟩
  dsimp only
  rw [slot.now, slot.executor]
  rfl

/-! ### The steps that name no slot (R131 to R133) -/

/-- A step that waits for an edge, or for credit that is not there. -/
theorem awaiting_begins (p : PlanNo) (i : Nat) (st : PlanStep) (s : State) (onFail : OnFail) (onEnd : State → State)
    (rest : List (PlanStep × Nat))
    (waits : st.kind = .waitTrigger ∨ (st.kind = .awaitCredit ∧ s.admission.credit < st.operand)) :
    runSteps p onFail onEnd ((st, i) :: rest) s =
      { s with executor := awaiting i st none false false s.now s.executor } := by
  have starts : startAction p i st (begun i s) = awaitStep st (begun i s) := by
    rcases waits with kind | ⟨kind, short⟩
    · simp only [startAction, kind]
    · simp only [startAction, kind]
      exact if_neg (Nat.not_le.mpr short)
  rw [runSteps_waits (starts.trans (awaitStep_eq st (begun i s)))]
  rfl

theorem credit_begins (p : PlanNo) (r : PlanRecord) (i : Nat) (st next : PlanStep) (s : State) (onEnd : State → State)
    (kind : st.kind = .awaitCredit) (reached : st.operand ≤ s.admission.credit)
    (follows : r.steps[i + 1]? = some next) (wait : next.kind = .wait) :
    runSteps p r.onFail onEnd ((st, i) :: stepsAfter r i) s =
      { s with executor := waitingAt (i + 1) next s.now s.executor } := by
  have starts : startAction p i st (begun i s) = (begun i s, .completed) := by
    simp only [startAction, kind]
    exact if_pos reached
  rw [runSteps_completed starts follows wait]
  rfl

theorem mark_begins (p : PlanNo) (r : PlanRecord) (i : Nat) (st next : PlanStep) (s : State) (onEnd : State → State)
    (kind : st.kind = .mark) (follows : r.steps[i + 1]? = some next) (wait : next.kind = .wait) :
    runSteps p r.onFail onEnd ((st, i) :: stepsAfter r i) s = { s with
      executor := { waitingAt (i + 1) next s.now s.executor with lastMark := some st.operand }
      supervisory :=
        if s.supervisory.outgoing.length < 31 then
          { s.supervisory with outgoing := s.supervisory.outgoing ++
            [.planMark p (min 65535 (s.executor.passes + 1)) i st.operand] }
        else { s.supervisory with noticesLost := min 65535 (s.supervisory.noticesLost + 1) } } := by
  have starts : startAction p i st (begun i s) = startMark p i st.operand (begun i s) := by
    simp only [startAction, kind]
  rw [runSteps_completed starts follows wait, placeMark]
  by_cases room : s.supervisory.outgoing.length < 31
  · rw [if_pos room]
    exact congrArg (fun u : State => { u with executor := waitingAt (i + 1) next u.now u.executor }) (if_pos room)
  · rw [if_neg room]
    exact congrArg (fun u : State => { u with executor := waitingAt (i + 1) next u.now u.executor }) (if_neg room)

/-! ### A step that fails at its start (R141) -/

/-- The start of a step that its slot's state refuses. -/
theorem refused_begins (p : PlanNo) (r : PlanRecord) (i : Nat) (st : PlanStep) (k : Slot) (s : State)
    (onEnd : State → State) (names : st.operand = k.val)
    (refused : (st.kind = .restart ∧ s.contexts[k].inProgress = false ∧ isWaiting s k = false ∧
        s.contexts[k].state = .vacant) ∨ (st.kind = .pause ∧ pausable s.contexts[k] = false) ∨
      (st.kind = .resume ∧ s.contexts[k].state ≠ .paused)) (rests : FailureRests r i) :
    stepFails r i (some (.slot k)) s (runSteps p r.onFail onEnd ((st, i) :: stepsAfter r i) s) ∧
    (runSteps p r.onFail onEnd ((st, i) :: stepsAfter r i) s).contexts = s.contexts ∧
    (runSteps p r.onFail onEnd ((st, i) :: stepsAfter r i) s).ports = s.ports := by
  have item : stepItem st = some (.slot k) := by
    rcases refused with ⟨kind, -⟩ | ⟨kind, -⟩ | ⟨kind, -⟩ <;>
      simp only [stepItem, kind, names, slotOf_val, Option.map_some]
  have starts : ∃ w, startAction p i st (begun i s) =
      ({ begun i s with executor := { (begun i s).executor with watch := w } }, .failed) := by
    rcases refused with ⟨kind, idle, absent, vacant⟩ | ⟨kind, unable⟩ | ⟨kind, other⟩
    · exact ⟨_, (startAction_restart p i st k _ kind names).trans (startRestart_refused p k st (begun i s)
        (requestRow_vacant k (begun i s) idle absent vacant))⟩
    · exact ⟨clearWatch, (startAction_pause p i st k _ kind names).trans (if_neg (Bool.eq_false_iff.mp unable))⟩
    · exact ⟨clearWatch, (startAction_resume p i st k _ kind names).trans (if_neg other)⟩
  obtain ⟨w, starts⟩ := starts
  obtain ⟨fails, contexts, ports, -⟩ := failStep_fails p r i st
    { begun i s with executor := { (begun i s).executor with watch := w } } rests
  rw [runSteps_failed starts rests]
  exact ⟨item ▸ fails, contexts, ports⟩

/-- What the start of a step leads to. -/
theorem step_begins (p : PlanNo) (i : Nat) (st : PlanStep) (s : State) (onEnd : State → State) :
    stepBegins p i st s
      (runSteps p s.cfg.plans[p].onFail onEnd ((st, i) :: stepsAfter s.cfg.plans[p] i) s) := by
  refine ⟨fun wait => runSteps_wait _ _ _ _ _ _ _ wait, fun waits => awaiting_begins _ _ _ _ _ _ _ waits,
    fun next follows wait => ⟨fun kind reached => credit_begins _ _ _ _ _ _ _ kind reached follows wait,
      fun kind => mark_begins _ _ _ _ _ _ _ kind follows wait,
      fun k kind names able room => pause_begins _ _ _ _ _ k _ _ kind names able room follows wait⟩,
    fun k names => ⟨fun kind => restart_begins _ _ _ k _ _ _ _ kind names,
      fun kind paused room => resume_begins _ _ _ k _ _ _ _ kind names paused room,
      fun refused rests => refused_begins _ _ _ _ k _ _ names refused rests⟩⟩

end Sys2Proof.Proofs
end


section
/-! SUPPORT. PLAN-START (R137 to R139), and the timers of the executor (R127, R131, R143 to R145, R148). -/

namespace Sys2Proof.Proofs

open Sys2Proof.Machine Sys2Proof.Safety Sys2Proof.Laws

/-! ### PLAN-START -/

theorem planStartAnswer_run (p : PlanNo) (s : State) (run : s.partState = .run) :
    planStartAnswer (b1 p.val) s = answerPlanStart p s := by
  simp only [planStartAnswer, b1, readPlanNo_byteOf]
  exact asOrder_run s _ run

theorem firstUnstartable_none (s : State) (r : PlanRecord) (all : ∀ st ∈ r.steps, stepStartable s st = true) :
    firstUnstartable s r = none :=
  List.findIdx?_eq_none_iff.mpr fun st mem => by rw [all st mem]; rfl

/-- The first step that may not start is the one below which all may. -/
theorem firstUnstartable_some (s : State) (r : PlanRecord) (i : Nat) (st : PlanStep) (found : r.steps[i]? = some st)
    (bad : stepStartable s st = false) (below : ∀ x ∈ r.steps.take i, stepStartable s x = true) :
    firstUnstartable s r = some i := by
  obtain ⟨low, rfl⟩ := List.getElem?_eq_some_iff.mp found
  refine List.findIdx?_eq_some_iff_getElem.mpr ⟨low, by rw [bad]; rfl, fun j less => ?_⟩
  rw [below _ (List.mem_take_iff_getElem.mpr ⟨j, Nat.lt_min.mpr ⟨less, less.trans low⟩, rfl⟩)]
  nofun

theorem stepStartable_false (s : State) (st : PlanStep)
    (bad : (st.kind = .awaitCredit ∧ s.cfg.budget.bothCap < st.operand) ∨
      ((st.kind = .restart ∨ st.kind = .pause ∨ st.kind = .resume) ∧
        ∃ k : Slot, st.operand = k.val ∧ s.contexts[k].state = .vacant)) : stepStartable s st = false := by
  rcases bad with ⟨kind, above⟩ | ⟨kinds, k, names, vacant⟩
  · simp only [stepStartable, kind]
    exact decide_eq_false (Nat.not_le.mpr above)
  · have slot : slotOf st.operand = some k := by rw [names, slotOf_val]
    rcases kinds with kind | kind | kind <;> simp only [stepStartable, kind, slot, vacant] <;> rfl

/-- The answer to PLAN-START of a plan that may start. -/
theorem answerPlanStart_accepts (p : PlanNo) (s : State) (idle : NoPlan s) (steps : s.cfg.plans[p].steps ≠ [])
    (all : ∀ st ∈ s.cfg.plans[p].steps, stepStartable s st = true) :
    answerPlanStart p s = accept (startPlan p) := by
  unfold answerPlanStart
  rw [if_neg (not_not_intro idle), if_neg (by simpa using steps), firstUnstartable_none s _ all]

theorem answerPlanStart_refuses (p : PlanNo) (i : Nat) (st : PlanStep) (s : State) (idle : NoPlan s)
    (found : s.cfg.plans[p].steps[i]? = some st) (bad : stepStartable s st = false)
    (below : ∀ x ∈ s.cfg.plans[p].steps.take i, stepStartable s x = true) :
    answerPlanStart p s = refuseAt .invalidPlan (.step i) := by
  have present : ¬s.cfg.plans[p].steps.isEmpty = true := fun empty => by
    rw [List.isEmpty_iff.mp empty] at found
    nomatch found
  unfold answerPlanStart
  rw [if_neg (not_not_intro idle), if_neg present, firstUnstartable_some s _ i st found bad below]

/-- Step 0 of a pass. -/
theorem startPass_begins (p : PlanNo) (st : PlanStep) (rest : List PlanStep) (s : State)
    (steps : s.cfg.plans[p].steps = st :: rest) :
    stepBegins p 0 st { s with executor := { s.executor with state := .running, stretched := false } }
      (startPass p s.cfg.plans[p] s) := by
  have after : s.cfg.plans[p].steps.zipIdx = (st, 0) :: stepsAfter s.cfg.plans[p] 0 := by
    rw [stepsAfter, steps, List.zipIdx_cons]
    rfl
  rw [startPass, after]
  exact step_begins p 0 st { s with executor := { s.executor with state := .running, stretched := false } } _

/-- A plan that is accepted, before it is armed or its first pass begins (R138). -/
def planBegun (p : PlanNo) (s : State) : State :=
  { s with executor := { s.executor with
      plan := some p, passes := 0, skipped := 0, step := none
      lastMark := none, lastResult := .none, pendingStop := .none, stretched := false } }

theorem startPlan_rows (p : PlanNo) (s : State) :
    (s.cfg.plans[p].startMode = .onTrigger →
      startPlan p s = { planBegun p s with executor := { (planBegun p s).executor with state := .armed } }) ∧
    (s.cfg.plans[p].startMode = .immediate →
      startPlan p s = startPass p s.cfg.plans[p] { planBegun p s with executor := { (planBegun p s).executor with
        passTimer := if s.cfg.plans[p].passPeriod = 0 then none
          else some (s.now + s.cfg.plans[p].passPeriod * 1000) } }) := by
  constructor <;> intro mode <;> simp only [startPlan, mode] <;> rfl

/-- Settles O23: the checks of R137 in their order, and step 0 as any step begins. -/
theorem planStartRuns : Obligations.PlanStartRuns := by
  refine ⟨fun tag p s run taken => ?_, fun tag p st rest s began run idle steps mode all taken form => ?_⟩
  · have answered := planStartAnswer_run p (leaveQueue s) run
    refine ⟨fun idle steps mode all => ?_, fun busy => ?_, fun idle empty => ?_, fun i st idle found bad below => ?_⟩
    · refine (takeCommand_accepted _ _ _ _ _ _ taken
        (answered.trans (answerPlanStart_accepts p (leaveQueue s) idle steps all))).trans (congrArg _ ?_)
      exact (startPlan_rows p (repliedOk 0x37 tag s)).1 mode
    · exact takeCommand_refused _ _ _ _ _ _ taken (answered.trans (if_pos busy))
    · refine takeCommand_refused _ _ _ _ _ _ taken (answered.trans ((if_neg (not_not_intro idle)).trans (if_pos ?_)))
      exact List.isEmpty_iff.mpr empty
    · have bad' : stepStartable (leaveQueue s) st = false := stepStartable_false (leaveQueue s) st bad
      rw [show exec (.planStart tag (b1 p.val)) s = _ from takeCommand_taken _ _ _ _ _ taken, answered,
        answerPlanStart_refuses p i st (leaveQueue s) idle found bad' below]
      rfl
  · have answer := (planStartAnswer_run p (leaveQueue s) run).trans
      (answerPlanStart_accepts p (leaveQueue s) idle (by rw [show (leaveQueue s).cfg = s.cfg from rfl, steps]; nofun) all)
    have begins := startPass_begins p st rest { planBegun p (repliedOk 0x37 tag s) with
      executor := { (planBegun p (repliedOk 0x37 tag s)).executor with
        passTimer := if s.cfg.plans[p].passPeriod = 0 then none
          else some (s.now + s.cfg.plans[p].passPeriod * 1000) } } steps
    rw [form]
    exact ⟨_, (takeCommand_accepted _ _ _ _ _ _ taken answer).trans
      (congrArg _ ((startPlan_rows p (repliedOk 0x37 tag s)).2 mode)), begins⟩

/-! ### The end of a pass (R143) -/

/-- Where no stop is pending and the plan has passes left it is not finished. -/
theorem planFinished_false (r : PlanRecord) (s : State) (stop : s.executor.pendingStop = .none)
    (more : r.passCount = 0 ∨ r.passCount ≠ s.executor.passes) : planFinished r s = false := by
  unfold planFinished
  rw [stop]
  rcases more with zero | other
  · rw [zero]
    rfl
  · rw [decide_eq_false fun same : s.executor.passes = r.passCount => other same.symm, Bool.and_false]
    rfl

/-- The state in which the rows of R143 are judged. -/
theorem countPass_eq (s : State) : countPass s =
    { s with executor := { s.executor with passes := min 65535 (s.executor.passes + 1), step := none } } := rfl

theorem passEnd_finished (p : PlanNo) (r : PlanRecord) (s : State) (done : planFinished r (countPass s) = true) :
    passEnd p r s = endPlan p .done (countPass s) := if_pos done

theorem passEnd_waits (p : PlanNo) (r : PlanRecord) (s : State) (more : planFinished r (countPass s) = false)
    (rests : r.startMode = .onTrigger ∨ (s.executor.stretched = false ∧ 0 < r.passPeriod)) :
    passEnd p r s = enterPassWait (countPass s) := by
  unfold passEnd
  dsimp only
  rw [if_neg (Bool.eq_false_iff.mp more)]
  split
  next => rfl
  next mode =>
    rcases rests with trigger | ⟨steady, period⟩
    · exact nomatch mode.symm.trans trigger
    · rw [if_neg (by rw [show (countPass s).executor.stretched = s.executor.stretched from rfl, steady]; nofun),
        if_neg (Nat.ne_of_gt period)]

/-- A pass that follows at once starts the pass timer again where it was stretched. -/
theorem passEnd_again (p : PlanNo) (r : PlanRecord) (first : PlanStep) (rest : List PlanStep) (s : State)
    (more : planFinished r (countPass s) = false) (mode : r.startMode = .immediate)
    (again : s.executor.stretched = true ∨ r.passPeriod = 0) (steps : r.steps = first :: rest)
    (wait : first.kind = .wait) : passEnd p r s = { s with
      executor := { waitingAt 0 first s.now s.executor with
        passes := min 65535 (s.executor.passes + 1), stretched := false
        passTimer := if s.executor.stretched = false then s.executor.passTimer
          else if r.passPeriod = 0 then none else some (s.now + r.passPeriod * 1000) } } := by
  unfold passEnd
  dsimp only
  rw [if_neg (Bool.eq_false_iff.mp more)]
  simp only [mode]
  by_cases stretched : s.executor.stretched = true
  · have counted : (countPass s).executor.stretched = true := stretched
    rw [if_pos counted, startPass_wait p r first rest _ steps wait, if_neg (by rw [stretched]; nofun)]
    rfl
  · have counted : ¬(countPass s).executor.stretched = true := stretched
    rw [if_neg counted, if_pos (again.resolve_left stretched), startPass_wait p r first rest _ steps wait,
      if_pos (Bool.eq_false_iff.mpr stretched)]
    rfl

/-! ### The step timer (R127, R131) -/

/-- The state that the expiry of the step timer leaves to the executor. -/
def stepDue (deadline : Nat) (s : State) : State :=
  { s with now := clockAt deadline s, executor := { s.executor with stepTimer := none } }

theorem exec_planStepTimer (deadline i : Nat) (p : PlanNo) (st : PlanStep) (s : State) (live : s.held = false)
    (timer : s.executor.stepTimer = some deadline) (runs : RunsStep p i st s) :
    (st.kind = .wait → exec .planStepTimer s = .next (completeStep p s.cfg.plans[p] i (stepDue deadline s))) ∧
    (st.kind ≠ .wait → exec .planStepTimer s = .next (failStep p s.cfg.plans[p] i st (stepDue deadline s))) := by
  have row : exec .planStepTimer s = .next (stepExpired { s with now := clockAt deadline s }) := by
    show execPlanStepTimer s = _
    rw [execPlanStepTimer, whenLive_live _ _ live, timer, expire_some]
  have due : RunsStep p i st (stepDue deadline s) := runs
  have step : runningStep (updExecutor (fun x => { x with stepTimer := none }) { s with now := clockAt deadline s }) =
      some (p, s.cfg.plans[p], i, st) := runningStep_of due
  refine ⟨fun wait => ?_, fun other => ?_⟩
  · rw [row]
    simp only [stepExpired, step, if_pos wait]
    rfl
  · rw [row]
    simp only [stepExpired, step, if_neg other]
    rfl

theorem stepsAfter_cons (r : PlanRecord) (i : Nat) (next : PlanStep) (follows : r.steps[i + 1]? = some next) :
    stepsAfter r i = (next, i + 1) :: stepsAfter r (i + 1) := by
  obtain ⟨low, rfl⟩ := List.getElem?_eq_some_iff.mp follows
  rw [stepsAfter, List.drop_eq_getElem_cons (by simpa using low)]
  simp [stepsAfter]

/-- A completed step goes on to the next as any step begins (R140). -/
theorem completeStep_begins (p : PlanNo) (i : Nat) (next : PlanStep) (s : State) (done : s.executor.stepTimer = none)
    (follows : s.cfg.plans[p].steps[i + 1]? = some next) :
    stepBegins p (i + 1) next s (completeStep p s.cfg.plans[p] i s) := by
  have same : updExecutor (fun x => { x with stepTimer := none }) s = s := by
    rw [updExecutor, ← done]
  rw [completeStep, same, stepsAfter_cons _ i next follows]
  exact step_begins p (i + 1) next s _

/-- Behind the last step the pass ends, whether that step completed or failed under SKIP (R140, R141). -/
theorem last_ends (p : PlanNo) (r : PlanRecord) (i : Nat) (st : PlanStep) (s : State)
    (last : i + 1 = r.steps.length) :
    completeStep p r i s = passEnd p r { s with executor := { s.executor with stepTimer := none } } ∧
    (r.onFail = .skip → failStep p r i st s = passEnd p r (noteFailure st s)) := by
  have none : stepsAfter r i = [] := stepsAfter_last r i (Nat.le_of_eq last.symm)
  refine ⟨?_, fun skip => ?_⟩
  · rw [completeStep, none]
    rfl
  · simp only [failStep, skip, none]
    rfl

/-- What a pass that ends without ending the plan leads to: PASS_WAIT, or the next pass at once. -/
theorem passEnd_goesOn (p : PlanNo) (r : PlanRecord) (now n : Nat) (s b : State)
    (executor : b.executor = { s.executor with stepTimer := none, skipped := n }) (clock : b.now = now)
    (contexts : b.contexts = s.contexts) (stop : s.executor.pendingStop = .none)
    (more : r.passCount = 0 ∨ r.passCount ≠ min 65535 (s.executor.passes + 1)) :
    ((r.startMode = .onTrigger ∨ (s.executor.stretched = false ∧ 0 < r.passPeriod)) →
      (passEnd p r b).executor.state = .passWait ∧ (passEnd p r b).executor.step = none ∧
      (passEnd p r b).executor.stepTimer = none ∧
      (passEnd p r b).executor.passes = min 65535 (s.executor.passes + 1) ∧
      (passEnd p r b).executor.passTimer = s.executor.passTimer ∧ (passEnd p r b).contexts = s.contexts) ∧
    (∀ first rest, r.startMode = .immediate → (s.executor.stretched = true ∨ r.passPeriod = 0) →
      r.steps = first :: rest → first.kind = .wait →
      (passEnd p r b).contexts = s.contexts ∧ (passEnd p r b).executor = { waitingAt 0 first now s.executor with
        passes := min 65535 (s.executor.passes + 1), stretched := false, skipped := (passEnd p r b).executor.skipped
        passTimer := if s.executor.stretched = false then s.executor.passTimer
          else if r.passPeriod = 0 then none else some (now + r.passPeriod * 1000) }) := by
  have goes : planFinished r (countPass b) = false := by
    refine planFinished_false r (countPass b) ?_ ?_
    · show b.executor.pendingStop = _
      rw [executor]
      exact stop
    · show r.passCount = 0 ∨ r.passCount ≠ min 65535 (b.executor.passes + 1)
      rw [executor]
      exact more
  have stretched : b.executor.stretched = s.executor.stretched := by rw [executor]
  refine ⟨fun rests => ?_, fun first rest mode again steps wait => ?_⟩
  · rw [passEnd_waits p r b goes (by rw [stretched]; exact rests), countPass_eq, executor]
    exact ⟨rfl, rfl, rfl, rfl, rfl, contexts⟩
  · rw [passEnd_again p r first rest b goes mode (by rw [stretched]; exact again) steps wait, executor, clock]
    exact ⟨contexts, rfl⟩

/-! ### The pass timer (R144, R145) -/

/-- The state that the expiry of the pass timer leaves to the executor. -/
def passDue (deadline : Nat) (s : State) : State :=
  { s with now := clockAt deadline s, executor := { s.executor with passTimer := none } }

theorem exec_passTimer (deadline : Nat) (p : PlanNo) (s : State) (live : s.held = false)
    (timer : s.executor.passTimer = some deadline) (plan : s.executor.plan = some p) :
    (s.executor.state = .passWait → exec .passTimer s = .next (startPass p s.cfg.plans[p]
      (updExecutor (fun x => { x with
        passTimer := timeoutDeadline (passDue deadline s) s.cfg.plans[p].passPeriod }) (passDue deadline s)))) ∧
    (s.executor.state = .running →
      (s.cfg.plans[p].overrun = .abort → exec .passTimer s =
        .next (endPlan p .abortedOverrun (latch .planOverrun none (passDue deadline s)))) ∧
      (s.cfg.plans[p].overrun = .stretch → exec .passTimer s =
        .next (updExecutor (fun x => { x with stretched := true })
          (latch .planOverrun none (passDue deadline s))))) := by
  have row : exec .passTimer s = .next (passExpired { s with now := clockAt deadline s }) := by
    show execPassTimer s = _
    rw [execPassTimer, whenLive_live _ _ live, timer, expire_some]
  have due : updExecutor (fun x => { x with passTimer := none }) { s with now := clockAt deadline s } =
      passDue deadline s := rfl
  have planDue : (passDue deadline s).executor.plan = some p := plan
  refine ⟨fun state => ?_, fun state => ⟨fun overrun => ?_, fun overrun => ?_⟩⟩
  · have stateDue : (passDue deadline s).executor.state = .passWait := state
    rw [row]
    simp only [passExpired, due, planDue, stateDue]
    rfl
  · have stateDue : (passDue deadline s).executor.state = .running := state
    have overrunDue : (passDue deadline s).cfg.plans[p].overrun = .abort := overrun
    rw [row]
    simp only [passExpired, due, planDue, stateDue, overrunDue]
  · have stateDue : (passDue deadline s).executor.state = .running := state
    have overrunDue : (passDue deadline s).cfg.plans[p].overrun = .stretch := overrun
    rw [row]
    simp only [passExpired, due, planDue, stateDue, overrunDue]

/-- A pass timer that runs out while a pass runs is an overrun (R145). -/
theorem passTimer_overruns (deadline : Nat) (p : PlanNo) (s : State) (live : s.held = false)
    (timer : s.executor.passTimer = some deadline) (running : s.executor.state = .running)
    (plan : s.executor.plan = some p) : ∃ t, exec .passTimer s = .next t ∧ t.executor.passTimer = none ∧
      t.events[(8 : Fin 16)] = { latched := true, item := none } ∧
      (s.cfg.plans[p].overrun = .abort → t.executor.state = .idle ∧ t.executor.lastResult = .abortedOverrun ∧
        t.events[(7 : Fin 16)] = { latched := true, item := none }) ∧
      (s.cfg.plans[p].overrun = .stretch →
        t.executor = { s.executor with passTimer := none, stretched := true }) := by
  obtain ⟨aborts, stretches⟩ := (exec_passTimer deadline p s live timer plan).2 running
  have latched := latch_latched .planOverrun none (passDue deadline s)
  have executor := latch_executor .planOverrun none (passDue deadline s)
  generalize latch .planOverrun none (passDue deadline s) = b at aborts stretches latched executor
  cases overrun : s.cfg.plans[p].overrun with
  | abort =>
    have ended := endPlan_executor p .abortedOverrun b
    refine ⟨_, aborts overrun, ?_, ?_, fun _ => ⟨?_, ?_, ?_⟩, nofun⟩
    · rw [ended]
      rfl
    · exact (endPlan_events_other p .abortedOverrun .planOverrun b (by decide)).trans latched
    · rw [ended]
      rfl
    · rw [ended]
      rfl
    · exact latch_latched .planAborted none _
  | stretch =>
    refine ⟨_, stretches overrun, ?_, latched, nofun, fun _ => ?_⟩
    · show b.executor.passTimer = none
      rw [executor]
      rfl
    · show { b.executor with stretched := true } = _
      rw [executor]
      rfl

/-- Settles O49: the step timer completes or fails its step, the rows of R143 end a pass, and the pass timer starts
or overruns one. -/
theorem planTimersDecide : Obligations.PlanTimersDecide := by
  refine ⟨fun deadline i p st s live timer state plan step found => ?_,
    fun deadline p first rest s live timer waits plan _ steps wait => ?_,
    fun deadline p s live timer running plan => passTimer_overruns deadline p s live timer running plan⟩
  · obtain ⟨completes, failsRow⟩ := exec_planStepTimer deadline i p st s live timer ⟨state, plan, step, found⟩
    refine ⟨fun wait last few count => ?_, fun other abort => ?_, fun next follows => ⟨fun wait => ?_,
      fun other skip nextWait => ?_⟩, fun last decided stop more => ?_⟩
    · have ends : completeStep p s.cfg.plans[p] i (stepDue deadline s) =
          passEnd p s.cfg.plans[p] (stepDue deadline s) :=
        (last_ends p s.cfg.plans[p] i st (stepDue deadline s) last).1
      have passes : min 65535 (s.executor.passes + 1) = s.executor.passes + 1 := Nat.min_eq_right (by omega)
      have done : planFinished s.cfg.plans[p] (countPass (stepDue deadline s)) = true := by
        rw [planFinished, show (countPass (stepDue deadline s)).executor.passes = min 65535 (s.executor.passes + 1) from
          rfl, passes, count]
        simp
      rw [passEnd_finished p s.cfg.plans[p] _ done] at ends
      have executor := endPlan_executor p .done (countPass (stepDue deadline s))
      refine ⟨_, (completes wait).trans (congrArg _ ends), ?_, ?_, ?_, ?_, ?_, ?_, ?_, ?_⟩
      · exact congrArg Executor.state executor
      · exact congrArg Executor.lastResult executor
      · exact (congrArg Executor.passes executor).trans passes
      · exact congrArg Executor.step executor
      · exact congrArg Executor.stepTimer executor
      · exact congrArg Executor.passTimer executor
      · exact latch_latched .planDone none _
      · exact endPlan_contexts ..
    · obtain ⟨⟨failed, aborted, -⟩, contexts, -, -⟩ :=
        failStep_fails p s.cfg.plans[p] i st (stepDue deadline s) (.inl abort)
      obtain ⟨event, executor⟩ := aborted abort
      rw [failsRow other]
      refine ⟨_, rfl, ?_, ?_, ?_, ?_, congrArg Latch.latched failed, event, contexts⟩ <;> rw [executor] <;> rfl
    · exact ⟨_, completes wait, completeStep_begins p i next (stepDue deadline s) rfl follows⟩
    · obtain ⟨⟨failed, -, goes⟩, contexts, -, -⟩ := failStep_fails p s.cfg.plans[p] i st (stepDue deadline s)
        (.inr ⟨skip, next, follows, nextWait⟩)
      have window : (failStep p s.cfg.plans[p] i st (stepDue deadline s)).window = s.window := by
        rw [failStep_wait p _ i st next _ skip follows nextWait]
        exact latch_window ..
      exact ⟨_, failsRow other, goes next skip follows, congrArg Latch.latched failed, contexts, window⟩
    · obtain ⟨completed, failed⟩ := last_ends p s.cfg.plans[p] i st (stepDue deadline s) last
      rcases decided with wait | ⟨other, skip⟩
      · exact ⟨_, (completes wait).trans (congrArg _ completed),
          passEnd_goesOn p s.cfg.plans[p] (clockAt deadline s) s.executor.skipped s _ rfl rfl rfl stop more⟩
      · have executor := noteFailure_executor st (stepDue deadline s)
        have now := noteFailure_now st (stepDue deadline s)
        have contexts := noteFailure_contexts st (stepDue deadline s)
        exact ⟨_, (failsRow other).trans (congrArg _ (failed skip)),
          passEnd_goesOn p s.cfg.plans[p] (clockAt deadline s) _ s _ executor now contexts stop more⟩
  · rw [(exec_passTimer deadline p s live timer plan).1 waits, startPass_wait p _ first rest _ steps wait]
    rfl

end Sys2Proof.Proofs
end


section
/-! SUPPORT. SET-PLAN (R125, R126): a lawful plan's payload reads back as it is stored, and a refusal names the first
setting or step out of range. -/

namespace Sys2Proof.Proofs
open Sys2Proof.Machine Sys2Proof.Safety Sys2Proof.Laws

/-! ### One step -/

/-- The fields of a step that lie out of range (R124, R125). -/
def stepOut (kind operand timeout : Nat) : Prop :=
  6 < kind ∨ 3600 < timeout ∨ (kind ≤ 2 ∧ 7 < operand) ∨ (kind = 3 ∧ operand = 0) ∨
  (kind = 5 ∧ 60000 < operand) ∨ (kind = 6 ∧ 255 < operand)

theorem stepRefused_iff (p : List Byte) (i : Nat) :
    stepRefused p i ↔ stepOut (byteAt p (8 + 5 * i)) (numberAt p (9 + 5 * i)) (numberAt p (11 + 5 * i)) := Iff.rfl

theorem readStepKind_some {b : Byte} {k : StepKind} (read : readStepKind b = some k) : b.toNat = stepKindCode k := by
  unfold readStepKind at read
  split at read
  case h_8 => cases read
  all_goals
    next code =>
    cases read
    exact code

theorem readStepKind_none {b : Byte} (read : readStepKind b = none) : 6 < b.toNat := by
  by_contra low
  interval_cases code : b.toNat <;> simp [readStepKind, code] at read

theorem checkOperand_none (k : StepKind) (operand : Nat) :
    checkOperand k operand = none ↔ (stepKindCode k ≤ 2 ∧ 7 < operand) ∨ (stepKindCode k = 3 ∧ operand = 0) ∨
      (stepKindCode k = 5 ∧ 60000 < operand) ∨ (stepKindCode k = 6 ∧ 255 < operand) := by
  cases k <;> simp [checkOperand, stepKindCode]

theorem readStep_none (kind oh ol th tl : Byte) :
    readStep kind oh ol th tl = none ↔ stepOut kind.toNat (word oh ol) (word th tl) := by
  unfold readStep stepOut
  split
  next k read =>
    have code := readStepKind_some read
    have low : stepKindCode k ≤ 6 := by cases k <;> decide
    have check := checkOperand_none k (word oh ol)
    rw [code]
    split
    next operand fits =>
      rw [fits] at check
      split <;> simp at check ⊢ <;> omega
    next bad =>
      have := check.mp bad
      simp only [true_iff]
      omega
  next read => simp [readStepKind_none read]

/-! ### The steps -/

theorem readSteps_bad (i : Nat) {kind oh ol th tl : Byte} (rest : List Byte)
    (bad : readStep kind oh ol th tl = none) :
    readSteps i (kind :: oh :: ol :: th :: tl :: rest) = .error i := by
  rw [readSteps, bad]

theorem readSteps_good (i : Nat) {kind oh ol th tl : Byte} {step : PlanStep} {rest : List Byte}
    (good : readStep kind oh ol th tl = some step) {steps : List PlanStep} (more : readSteps (i + 1) rest = .ok steps) :
    readSteps i (kind :: oh :: ol :: th :: tl :: rest) = .ok (step :: steps) := by
  rw [readSteps, good, more]

theorem readSteps_later (i : Nat) {kind oh ol th tl : Byte} {step : PlanStep} {rest : List Byte}
    (good : readStep kind oh ol th tl = some step) {j : Nat} (more : readSteps (i + 1) rest = .error j) :
    readSteps i (kind :: oh :: ol :: th :: tl :: rest) = .error j := by
  rw [readSteps, good, more]

/-- Reading stops at the first step out of range. -/
theorem readSteps_first : ∀ (n i j : Nat) (bytes : List Byte), bytes.length = 5 * n → j < n →
    stepOut (byteAt bytes (5 * j)) (numberAt bytes (5 * j + 1)) (numberAt bytes (5 * j + 3)) →
    (∀ m < j, ¬ stepOut (byteAt bytes (5 * m)) (numberAt bytes (5 * m + 1)) (numberAt bytes (5 * m + 3))) →
    readSteps i bytes = .error (i + j)
  | n + 1, i, j, kind :: oh :: ol :: th :: tl :: rest, length, low, out, fine => by
    cases j with
    | zero => exact readSteps_bad i rest ((readStep_none ..).mpr out)
    | succ j =>
      have first : ¬ stepOut kind.toNat (word oh ol) (word th tl) := fine 0 j.succ_pos
      obtain ⟨step, good⟩ := Option.ne_none_iff_exists'.mp (mt (readStep_none kind oh ol th tl).mp first)
      have more := readSteps_first n (i + 1) j rest (by simpa [Nat.mul_add] using length) (by omega) out
        fun m below => fine (m + 1) (by omega)
      rw [show i + (j + 1) = i + 1 + j by omega]
      exact readSteps_later i good more

/-- The bytes of one step. -/
def stepBytes (st : PlanStep) : List Byte := b1 (stepKindCode st.kind) ++ b2 st.operand ++ b2 st.timeout

theorem readStepKind_code (k : StepKind) : readStepKind (byteOf (stepKindCode k)) = some k := by
  cases k <;> rfl

theorem checkOperand_stored (st : PlanStep) (fits : stepAcceptable st = true) :
    checkOperand st.kind st.operand = some (storedStep st).operand := by
  obtain ⟨kind, operand, timeout⟩ := st
  cases kind <;> simp [stepAcceptable] at fits <;> simp [checkOperand, storedStep, fits]
  omega

theorem stepAcceptable_words (st : PlanStep) (fits : stepAcceptable st = true) :
    st.operand ≤ 65535 ∧ st.timeout ≤ 3600 := by
  obtain ⟨kind, operand, timeout⟩ := st
  cases kind <;> simp [stepAcceptable] at fits ⊢ <;> omega

theorem storedStep_rest (st : PlanStep) :
    storedStep st = { kind := st.kind, operand := (storedStep st).operand, timeout := st.timeout } := by
  obtain ⟨kind, operand, timeout⟩ := st
  cases kind <;> rfl

theorem readStep_stored (st : PlanStep) (fits : stepAcceptable st = true) :
    readStep (byteOf (stepKindCode st.kind)) (byteOf (st.operand / 256)) (byteOf st.operand)
      (byteOf (st.timeout / 256)) (byteOf st.timeout) = some (storedStep st) := by
  obtain ⟨small, short⟩ := stepAcceptable_words st fits
  simp only [readStep, readStepKind_code, word_wordBytes _ small, word_wordBytes st.timeout (by omega),
    checkOperand_stored st fits, if_pos short]
  rw [← storedStep_rest]

/-- Lawful steps read back as they are stored. -/
theorem readSteps_stored : ∀ (steps : List PlanStep) (i : Nat), (∀ st ∈ steps, stepAcceptable st = true) →
    readSteps i (steps.map stepBytes).flatten = .ok (steps.map storedStep)
  | [], _, _ => rfl
  | st :: steps, i, fits =>
    readSteps_good i (readStep_stored st (fits st List.mem_cons_self))
      (readSteps_stored steps (i + 1) fun x mem => fits x (List.mem_cons_of_mem _ mem))

/-! ### The settings -/

theorem readStartMode_none {b : Byte} (above : 1 < b.toNat) : readStartMode b = none := by
  unfold readStartMode
  split <;> first | omega | rfl

theorem readOnFail_none {b : Byte} (above : 1 < b.toNat) : readOnFail b = none := by
  unfold readOnFail
  split <;> first | omega | rfl

theorem readOverrun_none {b : Byte} (above : 1 < b.toNat) : readOverrun b = none := by
  unfold readOverrun
  split <;> first | omega | rfl

theorem readStartMode_within {b : Byte} (within : b.toNat ≤ 1) : ∃ m, readStartMode b = some m := by
  obtain zero | one : b.toNat = 0 ∨ b.toNat = 1 := by omega
  · exact ⟨.immediate, by simp only [readStartMode, zero]⟩
  · exact ⟨.onTrigger, by simp only [readStartMode, one]⟩

theorem readOnFail_within {b : Byte} (within : b.toNat ≤ 1) : ∃ m, readOnFail b = some m := by
  obtain zero | one : b.toNat = 0 ∨ b.toNat = 1 := by omega
  · exact ⟨.skip, by simp only [readOnFail, zero]⟩
  · exact ⟨.abort, by simp only [readOnFail, one]⟩

theorem readOverrun_within {b : Byte} (within : b.toNat ≤ 1) : ∃ m, readOverrun b = some m := by
  obtain zero | one : b.toNat = 0 ∨ b.toNat = 1 := by omega
  · exact ⟨.abort, by simp only [readOverrun, zero]⟩
  · exact ⟨.stretch, by simp only [readOverrun, one]⟩

/-- The settings of a payload of eight bytes and more that lie out of range. -/
theorem settingsRefused_cons (plan count ph pl mode onFail overrun n : Byte) (steps : List Byte) :
    settingsRefused (plan :: count :: ph :: pl :: mode :: onFail :: overrun :: n :: steps) ↔
      24 < n.toNat ∨ 15 < count.toNat ∨ 3600 < word ph pl ∨ 1 < mode.toNat ∨ 1 < onFail.toNat ∨
      1 < overrun.toNat := Iff.rfl

theorem readSettings_refused {count ph pl mode onFail overrun n : Byte}
    (out : 24 < n.toNat ∨ 15 < count.toNat ∨ 3600 < word ph pl ∨ 1 < mode.toNat ∨ 1 < onFail.toNat ∨
      1 < overrun.toNat) : readSettings count ph pl mode onFail overrun n = none := by
  unfold readSettings
  split
  next mode_ fail_ over_ =>
    refine if_neg fun within => ?_
    rcases out with out | out | out | out | out | out
    · omega
    · omega
    · omega
    · rw [readStartMode_none out] at mode_; cases mode_
    · rw [readOnFail_none out] at fail_; cases fail_
    · rw [readOverrun_none out] at over_; cases over_
  next => rfl

theorem readSettings_fit {count ph pl mode onFail overrun n : Byte}
    (fits : ¬ (24 < n.toNat ∨ 15 < count.toNat ∨ 3600 < word ph pl ∨ 1 < mode.toNat ∨ 1 < onFail.toNat ∨
      1 < overrun.toNat)) : ∃ r, readSettings count ph pl mode onFail overrun n = some r := by
  obtain ⟨m, mode_⟩ := readStartMode_within (b := mode) (by omega)
  obtain ⟨f, fail_⟩ := readOnFail_within (b := onFail) (by omega)
  obtain ⟨o, over_⟩ := readOverrun_within (b := overrun) (by omega)
  simp only [readSettings, mode_, fail_, over_]
  exact ⟨_, if_pos ⟨by omega, by omega, by omega⟩⟩

/-- The settings of a lawful plan read back. -/
theorem readSettings_fields (r : PlanRecord) {mode failing overrun : Byte} (count : r.passCount ≤ 15)
    (period : r.passPeriod ≤ 3600) (few : r.steps.length ≤ 24) (mode_ : readStartMode mode = some r.startMode)
    (fail_ : readOnFail failing = some r.onFail) (over_ : readOverrun overrun = some r.overrun) :
    readSettings (byteOf r.passCount) (byteOf (r.passPeriod / 256)) (byteOf r.passPeriod) mode failing overrun
      (byteOf r.steps.length) = some { r with steps := [] } := by
  simp only [readSettings, mode_, fail_, over_, byteOf_toNat r.passCount (by omega),
    byteOf_toNat r.steps.length (by omega), word_wordBytes r.passPeriod (by omega)]
  exact if_pos ⟨few, count, period⟩

/-! ### The answer -/

theorem setPlanAnswer_cons (plan count ph pl mode onFail overrun n : Byte) (steps : List Byte) (s : State)
    (length : steps.length = 5 * n.toNat) :
    setPlanAnswer (plan :: count :: ph :: pl :: mode :: onFail :: overrun :: n :: steps) s =
      answerSetPlan plan (readSettings count ph pl mode onFail overrun n) steps s :=
  if_pos (by simp only [List.length_cons, length]; omega)

/-- The answer to a plan that is not executing, by what its settings and steps read as. -/
theorem answerSetPlan_unset {plan : Byte} {p : PlanNo} (read : readPlanNo plan = some p) (steps : List Byte) (s : State)
    (open_ : Configurable s) (free : isExecuting p s = false) :
    answerSetPlan plan none steps s = refuse .outOfRange := by
  simp only [answerSetPlan, read, asConfiguration_open s _ open_, free, Bool.false_eq_true, if_false]

theorem answerSetPlan_bad {plan : Byte} {p : PlanNo} (read : readPlanNo plan = some p) (r : PlanRecord)
    {steps : List Byte} {i : Nat} (bad : readSteps 0 steps = .error i) (s : State) (open_ : Configurable s)
    (free : isExecuting p s = false) :
    answerSetPlan plan (some r) steps s = refuseAt .outOfRange (.step i) := by
  simp only [answerSetPlan, read, asConfiguration_open s _ open_, free, Bool.false_eq_true, if_false, bad]

theorem answerSetPlan_good {plan : Byte} {p : PlanNo} (read : readPlanNo plan = some p) (r : PlanRecord)
    {steps : List Byte} {l : List PlanStep} (good : readSteps 0 steps = .ok l) (s : State) (open_ : Configurable s)
    (free : isExecuting p s = false) :
    answerSetPlan plan (some r) steps s = accept (applyPlan p { r with steps := l }) := by
  simp only [answerSetPlan, read, asConfiguration_open s _ open_, free, Bool.false_eq_true, if_false, good]

theorem isExecuting_eq (p : PlanNo) (s : State) :
    isExecuting p s = true ↔ s.executor.state ≠ .idle ∧ s.executor.plan = some p := by
  simp [isExecuting]

/-- A lawful plan's payload is accepted with its steps as they are stored. -/
theorem setPlanAnswer_accepts (p : PlanNo) (r : PlanRecord) (s : State) (fits : planAcceptable r = true)
    (open_ : Configurable s) (free : isExecuting p s = false) :
    setPlanAnswer (planPayload p r) s = accept (applyPlan p { r with steps := r.steps.map storedStep }) := by
  simp only [planAcceptable, Bool.and_eq_true, decide_eq_true_eq, List.all_eq_true] at fits
  obtain ⟨⟨⟨few, count⟩, period⟩, steps⟩ := fits
  have bytes : (r.steps.map stepBytes).flatten.length = 5 * (byteOf r.steps.length).toNat := by
    rw [byteOf_toNat _ (by omega), List.length_flatten, List.map_map,
      show List.length ∘ stepBytes = fun _ => 5 from rfl, List.map_const', List.sum_replicate, smul_eq_mul,
      Nat.mul_comm]
  refine (setPlanAnswer_cons _ _ _ _ _ _ _ _ _ s bytes).trans ?_
  rw [readSettings_fields r count period few]
  · exact answerSetPlan_good (readPlanNo_byteOf p) _ (readSteps_stored r.steps 0 steps) s open_ free
  · cases r.startMode <;> rfl
  · cases r.onFail <;> rfl
  · cases r.overrun <;> rfl

/-- Settles O13: the payload of a lawful plan reads back as it is stored; a refusal goes by the order of the checks
in `answerSetPlan`, and reading stops at the first bad step. -/
theorem setPlanReplaces : Obligations.SetPlanReplaces := by
  refine ⟨fun tag p r s fits open_ free taken => ?_, fun tag payload s low length taken => ?_⟩
  · exact takeCommand_accepted _ _ _ _ _ _ taken (setPlanAnswer_accepts p r (leaveQueue s) fits open_ free)
  · match payload, low, length, taken with
    | plan :: count :: ph :: pl :: mode :: onFail :: overrun :: n :: steps, _, length, taken =>
      have bytes : steps.length = 5 * n.toNat := by
        have : steps.length + 8 = 8 + 5 * n.toNat := length
        omega
      have answer := setPlanAnswer_cons plan count ph pl mode onFail overrun n steps (leaveQueue s) bytes
      refine ⟨fun above => ?_, fun p named => ?_⟩
      · refine takeCommand_refused _ _ _ _ _ _ taken (answer.trans ?_)
        rw [answerSetPlan, readPlanNo_above plan above]
      · have read : readPlanNo plan = some p := by
          have low : plan.toNat < 8 := by have : plan.toNat = p.val := named; omega
          exact (dif_pos low).trans (congrArg some (Fin.ext named))
        refine ⟨fun run busy mine => ?_, fun open_ free => ?_⟩
        · refine takeCommand_refused _ _ _ _ _ _ taken (answer.trans ?_)
          have executing : isExecuting p (leaveQueue s) = true := (isExecuting_eq p _).mpr ⟨busy, mine⟩
          simp only [answerSetPlan, read, asConfiguration_open (leaveQueue s) _ (.inr run), executing, if_true]
        · have free_ : isExecuting p (leaveQueue s) = false :=
            Bool.eq_false_iff.mpr fun yes => by
              obtain ⟨busy, mine⟩ := (isExecuting_eq p _).mp yes
              exact free.elim busy fun other => other mine
          refine ⟨fun out => ?_, fun i fits below out before => ?_⟩
          · refine takeCommand_refused _ _ _ _ _ _ taken (answer.trans ?_)
            rw [readSettings_refused ((settingsRefused_cons ..).mp out)]
            exact answerSetPlan_unset read steps (leaveQueue s) open_ free_
          · obtain ⟨r, settings⟩ := readSettings_fit (mt (settingsRefused_cons plan count ph pl mode onFail overrun n
              steps).mpr fits)
            have shift : ∀ m, stepRefused (plan :: count :: ph :: pl :: mode :: onFail :: overrun :: n :: steps) m ↔
                stepOut (byteAt steps (5 * m)) (numberAt steps (5 * m + 1)) (numberAt steps (5 * m + 3)) := by
              intro m
              rw [stepRefused_iff, show 8 + 5 * m = 5 * m + 8 by omega, show 9 + 5 * m = 5 * m + 1 + 8 by omega,
                show 11 + 5 * m = 5 * m + 3 + 8 by omega]
              exact Iff.rfl
            have stops := readSteps_first n.toNat 0 i steps bytes below ((shift i).mp out)
              fun m less => mt (shift m).mpr (before m less)
            rw [Nat.zero_add] at stops
            rw [settings] at answer
            have judged := answer.trans (answerSetPlan_bad read r stops (leaveQueue s) open_ free_)
            exact (takeCommand_taken _ _ _ _ _ taken).trans (by rw [judged]; rfl)

end Sys2Proof.Proofs
end


section
/-! SUPPORT. The serving of a bore's queue (R116), entry by entry, and SET-WINDOW (R119). -/

namespace Sys2Proof.Proofs
open Sys2Proof.Machine Sys2Proof.Safety Sys2Proof.Laws

/-! ### One order -/

theorem issueOrder_countOf_other (k : Slot) (s : State) (d : Bore) (other : d ≠ boreOf s k) :
    countOf (issueOrder k s) d = countOf s d := by
  cases can : canIssue s.contexts[k] with
  | false => rw [issueOrder_of_not k s can]
  | true =>
    obtain ⟨x, form⟩ := noteIssued_form k (orderTaken k (flagged k s))
    have window : countOf (orderTaken k (flagged k s)) d = countOf (flagged k s) d := by
      cases d <;> simp only [countOf, orderTaken_window]
    have raised : countOf (flagged k s) d = countOf s d := by
      rw [flagged, countOf_updCount, if_neg (by exact other)]
      cases d <;> rfl
    rw [issueOrder_of_can k s can, form, ← raised, ← window]
    generalize orderTaken k (flagged k s) = u
    cases d <;> rfl

theorem Issued.taken {k : Slot} {s t : State} (h : Issued k s t) :
    t.contexts[k].state = .settle ∧ t.contexts[k].inProgress = true := by
  rw [h.context]
  exact ⟨rfl, rfl⟩

theorem Issued.left {k j : Slot} {s t : State} (h : Issued k s t) (other : j ≠ k) : t.contexts[j] = s.contexts[j] := by
  rw [h.contexts]
  exact Vector.getElem_set_ne k.isLt j.isLt fun same => other (Fin.ext same.symm)

/-! ### A run of orders -/

/-- What the window unit holds after orders for these entries, all of one bore, have been issued. -/
structure OrdersIssued (b : Bore) (done : List WaitEntry) (s t : State) : Prop where
  cfg : t.cfg = s.cfg
  count : countOf t b = countOf s b + done.length
  counts : ∀ d, d ≠ b → countOf t d = countOf s d
  waitList : t.window.waitList = s.window.waitList.filter fun x => !(done.map (·.slot)).contains x.slot
  taken : ∀ e ∈ done, t.contexts[e.slot].state = .settle ∧ t.contexts[e.slot].inProgress = true
  left : ∀ j : Slot, j ∉ done.map (·.slot) → t.contexts[j] = s.contexts[j]

theorem OrdersIssued.none (b : Bore) (s : State) : OrdersIssued b [] s s :=
  ⟨rfl, rfl, fun _ _ => rfl, (List.filter_eq_self.mpr fun _ _ => rfl).symm, nofun, fun _ _ => rfl⟩

/-- One order, then a run of them for other slots. -/
theorem OrdersIssued.cons {b : Bore} {e : WaitEntry} {done : List WaitEntry} {s t : State}
    (can : canIssue s.contexts[e.slot] = true) (bore : boreOf s e.slot = b) (fresh : e.slot ∉ done.map (·.slot))
    (h : OrdersIssued b done (issueOrder e.slot s) t) : OrdersIssued b (e :: done) s t := by
  have issued := issueOrder_issued e.slot s can
  refine ⟨h.cfg.trans issued.cfg, ?_, fun d other => ?_, ?_, fun x mem => ?_, fun j absent => ?_⟩
  · have one := issued.count
    rw [bore] at one
    rw [h.count, one, List.length_cons]
    omega
  · exact (h.counts d other).trans (issueOrder_countOf_other e.slot s d (by rw [bore]; exact other))
  · rw [h.waitList, issued.waitList, List.filter_filter]
    refine List.filter_congr fun x _ => ?_
    rw [List.map_cons, List.contains_cons, Bool.not_or, Bool.and_comm]
    rfl
  · rcases List.mem_cons.mp mem with rfl | mem
    · rw [h.left _ fresh]
      exact issued.taken
    · exact h.taken x mem
  · obtain ⟨other, absent⟩ := not_or.mp (mt List.mem_cons.mpr absent)
    exact (h.left j absent).trans (issued.left other)

/-- Every entry of the list is for a slot of its own, at which an order can be issued. -/
def CanServe (l : List WaitEntry) (s : State) : Prop :=
  (l.map (·.slot)).Nodup ∧ ∀ e ∈ l, canIssue s.contexts[e.slot] = true

theorem CanServe.tail {e : WaitEntry} {l : List WaitEntry} {s : State} (h : CanServe (e :: l) s) : CanServe l s :=
  ⟨(List.nodup_cons.mp h.1).2, fun x mem => h.2 x (List.mem_cons_of_mem e mem)⟩

theorem CanServe.after_issue {e : WaitEntry} {l : List WaitEntry} {s : State} (h : CanServe (e :: l) s) :
    CanServe l (issueOrder e.slot s) := by
  obtain ⟨distinct, can⟩ := h
  obtain ⟨fresh, distinct⟩ := List.nodup_cons.mp distinct
  have issued := issueOrder_issued e.slot s (can e List.mem_cons_self)
  refine ⟨distinct, fun x mem => ?_⟩
  have other : x.slot ≠ e.slot := fun same => by
    have own : x.slot ∈ l.map (·.slot) := List.mem_map_of_mem mem
    rw [same] at own
    exact fresh own
  rw [issued.left other]
  exact can x (List.mem_cons_of_mem e mem)

/-- The entries of a list that are for a bore. -/
def forBore (b : Bore) (s : State) (l : List WaitEntry) : List WaitEntry := l.filter fun e => boreOf s e.slot == b

/-- How many orders a bore's limit leaves room for. -/
def roomOf (s : State) (b : Bore) : Nat := limitOf s b - countOf s b

theorem limitOf_congr {s t : State} (cfg : t.cfg = s.cfg) (b : Bore) : limitOf t b = limitOf s b := by
  cases b <;> simp only [limitOf, cfg]

theorem boreOf_congr {s t : State} (cfg : t.cfg = s.cfg) (k : Slot) : boreOf t k = boreOf s k := by
  simp only [boreOf, cfg]

theorem forBore_congr {s t : State} (cfg : t.cfg = s.cfg) (b : Bore) (l : List WaitEntry) :
    forBore b t l = forBore b s l := by
  simp only [forBore, boreOf_congr cfg]

theorem serveEntries_cons (b : Bore) (e : WaitEntry) (l : List WaitEntry) (s : State) :
    serveEntries b (e :: l) s =
      serveEntries b l (if boreOf s e.slot = b ∧ countOf s b < limitOf s b then issueOrder e.slot s else s) := rfl

theorem forBore_take_absent {b : Bore} {s : State} {e : WaitEntry} {l : List WaitEntry} (n : Nat)
    (fresh : e.slot ∉ l.map (·.slot)) : e.slot ∉ ((forBore b s l).take n).map (·.slot) := fun mem => by
  obtain ⟨x, taken, same⟩ := List.mem_map.mp mem
  rw [← same] at fresh
  exact fresh (List.mem_map_of_mem (List.mem_of_mem_filter (List.mem_of_mem_take taken)))

/-- Serving issues the bore's oldest entries, as many as there is room for. -/
theorem serveEntries_issued (b : Bore) (l : List WaitEntry) (s : State) (ready : CanServe l s) :
    OrdersIssued b ((forBore b s l).take (roomOf s b)) s (serveEntries b l s) := by
  induction l generalizing s with
  | nil =>
    rw [show forBore b s [] = [] from rfl, List.take_nil]
    exact .none b s
  | cons e l ih =>
    rw [serveEntries_cons]
    by_cases bore : boreOf s e.slot = b
    · have mine : forBore b s (e :: l) = e :: forBore b s l := List.filter_cons_of_pos (beq_iff_eq.mpr bore)
      rw [mine]
      by_cases room : countOf s b < limitOf s b
      · rw [if_pos ⟨bore, room⟩]
        have can := ready.2 e List.mem_cons_self
        have issued := issueOrder_issued e.slot s can
        have less : roomOf s b = roomOf (issueOrder e.slot s) b + 1 := by
          have count := issued.count
          rw [bore] at count
          rw [roomOf, roomOf, limitOf_congr issued.cfg, count]
          omega
        have rest := ih (issueOrder e.slot s) ready.after_issue
        rw [forBore_congr issued.cfg] at rest
        rw [less, List.take_succ_cons]
        exact .cons can bore (forBore_take_absent _ (List.nodup_cons.mp ready.1).1) rest
      · rw [if_neg fun both => room both.2]
        have full : roomOf s b = 0 := by rw [roomOf]; omega
        have rest := ih s ready.tail
        rw [full] at rest ⊢
        exact rest
    · rw [if_neg fun both => bore both.1]
      have mine : forBore b s (e :: l) = forBore b s l :=
        List.filter_cons_of_neg fun same => bore (beq_iff_eq.mp same)
      rw [mine]
      exact ih s ready.tail

/-! ### What a bore sees of it -/

/-- The entries of a bore, oldest first. -/
def queueOf (b : Bore) (s : State) : List WaitEntry := forBore b s s.window.waitList

/-- A bore's queue has been served. -/
structure BoreServed (b : Bore) (s t : State) : Prop where
  cfg : t.cfg = s.cfg
  count : countOf t b = countOf s b + min (queueOf b s).length (roomOf s b)
  queue : queueOf b t = (queueOf b s).drop (roomOf s b)
  taken : ∀ e ∈ (queueOf b s).take (roomOf s b),
    t.contexts[e.slot].state = .settle ∧ t.contexts[e.slot].inProgress = true

/-- A bore keeps its count, its entries and the contexts of its slots. -/
structure BoreKept (d : Bore) (s t : State) : Prop where
  cfg : t.cfg = s.cfg
  count : countOf t d = countOf s d
  queue : queueOf d t = queueOf d s
  slots : ∀ k : Slot, boreOf s k = d → t.contexts[k] = s.contexts[k]

theorem BoreKept.refl (d : Bore) (s : State) : BoreKept d s s := ⟨rfl, rfl, rfl, fun _ _ => rfl⟩

theorem BoreKept.trans {d : Bore} {s t u : State} (h : BoreKept d s t) (g : BoreKept d t u) : BoreKept d s u :=
  ⟨g.cfg.trans h.cfg, g.count.trans h.count, g.queue.trans h.queue,
    fun k bore => (g.slots k ((boreOf_congr h.cfg k).trans bore)).trans (h.slots k bore)⟩

theorem roomOf_congr {s t : State} (cfg : t.cfg = s.cfg) {b : Bore} (count : countOf t b = countOf s b) :
    roomOf t b = roomOf s b := by
  rw [roomOf, roomOf, limitOf_congr cfg, count]

theorem queueOf_bore {b : Bore} {s : State} {e : WaitEntry} (mem : e ∈ queueOf b s) : boreOf s e.slot = b :=
  beq_iff_eq.mp (List.mem_filter.mp mem).2

theorem BoreServed.kept {b : Bore} {s t u : State} (h : BoreServed b s t) (g : BoreKept b t u) : BoreServed b s u := by
  refine ⟨g.cfg.trans h.cfg, g.count.trans h.count, g.queue.trans h.queue, fun e mem => ?_⟩
  rw [g.slots e.slot ((boreOf_congr h.cfg _).trans (queueOf_bore (List.mem_of_mem_take mem)))]
  exact h.taken e mem

theorem BoreKept.served {b : Bore} {s t u : State} (h : BoreKept b s t) (g : BoreServed b t u) : BoreServed b s u := by
  obtain ⟨cfg, count, queue, taken⟩ := g
  rw [h.queue, roomOf_congr h.cfg h.count] at count queue taken
  exact ⟨cfg.trans h.cfg, by rw [count, h.count], queue, taken⟩

/-- Of a list of entries for different slots, those whose slots are not among its first ones are the rest. -/
theorem filter_not_taken (l : List WaitEntry) (n : Nat) (distinct : (l.map (·.slot)).Nodup) :
    l.filter (fun x => !((l.take n).map (·.slot)).contains x.slot) = l.drop n := by
  have apart : ∀ x ∈ l.drop n, x.slot ∉ (l.take n).map (·.slot) := by
    rw [← List.take_append_drop n l, List.map_append] at distinct
    intro x mem own
    exact (List.disjoint_of_nodup_append distinct) own (List.mem_map_of_mem mem)
  have split : l.filter (fun x => !((l.take n).map (·.slot)).contains x.slot) =
      (l.take n ++ l.drop n).filter (fun x => !((l.take n).map (·.slot)).contains x.slot) := by
    rw [List.take_append_drop]
  rw [split, List.filter_append, List.filter_eq_nil_iff.mpr, List.nil_append, List.filter_eq_self.mpr]
  · intro x mem
    rw [Bool.not_eq_true', ← Bool.not_eq_true, List.contains_iff_mem]
    exact apart x mem
  · intro x mem
    rw [Bool.not_eq_true', ← Bool.not_eq_true, not_not, List.contains_iff_mem]
    exact List.mem_map_of_mem mem

theorem serveBore_issued (b : Bore) (s : State) (ready : CanServe s.window.waitList s) :
    OrdersIssued b ((queueOf b s).take (roomOf s b)) s (serveBore b s) :=
  serveEntries_issued b s.window.waitList s ready

theorem queueOf_distinct {b : Bore} {s : State} (ready : CanServe s.window.waitList s) :
    ((queueOf b s).map (·.slot)).Nodup :=
  ready.1.sublist (List.filter_sublist.map _)

theorem serveBore_served (b : Bore) (s : State) (ready : CanServe s.window.waitList s) :
    BoreServed b s (serveBore b s) := by
  have issued := serveBore_issued b s ready
  refine ⟨issued.cfg, by rw [issued.count, List.length_take, Nat.min_comm], ?_, issued.taken⟩
  rw [queueOf, forBore_congr issued.cfg, issued.waitList, forBore, List.filter_filter]
  rw [← filter_not_taken (queueOf b s) (roomOf s b) (queueOf_distinct ready)]
  conv_rhs => rw [queueOf, forBore, List.filter_filter]
  exact List.filter_congr fun x _ => Bool.and_comm _ _

theorem serveBore_kept_other (b d : Bore) (other : d ≠ b) (s : State) (ready : CanServe s.window.waitList s) :
    BoreKept d s (serveBore b s) := by
  have issued := serveBore_issued b s ready
  have absent : ∀ k : Slot, boreOf s k = d → k ∉ ((queueOf b s).take (roomOf s b)).map (·.slot) := fun k bore mem => by
    obtain ⟨e, taken, rfl⟩ := List.mem_map.mp mem
    exact other (bore.symm.trans (queueOf_bore (List.mem_of_mem_take taken)))
  refine ⟨issued.cfg, issued.counts d other, ?_, fun k bore => issued.left k (absent k bore)⟩
  rw [queueOf, forBore_congr issued.cfg, issued.waitList, forBore, List.filter_filter]
  refine List.filter_congr fun x _ => ?_
  cases bore : boreOf s x.slot == d with
  | false => rfl
  | true =>
    have out := absent x.slot (beq_iff_eq.mp bore)
    simpa using out

theorem serveBore_ready (b : Bore) (s : State) (ready : CanServe s.window.waitList s) :
    CanServe (serveBore b s).window.waitList (serveBore b s) := by
  have issued := serveBore_issued b s ready
  refine ⟨?_, fun e mem => ?_⟩
  · rw [issued.waitList]
    exact ready.1.sublist (List.filter_sublist.map _)
  · rw [issued.waitList] at mem
    obtain ⟨mem, out⟩ := List.mem_filter.mp mem
    rw [issued.left e.slot (by simpa using out)]
    exact ready.2 e mem

/-- A queue that is served where its limit rose, and what the other bore and a later serving see of it. -/
structure ServedIf (rises : Prop) (b : Bore) (s t : State) : Prop where
  quiet : ¬ rises → BoreKept b s t
  served : rises → BoreServed b s t
  other : ∀ d, d ≠ b → BoreKept d s t
  ready : CanServe t.window.waitList t

theorem serveBore_if (rises : Prop) [Decidable rises] (b : Bore) (s : State) (ready : CanServe s.window.waitList s) :
    ServedIf rises b s (if rises then serveBore b s else s) := by
  split
  next yes => exact ⟨fun no => absurd yes no, fun _ => serveBore_served b s ready,
    fun d other => serveBore_kept_other b d other s ready, serveBore_ready b s ready⟩
  next no => exact ⟨fun _ => .refl b s, fun yes => absurd yes no, fun d _ => .refl d s, ready⟩

/-! ### SET-WINDOW -/

/-- Both limits replaced, before any queue is served. -/
def limitsReplaced (l1 l2 : Nat) (s : State) : State := { s with cfg := { s.cfg with limit1 := l1, limit2 := l2 } }

theorem applyWindow_eq (l1 l2 : Nat) (s : State) :
    applyWindow l1 l2 s =
      (if s.cfg.limit2 < l2 then
        serveBore .two (if s.cfg.limit1 < l1 then serveBore .one (limitsReplaced l1 l2 s) else limitsReplaced l1 l2 s)
      else if s.cfg.limit1 < l1 then serveBore .one (limitsReplaced l1 l2 s) else limitsReplaced l1 l2 s) := rfl

theorem applyWindow_quiet (l1 l2 : Nat) (s : State) (low1 : l1 ≤ s.cfg.limit1) (low2 : l2 ≤ s.cfg.limit2) :
    applyWindow l1 l2 s = limitsReplaced l1 l2 s := by
  rw [applyWindow_eq, if_neg (by omega), if_neg (by omega)]

theorem applyWindow_none (l1 l2 : Nat) (s : State) (none : s.window.waitList = []) :
    applyWindow l1 l2 s = limitsReplaced l1 l2 s := by
  have still : ∀ b, serveBore b (limitsReplaced l1 l2 s) = limitsReplaced l1 l2 s := fun b => serveBore_none b _ none
  rw [applyWindow_eq, still, ite_self, still, ite_self]

/-- Each bore is served where its limit rose, and is kept where it did not. -/
theorem applyWindow_bores (l1 l2 : Nat) (s : State) (ready : CanServe s.window.waitList s) :
    (¬ s.cfg.limit1 < l1 → BoreKept .one (limitsReplaced l1 l2 s) (applyWindow l1 l2 s)) ∧
    (s.cfg.limit1 < l1 → BoreServed .one (limitsReplaced l1 l2 s) (applyWindow l1 l2 s)) ∧
    (¬ s.cfg.limit2 < l2 → BoreKept .two (limitsReplaced l1 l2 s) (applyWindow l1 l2 s)) ∧
    (s.cfg.limit2 < l2 → BoreServed .two (limitsReplaced l1 l2 s) (applyWindow l1 l2 s)) := by
  have first := serveBore_if (s.cfg.limit1 < l1) .one (limitsReplaced l1 l2 s) ready
  rw [applyWindow_eq]
  generalize (if s.cfg.limit1 < l1 then serveBore .one (limitsReplaced l1 l2 s) else limitsReplaced l1 l2 s) = m
    at first ⊢
  have second := serveBore_if (s.cfg.limit2 < l2) .two m first.ready
  have one := second.other .one nofun
  have two := first.other .two nofun
  exact ⟨fun no => (first.quiet no).trans one, fun yes => (first.served yes).kept one,
    fun no => two.trans (second.quiet no), fun yes => two.served (second.served yes)⟩

theorem setWindowAnswer_pair (a b : Byte) (s : State) (open_ : Configurable s) :
    setWindowAnswer [a, b] s =
      (if 1 ≤ a.toNat ∧ a.toNat ≤ 4 ∧ 1 ≤ b.toNat ∧ b.toNat ≤ 4 then
        if s.partState = .run ∧ (a.toNat < s.window.count1 ∨ b.toNat < s.window.count2) then refuse .windowBusy
        else accept (applyWindow a.toNat b.toNat)
      else refuse .outOfRange) :=
  asConfiguration_open s _ open_

theorem setWindowAnswer_limits (l1 l2 : Nat) (s : State) (open_ : Configurable s) (low1 : 1 ≤ l1) (high1 : l1 ≤ 4)
    (low2 : 1 ≤ l2) (high2 : l2 ≤ 4) :
    setWindowAnswer (b1 l1 ++ b1 l2) s =
      if s.partState = .run ∧ (l1 < s.window.count1 ∨ l2 < s.window.count2) then refuse .windowBusy
      else accept (applyWindow l1 l2) := by
  refine (setWindowAnswer_pair (byteOf l1) (byteOf l2) s open_).trans ?_
  rw [byteOf_toNat l1 (by omega), byteOf_toNat l2 (by omega), if_pos ⟨low1, high1, low2, high2⟩]

/-- Settles O11: without a rise, and with an empty wait list, the limits alone change; where a limit rises its
bore's queue is served by `serveBore`, whose effect on either bore is `BoreServed` and `BoreKept`. -/
theorem setWindowReplaces : Obligations.SetWindowReplaces := by
  refine ⟨fun tag l1 l2 s low1 high1 low2 high2 taken => ?_, fun tag a b s open_ taken out => ?_⟩
  · have answer := fun open_ => setWindowAnswer_limits l1 l2 (leaveQueue s) open_ low1 high1 low2 high2
    have accepted : Configurable s → (s.partState = .run → s.window.count1 ≤ l1 ∧ s.window.count2 ≤ l2) →
        exec (.setWindow tag (b1 l1 ++ b1 l2)) s = .next (applyWindow l1 l2 (repliedOk 0x13 tag s)) :=
      fun open_ fits => takeCommand_accepted _ _ _ _ _ _ taken ((answer open_).trans (if_neg (by
        intro ⟨run, busy⟩
        have := fits run
        have : l1 < s.window.count1 ∨ l2 < s.window.count2 := busy
        omega)))
    refine ⟨fun open_ fits still1 still2 => ?_, fun run busy => ?_, fun run fits1 fits2 distinct may => ?_,
      fun unconfigured none => ?_⟩
    · exact (accepted open_ fits).trans (congrArg _ (applyWindow_quiet l1 l2 (repliedOk 0x13 tag s) still1 still2))
    · exact takeCommand_refused _ _ _ _ _ _ taken ((answer (.inr run)).trans (if_pos ⟨run, busy⟩))
    · have ready : CanServe s.window.waitList s := ⟨distinct, fun e mem => (canIssue_iff _).mpr (may e mem)⟩
      obtain ⟨kept1, served1, kept2, served2⟩ := applyWindow_bores l1 l2 (repliedOk 0x13 tag s) ready
      have cfg : (applyWindow l1 l2 (repliedOk 0x13 tag s)).cfg = { s.cfg with limit1 := l1, limit2 := l2 } := by
        by_cases rise : s.cfg.limit1 < l1
        · exact (served1 rise).cfg
        · exact (kept1 rise).cfg
      refine ⟨_, accepted (.inr run) fun _ => ⟨fits1, fits2⟩, cfg, fun b limit mine limit_ mine_ => ?_⟩
      have whole : ∀ l, forBore b (applyWindow l1 l2 (repliedOk 0x13 tag s)) l =
          l.filter fun e => boreOf s e.slot == b := fun l => by
        have bores : ∀ k, boreOf (applyWindow l1 l2 (repliedOk 0x13 tag s)) k = boreOf s k := fun k => by
          rw [boreOf, cfg]
          rfl
        simp only [forBore, bores]
      have kept : ∀ {t}, BoreKept b (limitsReplaced l1 l2 (repliedOk 0x13 tag s)) t →
          countOf t b = countOf s b ∧ queueOf b t = mine := fun h => by
        rw [mine_]
        exact ⟨h.count.trans (by cases b <;> rfl), h.queue⟩
      have served : ∀ {t}, BoreServed b (limitsReplaced l1 l2 (repliedOk 0x13 tag s)) t →
          countOf t b = countOf s b + min mine.length (limit - countOf s b) ∧
          queueOf b t = mine.drop (limit - countOf s b) ∧
          ∀ e ∈ mine.take (limit - countOf s b),
            t.contexts[e.slot].state = .settle ∧ t.contexts[e.slot].inProgress = true := fun h => by
        rw [mine_, limit_]
        cases b
        · exact ⟨h.count, h.queue, h.taken⟩
        · exact ⟨h.count, h.queue, h.taken⟩
      rw [← whole]
      subst limit_
      cases b
      · exact ⟨fun low => kept (kept1 (Nat.not_lt.mpr low)), fun rise => served (served1 rise)⟩
      · exact ⟨fun low => kept (kept2 (Nat.not_lt.mpr low)), fun rise => served (served2 rise)⟩
    · exact (accepted (.inl unconfigured) fun run => absurd (run.symm.trans unconfigured) nofun).trans
        (congrArg _ (applyWindow_none l1 l2 (repliedOk 0x13 tag s) none))
  · refine takeCommand_refused _ _ _ _ _ _ taken ((setWindowAnswer_pair a b (leaveQueue s) open_).trans (if_neg ?_))
    omega

end Sys2Proof.Proofs
end


section
/-! SUPPORT. The serving of the admission queue (R35 to R38): a run of full grants from the head, and its end at an
empty queue, a blocked head or a partial grant; the SET records put on the way (R12). -/

namespace Sys2Proof.Proofs
open Sys2Proof.Machine Sys2Proof.Safety Sys2Proof.Laws

/-! ### A list with one place for each channel -/

/-- Each of these channels, in this order, has its element changed in its place, or puts a new one at the back. -/
def putKeyed {α : Type} (key : α → Chan) (change : α → α) (fresh : Chan → α) (moved : List Chan) (l : List α) :
    List α :=
  (l.map fun a => if key a ∈ moved then change a else a) ++ (moved.filter fun c => l.all (key · != c)).map fresh

theorem putKeyed_nil {α : Type} (key : α → Chan) (change : α → α) (fresh : Chan → α) (l : List α) :
    putKeyed key change fresh [] l = l := by
  simp [putKeyed]

theorem putKeyed_one {α : Type} (key : α → Chan) (change : α → α) (fresh : Chan → α) (c : Chan) (l : List α) :
    putKeyed key change fresh [c] l =
      if l.any (key · == c) then l.map fun a => if key a == c then change a else a else l ++ [fresh c] := by
  unfold putKeyed
  cases has : l.any (key · == c) with
  | true =>
    have waits : ¬ l.all (key · != c) = true := fun none => by
      obtain ⟨a, mem, own⟩ := List.any_eq_true.mp has
      exact absurd (List.all_eq_true.mp none a mem) (by rw [bne, own]; decide)
    have skipped : [c].filter (fun c => l.all (key · != c)) = [] := List.filter_cons_of_neg waits
    rw [if_pos rfl, skipped, List.map_nil, List.append_nil]
    exact List.map_congr_left fun a _ => by simp only [List.mem_singleton, beq_iff_eq]
  | false =>
    have none : ∀ a ∈ l, key a ≠ c := by simpa using has
    have absent : l.all (key · != c) = true := List.all_eq_true.mpr fun a mem => bne_iff_ne.mpr (none a mem)
    have joins : [c].filter (fun c => l.all (key · != c)) = [c] := List.filter_cons_of_pos absent
    rw [if_neg Bool.false_ne_true, joins, List.map_cons, List.map_nil]
    congr 1
    refine (List.map_congr_left fun a mem => ?_).trans (List.map_id l)
    exact if_neg fun own => none a mem (List.mem_singleton.mp own)

/-- Channels put theirs one run after another. -/
theorem putKeyed_append {α : Type} (key : α → Chan) (change : α → α) (fresh : Chan → α)
    (keeps : ∀ a, key (change a) = key a) (named : ∀ c, key (fresh c) = c) (first later : List Chan) (l : List α)
    (apart : ∀ c ∈ later, c ∉ first) :
    putKeyed key change fresh (first ++ later) l =
      putKeyed key change fresh later (putKeyed key change fresh first l) := by
  have still : ∀ c ∈ later, (putKeyed key change fresh first l).all (key · != c) = l.all (key · != c) := by
    intro c mem
    have mapped : (l.map fun a => if key a ∈ first then change a else a).all (key · != c) = l.all (key · != c) := by
      rw [List.all_map]
      refine congrArg (fun p => l.all p) (funext fun a => ?_)
      dsimp only [Function.comp]
      split
      · rw [keeps]
      · rfl
    have joined : ((first.filter fun c => l.all (key · != c)).map fresh).all (key · != c) = true := by
      refine List.all_eq_true.mpr fun a put => ?_
      obtain ⟨d, joined, rfl⟩ := List.mem_map.mp put
      rw [named]
      exact bne_iff_ne.mpr fun same => apart c mem (same ▸ List.mem_of_mem_filter joined)
    rw [putKeyed, List.all_append, mapped, joined, Bool.and_true]
  have changed : ∀ a : α, (if key a ∈ first ++ later then change a else a) =
      if key (if key a ∈ first then change a else a) ∈ later then change (if key a ∈ first then change a else a)
      else if key a ∈ first then change a else a := by
    intro a
    by_cases one : key a ∈ first
    · have other : key (change a) ∉ later := fun two => apart _ two (by rw [keeps]; exact one)
      simp only [one, other, List.mem_append, true_or, if_true, if_false]
    · simp only [one, List.mem_append, false_or, if_false]
  conv_rhs => rw [putKeyed, List.filter_congr still]
  rw [putKeyed, putKeyed, List.map_append, List.filter_append, List.map_append, ← List.append_assoc, List.map_map,
    List.map_map]
  congr 1
  congr 1
  · exact List.map_congr_left fun a _ => changed a
  · refine List.map_congr_left fun c mem => (if_neg fun two => ?_).symm
    rw [named] at two
    exact apart c two (List.mem_of_mem_filter mem)

/-! ### SET records -/

theorem recordsPut_eq (moved : List Chan) (t : State) (l : List SetRecord) :
    recordsPut moved t l = putKeyed (·.channel) (fun r => { r with value := t.channels[r.channel].driven.getD 0 })
      (fun c => { channel := c, value := t.channels[c].driven.getD 0 }) moved l := rfl

theorem recordsPut_nil (t : State) (l : List SetRecord) : recordsPut [] t l = l := putKeyed_nil _ _ _ l

theorem recordsPut_congr {moved : List Chan} {t u : State}
    (same : ∀ c ∈ moved, t.channels[c].driven = u.channels[c].driven) (l : List SetRecord) :
    recordsPut moved t l = recordsPut moved u l := by
  unfold recordsPut
  congr 1
  · refine List.map_congr_left fun r _ => ?_
    split
    next mem => rw [same _ mem]
    next => rfl
  · exact List.map_congr_left fun c mem => by rw [same c (List.mem_of_mem_filter mem)]

theorem recordsPut_append (first later : List Chan) (t : State) (l : List SetRecord)
    (apart : ∀ c ∈ later, c ∉ first) :
    recordsPut (first ++ later) t l = recordsPut later t (recordsPut first t l) := by
  simp only [recordsPut_eq]
  refine putKeyed_append _ _ _ ?_ ?_ first later l apart
  · exact fun _ => rfl
  · exact fun _ => rfl

theorem queueSet_field (c : Chan) (t : State) (s : State) (v : Nat) (driven : t.channels[c].driven.getD 0 = v) :
    (queueSet c v s).field = { s.field with sendList := recordsPut [c] t s.field.sendList } := by
  subst driven
  rw [recordsPut_eq, putKeyed_one, queueSet]
  dsimp only
  congr 2
  refine List.map_congr_left fun r _ => ?_
  by_cases own : (r.channel == c) = true
  · rw [if_pos own, if_pos own, ← beq_iff_eq.mp own]
  · rw [if_neg own, if_neg own]

/-! ### Full grants -/

/-- Each of these entries is granted in full. -/
def grantAll (l : List AdmissionEntry) (s : State) : State := l.foldl (fun s e => applyGrant e.channel e.wanted s) s

/-- Credit reaches for each of these entries in turn, and for all that it wants. -/
def affordAll : List AdmissionEntry → State → Prop
  | [], _ => True
  | e :: l, s => affordable s e.channel = true ∧ grantSize s e.channel e.wanted = e.wanted ∧
      affordAll l (applyGrant e.channel e.wanted s)

theorem chargeFor_eq (s : State) (c : Chan) (g : Nat) :
    chargeFor s c g = startCharge s c + s.cfg.channels[c].weight * g := rfl

theorem affordable_iff (s : State) (c : Chan) :
    affordable s c = true ↔ chargeFor s c 0 + max s.cfg.channels[c].weight 1 ≤ s.admission.credit :=
  decide_eq_true_iff

/-- What a grant charges lies within credit. -/
theorem chargeFor_le (s : State) (c : Chan) (w : Nat) (can : affordable s c = true) :
    chargeFor s c (grantSize s c w) ≤ s.admission.credit := by
  have afford := (affordable_iff s c).mp can
  rw [chargeFor_eq, Nat.mul_zero, Nat.add_zero] at afford
  rw [chargeFor_eq, grantSize]
  split
  next free => rw [free, Nat.zero_mul]; omega
  next =>
    have part := Nat.mul_le_mul_left s.cfg.channels[c].weight
      (Nat.min_le_right w ((s.admission.credit - startCharge s c) / s.cfg.channels[c].weight))
    have within := Nat.mul_div_le (s.admission.credit - startCharge s c) s.cfg.channels[c].weight
    omega

theorem applyGrant_cfg (c : Chan) (g : Nat) (s : State) : (applyGrant c g s).cfg = s.cfg := (applyGrant_plant c g s).cfg

theorem applyGrant_now (c : Chan) (g : Nat) (s : State) : (applyGrant c g s).now = s.now := by
  simp [applyGrant]

theorem applyGrant_other (c d : Chan) (g : Nat) (s : State) (other : d ≠ c) :
    (applyGrant c g s).channels[d] = s.channels[d] := (applyGrant_get c d g s).trans (if_neg other)

theorem applyGrant_own (c : Chan) (g : Nat) (s : State) :
    (applyGrant c g s).channels[c].driven = some (s.channels[c].driven.getD 0 + g) ∧
    (applyGrant c g s).channels[c].startConfirm = confirmAfterGrant s c := by
  rw [(applyGrant_get c c g s).trans (if_pos rfl)]
  exact ⟨rfl, rfl⟩

theorem applyGrant_admission (c : Chan) (g : Nat) (s : State) :
    (applyGrant c g s).admission = { s.admission with credit := s.admission.credit - chargeFor s c g } := by
  simp only [applyGrant, queueSet_admission]
  rfl

theorem applyGrant_field (c : Chan) (g : Nat) (s t : State)
    (driven : t.channels[c].driven.getD 0 = s.channels[c].driven.getD 0 + g) :
    (applyGrant c g s).field = { s.field with sendList := recordsPut [c] t s.field.sendList } := by
  unfold applyGrant
  exact queueSet_field c t _ _ driven

theorem chargeFor_congr {s t : State} (c : Chan) (cfg : t.cfg = s.cfg) (same : t.channels[c] = s.channels[c])
    (g : Nat) :
    chargeFor t c g = chargeFor s c g := by
  simp only [chargeFor, cfg, same]

theorem chargeInFull_cons (s : State) (e : AdmissionEntry) (l : List AdmissionEntry) :
    chargeInFull s (e :: l) = chargeFor s e.channel e.wanted + chargeInFull s l := List.sum_cons

theorem chargeInFull_congr {s t : State} (cfg : t.cfg = s.cfg) (l : List AdmissionEntry)
    (same : ∀ e ∈ l, t.channels[e.channel] = s.channels[e.channel]) : chargeInFull t l = chargeInFull s l :=
  congrArg List.sum (List.map_congr_left fun e mem => chargeFor_congr e.channel cfg (same e mem) e.wanted)

/-- What a run of full grants to different channels brings. -/
structure GrantedAll (l : List AdmissionEntry) (s t : State) : Prop where
  cfg : t.cfg = s.cfg
  now : t.now = s.now
  others : ∀ c : Chan, c ∉ l.map (·.channel) → t.channels[c] = s.channels[c]
  grants : ∀ e ∈ l, t.channels[e.channel].driven = some (s.channels[e.channel].driven.getD 0 + e.wanted) ∧
    t.channels[e.channel].startConfirm = confirmAfterGrant s e.channel
  credit : t.admission.credit + chargeInFull s l = s.admission.credit
  within : ∀ (i : Nat) (e : AdmissionEntry), l[i]? = some e →
    chargeFor s e.channel 0 + max s.cfg.channels[e.channel].weight 1 + chargeInFull s (l.take i) ≤ s.admission.credit
  field : t.field = { s.field with sendList := recordsPut (l.map (·.channel)) t s.field.sendList }

theorem grantAll_granted : ∀ (l : List AdmissionEntry) (s : State), (l.map (·.channel)).Nodup → affordAll l s →
    GrantedAll l s (grantAll l s)
  | [], s, _, _ => ⟨rfl, rfl, fun _ _ => rfl, nofun, rfl, nofun, by
      show s.field = { s.field with sendList := recordsPut [] s s.field.sendList }
      rw [recordsPut_nil]⟩
  | e :: l, s, distinct, ⟨can, full, more⟩ => by
    obtain ⟨fresh, distinct⟩ := List.nodup_cons.mp distinct
    have rest := grantAll_granted l (applyGrant e.channel e.wanted s) distinct more
    have cfg := applyGrant_cfg e.channel e.wanted s
    have apart : ∀ x ∈ l, x.channel ≠ e.channel := fun x mem same => by
      have own : x.channel ∈ l.map (·.channel) := List.mem_map_of_mem mem
      rw [same] at own
      exact fresh own
    have same : ∀ x ∈ l, (applyGrant e.channel e.wanted s).channels[x.channel] = s.channels[x.channel] :=
      fun x mem => applyGrant_other _ _ _ s (apart x mem)
    have charged : (applyGrant e.channel e.wanted s).admission.credit + chargeFor s e.channel e.wanted =
        s.admission.credit := by
      have within := chargeFor_le s e.channel e.wanted can
      rw [full] at within
      rw [applyGrant_admission]
      exact Nat.sub_add_cancel within
    have head : (grantAll l (applyGrant e.channel e.wanted s)).channels[e.channel] =
        (applyGrant e.channel e.wanted s).channels[e.channel] := rest.others e.channel fresh
    show GrantedAll (e :: l) s (grantAll l (applyGrant e.channel e.wanted s))
    generalize grantAll l (applyGrant e.channel e.wanted s) = t at rest head ⊢
    refine ⟨rest.cfg.trans cfg, rest.now.trans (applyGrant_now _ _ s), fun c out => ?_, fun x mem => ?_, ?_,
      fun i x found => ?_, ?_⟩
    · obtain ⟨other, out⟩ := not_or.mp (mt List.mem_cons.mpr out)
      exact (rest.others c out).trans (applyGrant_other _ _ _ s other)
    · rcases List.mem_cons.mp mem with rfl | mem
      · rw [head]
        exact applyGrant_own _ _ s
      · obtain ⟨driven, confirm⟩ := rest.grants x mem
        rw [confirmAfterGrant, applyGrant_now, same x mem] at confirm
        rw [same x mem] at driven
        exact ⟨driven, confirm⟩
    · have credit := rest.credit
      rw [chargeInFull_congr cfg l same] at credit
      rw [chargeInFull_cons]
      omega
    · cases i with
      | zero =>
        cases found
        exact (affordable_iff s e.channel).mp can
      | succ i =>
        have at_ : l[i]? = some x := found
        have within := rest.within i x at_
        rw [chargeFor_congr x.channel cfg (same x (List.mem_of_getElem? at_)), cfg,
          chargeInFull_congr cfg (l.take i) fun y mem => same y (List.mem_of_mem_take mem)] at within
        rw [List.take_succ_cons, chargeInFull_cons]
        omega
    · have put : t.channels[e.channel].driven.getD 0 = s.channels[e.channel].driven.getD 0 + e.wanted := by
        rw [head, (applyGrant_own e.channel e.wanted s).1]
        rfl
      rw [rest.field, applyGrant_field e.channel e.wanted s t put]
      refine congrArg (fun r => { s.field with sendList := r }) ?_
      refine (recordsPut_append [e.channel] (l.map (·.channel)) t s.field.sendList fun c mem own => ?_).symm
      rw [List.mem_singleton.mp own] at mem
      exact fresh mem

/-! ### The end of a serving -/

/-- How a serving ends after a run of full grants: with an empty queue, at a blocked head, or with a partial
grant. -/
theorem serveQueue_runs : ∀ (q : List AdmissionEntry) (s : State), ∃ granted left : List AdmissionEntry,
    q = granted ++ left ∧ affordAll granted s ∧
    ((left = [] ∧ serveQueue q s = setQueue [] (grantAll granted s)) ∨
     (∃ e rest, left = e :: rest ∧ affordable (grantAll granted s) e.channel = false ∧
        serveQueue q s = setQueue left (grantAll granted s)) ∨
     (∃ e rest g, left = e :: rest ∧ affordable (grantAll granted s) e.channel = true ∧
        g = grantSize (grantAll granted s) e.channel e.wanted ∧ g ≠ e.wanted ∧
        serveQueue q s = count .partialGrants (setQueue
          ({ e with
              wanted := e.wanted - g
              reported := false
              starvation := some ((applyGrant e.channel g (grantAll granted s)).now + Config.starvationTime) } :: rest)
          (applyGrant e.channel g (grantAll granted s)))))
  | [], s => ⟨[], [], rfl, trivial, .inl ⟨rfl, rfl⟩⟩
  | e :: rest, s => by
    cases can : affordable s e.channel with
    | false =>
      refine ⟨[], e :: rest, rfl, trivial, .inr (.inl ⟨e, rest, rfl, can, ?_⟩)⟩
      rw [serveQueue, if_neg (by rw [can]; exact Bool.false_ne_true)]
      rfl
    | true =>
      by_cases full : grantSize s e.channel e.wanted = e.wanted
      · obtain ⟨granted, left, parts, afford, done⟩ := serveQueue_runs rest (applyGrant e.channel e.wanted s)
        have next : serveQueue (e :: rest) s = serveQueue rest (applyGrant e.channel e.wanted s) := by
          rw [serveQueue, if_pos can]
          dsimp only
          rw [if_pos full, full]
        exact ⟨e :: granted, left, by rw [parts]; rfl, ⟨can, full, afford⟩, by rw [next]; exact done⟩
      · refine ⟨[], e :: rest, rfl, trivial, .inr (.inr ⟨e, rest, _, rfl, can, rfl, full, ?_⟩)⟩
        rw [serveQueue, if_pos can]
        exact if_neg full

/-- A partial grant is all that the credit left affords, and at least 1 pm. -/
theorem partialGrant (s : State) (c : Chan) (w : Nat) (can : affordable s c = true) (pos : 1 ≤ w)
    (part : grantSize s c w ≠ w) :
    1 ≤ grantSize s c w ∧ grantSize s c w < w ∧
      grantSize s c w = (s.admission.credit - chargeFor s c 0) / s.cfg.channels[c].weight := by
  have afford := (affordable_iff s c).mp can
  rw [chargeFor_eq, Nat.mul_zero, Nat.add_zero] at afford ⊢
  unfold grantSize at part ⊢
  split at part
  next => exact absurd rfl part
  next weighs =>
    rw [if_neg weighs]
    have one : 1 ≤ (s.admission.credit - startCharge s c) / s.cfg.channels[c].weight :=
      (Nat.one_le_div_iff (Nat.pos_of_ne_zero weighs)).mpr (by omega)
    omega

/-- Settles O45: by the run of full grants (`grantAll_granted`) and the three ends of `serveQueue_runs`. -/
theorem servingIsHeadFirst : Obligations.ServingIsHeadFirst := by
  intro s distinct wants
  obtain ⟨granted, left, parts, afford, done⟩ := serveQueue_runs s.admission.queue s
  have apart := distinct
  rw [parts, List.map_append] at apart
  obtain ⟨distinctG, distinctL, disjoint⟩ := List.nodup_append.mp apart
  have run := grantAll_granted granted s distinctG afford
  have leftOut : ∀ x ∈ left, x.channel ∉ granted.map (·.channel) := fun x mem own =>
    disjoint x.channel own x.channel (List.mem_map_of_mem mem) rfl
  have grantedOut : ∀ c : Chan, (∀ e ∈ s.admission.queue, e.channel ≠ c) → c ∉ granted.map (·.channel) :=
    fun c out mem => by
      obtain ⟨e, own, same⟩ := List.mem_map.mp mem
      exact out e (by rw [parts]; exact List.mem_append_left left own) same
  refine ⟨granted, left, parts, ?_⟩
  show _ ∧ _ ∧ _
  unfold serve
  generalize grantAll granted s = t at run done
  rcases done with ⟨none, served⟩ | ⟨e, rest, left_, blocked, served⟩ | ⟨e, rest, g, left_, can, g_, part, served⟩
  · rw [served]
    exact ⟨fun i e found => ⟨run.within i e found, run.grants e (List.mem_of_getElem? found)⟩,
      fun c out => run.others c (grantedOut c out), .inl ⟨none, rfl, run.field, run.credit⟩⟩
  · rw [served]
    refine ⟨fun i e found => ⟨run.within i e found, run.grants e (List.mem_of_getElem? found)⟩,
      fun c out => run.others c (grantedOut c out), .inr (.inl ⟨e, rest, left_, rfl, run.field, run.credit, ?_,
        fun x mem => run.others x.channel (leftOut x mem)⟩)⟩
    have short := mt (affordable_iff t e.channel).mpr (Bool.eq_false_iff.mp blocked)
    have own : e ∈ left := by rw [left_]; exact List.mem_cons_self
    rw [chargeFor_congr e.channel run.cfg (run.others e.channel (leftOut e own)), run.cfg] at short
    exact Nat.lt_of_not_le short
  · have own : e ∈ left := by rw [left_]; exact List.mem_cons_self
    have kept := run.others e.channel (leftOut e own)
    have inQueue : e ∈ s.admission.queue := by rw [parts]; exact List.mem_append_right granted own
    obtain ⟨pos, less, all⟩ := partialGrant t e.channel e.wanted can (wants e inQueue) (by rw [← g_]; exact part)
    have charge := chargeFor_le t e.channel e.wanted can
    rw [← g_] at pos less all charge
    rw [chargeFor_congr e.channel run.cfg kept] at all charge
    have credit := run.credit
    have granted_ := applyGrant_own e.channel g t
    rw [confirmAfterGrant, kept, run.now] at granted_
    have channels : (serveQueue s.admission.queue s).channels = (applyGrant e.channel g t).channels := by
      rw [served, count_eq]
      rfl
    have grants : ∀ x ∈ granted, (applyGrant e.channel g t).channels[x.channel] = t.channels[x.channel] :=
      fun x mem => applyGrant_other _ _ _ t fun same => leftOut e own (by
        rw [← same]
        exact List.mem_map_of_mem mem)
    rw [left_, List.map_cons] at distinctL
    obtain ⟨fresh, -⟩ := List.nodup_cons.mp distinctL
    have restSame : ∀ x ∈ rest, (applyGrant e.channel g t).channels[x.channel] = s.channels[x.channel] :=
      fun x mem => by
        have other : x.channel ≠ e.channel := fun same => fresh (by
          rw [← same]
          exact List.mem_map_of_mem mem)
        exact (applyGrant_other _ _ _ t other).trans
          (run.others x.channel (leftOut x (by rw [left_]; exact List.mem_cons_of_mem e mem)))
    refine ⟨fun i x found => ⟨run.within i x found, ?_⟩, fun c out => ?_, .inr (.inr ⟨e, rest, g, left_, pos, less, ?_,
      ?_, ?_, ?_, ?_, ?_, fun x mem => ?_⟩)⟩
    · have mem := List.mem_of_getElem? found
      rw [channels, grants x mem]
      exact run.grants x mem
    · rw [channels, applyGrant_other _ _ _ t fun same => out e inQueue same.symm]
      exact run.others c (grantedOut c out)
    · rw [all, run.cfg]
      congr 1
      omega
    · rw [served, count_eq]
      show (applyGrant e.channel g t).admission.credit + _ + _ = _
      rw [applyGrant_admission, chargeFor_congr e.channel run.cfg kept]
      show t.admission.credit - _ + _ + _ = _
      omega
    · rw [channels]
      exact granted_.1
    · rw [channels]
      exact granted_.2
    · have field : (serveQueue s.admission.queue s).field = (applyGrant e.channel g t).field := by
        rw [served, count_eq]
        rfl
      have value : (serveQueue s.admission.queue s).channels[e.channel].driven.getD 0 =
          t.channels[e.channel].driven.getD 0 + g := by
        rw [channels, (applyGrant_own e.channel g t).1]
        rfl
      have before : recordsPut (granted.map (·.channel)) t s.field.sendList =
          recordsPut (granted.map (·.channel)) (serveQueue s.admission.queue s) s.field.sendList :=
        recordsPut_congr (fun c mem => by
          obtain ⟨x, own_, rfl⟩ := List.mem_map.mp mem
          rw [channels, grants x own_]) _
      rw [field, applyGrant_field e.channel g t _ value, run.field, List.map_append, before]
      refine congrArg (fun r => { s.field with sendList := r }) ?_
      refine (recordsPut_append (granted.map (·.channel)) [e.channel] _ s.field.sendList fun c mem => ?_).symm
      rw [List.mem_singleton.mp mem]
      exact leftOut e own
    · rw [served, count_eq]
      show _ :: rest = _
      rw [applyGrant_now, run.now]
      rfl
    · rw [channels]
      exact restSame x mem

end Sys2Proof.Proofs
end


section
/-! SUPPORT. The step expiry (R8, R9): the falls in ascending channel order, then the requests, then one serving. -/

namespace Sys2Proof.Proofs
open Sys2Proof.Machine Sys2Proof.Safety Sys2Proof.Laws

theorem allChannels_nodup : allChannels.Nodup := List.nodup_finRange 48

theorem mem_allChannels (c : Chan) : c ∈ allChannels := List.mem_finRange c

/-! ### One fall -/

theorem mem_fallers (s : State) (c : Chan) :
    c ∈ fallers s ↔ ∃ d g, s.channels[c].adopted = true ∧ s.channels[c].driven = some d ∧
      s.channels[c].target = some g ∧ g < d := by
  rw [fallers, List.mem_filter, and_iff_right (mem_allChannels c), Bool.and_eq_true]
  split
  next d g driven target =>
    refine ⟨fun ⟨adopted, low⟩ => ⟨d, g, adopted, driven, target, of_decide_eq_true low⟩, ?_⟩
    rintro ⟨d', g', adopted, driven', target', low⟩
    cases driven.symm.trans driven'
    cases target.symm.trans target'
    exact ⟨adopted, decide_eq_true low⟩
  next absent =>
    exact ⟨fun both => (nomatch both.2), fun ⟨d, g, _, driven, target, _⟩ => absurd target (absent d g driven)⟩

/-- The driven value that a channel above its target falls to. -/
def fallenTo (s : State) (c : Chan) : Nat :=
  max (s.channels[c].target.getD 0) (s.channels[c].driven.getD 0 - stepSize s.cfg.channels[c])

/-- A channel's record after the falls of a step expiry (R8). -/
def fallenRun (s : State) (c : Chan) : ChannelRun :=
  if c ∈ fallers s then
    { s.channels[c] with
      driven := some (fallenTo s c)
      startConfirm := if fallenTo s c = 0 then none else s.channels[c].startConfirm }
  else s.channels[c]

theorem fall_faller (c : Chan) (s : State) (mem : c ∈ fallers s) :
    fall c s = queueSet c (fallenTo s c) (updChannel c (fun ch =>
      { ch with driven := some (fallenTo s c)
                startConfirm := if fallenTo s c = 0 then none else ch.startConfirm }) s) := by
  obtain ⟨d, g, adopted, driven, target, low⟩ := (mem_fallers s c).mp mem
  simp only [fall, adopted, driven, target, if_pos low, fallenTo, Option.getD_some]

theorem fall_other (c : Chan) (s : State) (out : c ∉ fallers s) : fall c s = s := by
  unfold fall
  dsimp only
  split
  next d g adopted driven target =>
    exact if_neg fun low => out ((mem_fallers s c).mpr ⟨d, g, adopted, driven, target, low⟩)
  next => rfl

theorem fall_get (c d : Chan) (s : State) :
    (fall c s).channels[d] = if d = c then fallenRun s c else s.channels[d] := by
  by_cases mem : c ∈ fallers s
  · rw [fall_faller c s mem, queueSet_channels, updChannel_get, fallenRun, if_pos mem]
    by_cases own : d = c
    · subst own
      exact (if_pos rfl).trans (if_pos rfl).symm
    · rw [if_neg own, if_neg own]
  · rw [fall_other c s mem, fallenRun, if_neg mem]
    by_cases own : d = c
    · rw [if_pos own, own]
    · rw [if_neg own]

theorem fall_field (c : Chan) (s t : State) (driven : t.channels[c].driven = (fallenRun s c).driven) :
    (fall c s).field =
      { s.field with sendList := recordsPut (if c ∈ fallers s then [c] else []) t s.field.sendList } := by
  by_cases mem : c ∈ fallers s
  · rw [fall_faller c s mem, if_pos mem]
    refine queueSet_field c t _ (fallenTo s c) ?_
    rw [driven, fallenRun, if_pos mem]
    rfl
  · rw [fall_other c s mem, if_neg mem, recordsPut_nil]

theorem fall_frame (c : Chan) (s : State) : ∃ channels field, fall c s = { s with channels, field } := by
  by_cases mem : c ∈ fallers s
  · rw [fall_faller c s mem]
    exact ⟨_, _, rfl⟩
  · rw [fall_other c s mem]
    exact ⟨s.channels, s.field, rfl⟩

/-! ### All the falls -/

theorem fallers_congr {s t : State} {c : Chan} (same : t.channels[c] = s.channels[c]) :
    c ∈ fallers t ↔ c ∈ fallers s := by
  rw [mem_fallers, mem_fallers, same]

theorem fallenRun_congr {s t : State} {c : Chan} (cfg : t.cfg = s.cfg) (same : t.channels[c] = s.channels[c]) :
    fallenRun t c = fallenRun s c := by
  unfold fallenRun fallenTo
  rw [same, cfg]
  by_cases mem : c ∈ fallers s
  · rw [if_pos mem, if_pos ((fallers_congr same).mpr mem)]
  · rw [if_neg mem, if_neg (mt (fallers_congr same).mp mem)]

/-- What the falls of some channels bring. -/
structure Fallen (l : List Chan) (s t : State) : Prop where
  frame : ∃ channels field, t = { s with channels, field }
  get : ∀ c : Chan, t.channels[c] = if c ∈ l then fallenRun s c else s.channels[c]
  field : t.field = { s.field with sendList := recordsPut (l.filter (· ∈ fallers s)) t s.field.sendList }

theorem falls_fallen : ∀ (l : List Chan) (s : State), l.Nodup → Fallen l s (l.foldl (fun s c => fall c s) s)
  | [], s, _ => ⟨⟨s.channels, s.field, rfl⟩, fun _ => rfl, by
      show s.field = { s.field with sendList := recordsPut [] s s.field.sendList }
      rw [recordsPut_nil]⟩
  | c :: l, s, distinct => by
    obtain ⟨fresh, distinct⟩ := List.nodup_cons.mp distinct
    have rest := falls_fallen l (fall c s) distinct
    rw [List.foldl_cons]
    generalize l.foldl (fun s c => fall c s) (fall c s) = t at rest ⊢
    obtain ⟨channels, field, one⟩ := fall_frame c s
    have cfg : (fall c s).cfg = s.cfg := by rw [one]
    have same : ∀ d ∈ l, (fall c s).channels[d] = s.channels[d] := fun d mem =>
      (fall_get c d s).trans (if_neg fun (own : d = c) => fresh (by rw [← own]; exact mem))
    have own : t.channels[c] = fallenRun s c :=
      (rest.get c).trans ((if_neg fresh).trans ((fall_get c c s).trans (if_pos rfl)))
    refine ⟨?_, fun d => ?_, ?_⟩
    · obtain ⟨channels', field', more⟩ := rest.frame
      exact ⟨channels', field', by rw [more, one]⟩
    · by_cases head : d = c
      · subst head
        rw [own, if_pos List.mem_cons_self]
      · rw [rest.get d]
        by_cases mem : d ∈ l
        · rw [if_pos mem, if_pos (List.mem_cons_of_mem c mem), fallenRun_congr cfg (same d mem)]
        · rw [if_neg mem, if_neg fun both => (List.mem_cons.mp both).elim head mem, fall_get, if_neg head]
    · have later : l.filter (· ∈ fallers (fall c s)) = l.filter (· ∈ fallers s) :=
        List.filter_congr fun d mem => by simp only [fallers_congr (same d mem)]
      have parts : (c :: l).filter (· ∈ fallers s) =
          (if c ∈ fallers s then [c] else []) ++ l.filter (· ∈ fallers s) := by
        by_cases mem : c ∈ fallers s <;> simp [mem]
      rw [rest.field, later, fall_field c s t (by rw [own]), parts]
      refine congrArg (fun r => { s.field with sendList := r }) (recordsPut_append _ _ t _ fun d mem put => ?_).symm
      have head : d = c := by
        split at put
        · exact List.mem_singleton.mp put
        · cases put
      exact fresh (head ▸ List.mem_of_mem_filter mem)

theorem fallAll_fallen (s : State) : Fallen allChannels s (fallAll s) := falls_fallen allChannels s allChannels_nodup

theorem fallAll_get (s : State) (c : Chan) : (fallAll s).channels[c] = fallenRun s c :=
  ((fallAll_fallen s).get c).trans (if_pos (mem_allChannels c))

theorem fallAll_field (s : State) :
    (fallAll s).field = { s.field with sendList := recordsPut (fallers s) (fallAll s) s.field.sendList } := by
  have all : allChannels.filter (· ∈ fallers s) = fallers s := by
    conv_rhs => rw [fallers]
    refine List.filter_congr fun c mem => ?_
    rw [fallers]
    simp only [List.mem_filter, mem, true_and, Bool.decide_eq_true]
  have field := (fallAll_fallen s).field
  rw [all] at field
  exact field

theorem fallenRun_target (s : State) (c : Chan) : (fallenRun s c).target = s.channels[c].target := by
  unfold fallenRun
  split <;> rfl

theorem fallenRun_adopted (s : State) (c : Chan) :
    (fallenRun s c).adopted = s.channels[c].adopted ∧ (fallenRun s c).driveFault = s.channels[c].driveFault := by
  unfold fallenRun
  split <;> exact ⟨rfl, rfl⟩

/-- A fall raises no driven value. -/
theorem fallenRun_le (s : State) (c : Chan) (d : Nat) (driven : s.channels[c].driven = some d) :
    ∃ d', (fallenRun s c).driven = some d' ∧ d' ≤ d := by
  unfold fallenRun
  split
  next mem =>
    obtain ⟨d', g, -, driven', target, low⟩ := (mem_fallers s c).mp mem
    cases driven.symm.trans driven'
    refine ⟨_, rfl, ?_⟩
    rw [fallenTo, driven, target, Option.getD_some, Option.getD_some]
    omega
  next => exact ⟨d, driven, Nat.le_refl d⟩

/-! ### The requests -/

theorem mem_risers (s : State) (c : Chan) :
    c ∈ risers s ↔ ∃ d g, s.channels[c].adopted = true ∧ s.channels[c].driveFault = false ∧
      s.channels[c].driven = some d ∧ s.channels[c].target = some g ∧ d < g := by
  rw [risers, List.mem_filter, and_iff_right (mem_allChannels c), Bool.and_eq_true, Bool.and_eq_true,
    Bool.not_eq_true']
  split
  next d g driven target =>
    refine ⟨fun ⟨⟨adopted, sound⟩, low⟩ => ⟨d, g, adopted, sound, driven, target, of_decide_eq_true low⟩, ?_⟩
    rintro ⟨d', g', adopted, sound, driven', target', low⟩
    cases driven.symm.trans driven'
    cases target.symm.trans target'
    exact ⟨⟨adopted, sound⟩, decide_eq_true low⟩
  next absent =>
    exact ⟨fun both => (nomatch both.2), fun ⟨d, g, _, _, driven, target, _⟩ => absurd target (absent d g driven)⟩

theorem riseWanted_riser {s : State} {c : Chan} (mem : c ∈ risers s) : riseWanted s c = some (stepRise s c) := by
  obtain ⟨d, g, adopted, sound, driven, target, low⟩ := (mem_risers s c).mp mem
  simp only [riseWanted, adopted, sound, driven, target, Bool.not_false, Bool.and_self, if_pos low, stepRise,
    Option.getD_some]

theorem riseWanted_isSome (s : State) (c : Chan) : (riseWanted s c).isSome = true ↔ c ∈ risers s := by
  refine ⟨fun some_ => ?_, fun mem => by rw [riseWanted_riser mem]; rfl⟩
  obtain ⟨w, wants⟩ := Option.isSome_iff_exists.mp some_
  obtain ⟨d, g, adopted, sound, driven, target, low, -⟩ := riseWanted_some wants
  exact (mem_risers s c).mpr ⟨d, g, adopted, sound, driven, target, low⟩

theorem wanting_eq_risers (s : State) : (allChannels.filter fun c => (riseWanted s c).isSome) = risers s := by
  conv_rhs => rw [risers]
  refine List.filter_congr fun c mem => Bool.eq_iff_iff.mpr ?_
  rw [riseWanted_isSome, risers, List.mem_filter, and_iff_right mem]

/-- The entry that a channel's first request makes (R32). -/
def requestEntry (w : Chan → Nat) (now : Nat) (c : Chan) : AdmissionEntry :=
  { channel := c, wanted := w c, joined := now, reported := false, starvation := some (now + Config.starvationTime) }

/-- The queue into which these channels, in this order, have put their requests. -/
def requestsPut (w : Chan → Nat) (now : Nat) (l : List Chan) (q : List AdmissionEntry) : List AdmissionEntry :=
  putKeyed (·.channel) (fun e => { e with wanted := w e.channel }) (requestEntry w now) l q

theorem requestsPut_append (w : Chan → Nat) (now : Nat) (first later : List Chan) (q : List AdmissionEntry)
    (apart : ∀ c ∈ later, c ∉ first) :
    requestsPut w now (first ++ later) q = requestsPut w now later (requestsPut w now first q) := by
  refine putKeyed_append _ _ _ ?_ ?_ first later q apart
  · exact fun _ => rfl
  · exact fun _ => rfl

theorem putRequest_eq (c : Chan) (w : Chan → Nat) (s : State) :
    putRequest c (w c) s = setQueue (requestsPut w s.now [c] s.admission.queue) s := by
  rw [requestsPut, putKeyed_one, putRequest, entryOf, List.isSome_find?, overwriteWanted]
  split
  · refine congrArg (fun q => setQueue q s) (List.map_congr_left fun e _ => ?_)
    by_cases own : (e.channel == c) = true
    · rw [if_pos own, if_pos own, beq_iff_eq.mp own]
    · rw [if_neg own, if_neg own]
  · rfl

theorem putRequests_eq : ∀ (l : List Chan) (w : Chan → Nat) (s : State), l.Nodup →
    l.foldl (fun t c => putRequest c (w c) t) s = setQueue (requestsPut w s.now l s.admission.queue) s
  | [], w, s, _ => by
    rw [requestsPut, putKeyed_nil]
    rfl
  | c :: l, w, s, distinct => by
    obtain ⟨fresh, distinct⟩ := List.nodup_cons.mp distinct
    have apart : ∀ d ∈ l, d ∉ [c] := fun d mem own => fresh (List.mem_singleton.mp own ▸ mem)
    rw [List.foldl_cons, putRequests_eq l w _ distinct, putRequest_eq,
      show c :: l = [c] ++ l from rfl, requestsPut_append w s.now [c] l _ apart]
    rfl

theorem risers_nodup (s : State) : (risers s).Nodup := allChannels_nodup.sublist List.filter_sublist

/-- The requests of a step expiry, ahead of the serving. -/
def requested (s : State) : State :=
  setQueue (requestsPut (stepRise s) s.now (risers s) s.admission.queue) s

theorem requestAll_eq (s : State) :
    requestAll s = if (risers s).isEmpty then requested s else serve (requested s) := by
  have puts : (risers s).foldl (fun t c => putRequest c ((riseWanted s c).getD 0) t) s = requested s := by
    rw [requested, ← putRequests_eq (risers s) (stepRise s) s (risers_nodup s)]
    exact List.foldl_ext _ _ s fun t c mem => by rw [riseWanted_riser mem, Option.getD_some]
  unfold requestAll
  dsimp only
  rw [wanting_eq_risers, puts]

/-! ### The step expiry -/

theorem requestsPut_congr {w v : Chan → Nat} {l : List Chan} (same : ∀ c ∈ l, w c = v c) (now : Nat)
    (q : List AdmissionEntry) : requestsPut w now l q = requestsPut v now l q := by
  unfold requestsPut putKeyed
  congr 1
  · refine List.map_congr_left fun e _ => ?_
    split
    next mem => simp only [same e.channel mem]
    next => rfl
  · exact List.map_congr_left fun c mem => by rw [requestEntry, requestEntry, same c (List.mem_of_mem_filter mem)]

/-- A channel that is to rise does not fall. -/
theorem fallenRun_riser {s : State} {c : Chan} (mem : c ∈ risers s) : fallenRun s c = s.channels[c] := by
  obtain ⟨d, g, -, -, driven, target, low⟩ := (mem_risers s c).mp mem
  refine if_neg fun falls => ?_
  obtain ⟨d', g', -, driven', target', high⟩ := (mem_fallers s c).mp falls
  cases driven.symm.trans driven'
  cases target.symm.trans target'
  omega

/-- The falls leave the channels that are to rise. -/
theorem risers_fallAll (s : State) : risers (fallAll s) = risers s := by
  rw [← wanting_eq_risers, ← wanting_eq_risers]
  refine List.filter_congr fun c _ => Bool.eq_iff_iff.mpr ?_
  rw [riseWanted_isSome, riseWanted_isSome, mem_risers, fallAll_get, fallenRun_target,
    (fallenRun_adopted s c).1, (fallenRun_adopted s c).2]
  constructor
  · rintro ⟨d, g, adopted, sound, driven, target, low⟩
    by_cases falls : c ∈ fallers s
    · rw [fallenRun, if_pos falls] at driven
      have to_ : fallenTo s c = d := Option.some.inj driven
      rw [fallenTo, target, Option.getD_some] at to_
      omega
    · rw [fallenRun, if_neg falls] at driven
      exact (mem_risers s c).mpr ⟨d, g, adopted, sound, driven, target, low⟩
  · intro mem
    rw [fallenRun_riser mem]
    exact (mem_risers s c).mp mem

theorem stepRise_congr {s t : State} {c : Chan} (cfg : t.cfg = s.cfg) (same : t.channels[c] = s.channels[c]) :
    stepRise t c = stepRise s c := by
  rw [stepRise, stepRise, cfg, same]

/-- One serving raises a channel by no more than its entry wants. -/
theorem serve_rise_le (s : State) (distinct : (s.admission.queue.map (·.channel)).Nodup)
    (wants : ∀ e ∈ s.admission.queue, 1 ≤ e.wanted) (c : Chan) :
    (serve s).channels[c] = s.channels[c] ∨ ∃ e ∈ s.admission.queue, e.channel = c ∧
      ∃ g ≤ e.wanted, (serve s).channels[c].driven = some (s.channels[c].driven.getD 0 + g) := by
  obtain ⟨granted, left, parts, full, others, done⟩ := servingIsHeadFirst s distinct wants
  by_cases waits : ∃ e ∈ s.admission.queue, e.channel = c
  · obtain ⟨e, mem, rfl⟩ := waits
    rw [parts] at mem
    rcases List.mem_append.mp mem with mem | mem
    · obtain ⟨i, found⟩ := List.mem_iff_getElem?.mp mem
      exact .inr ⟨e, by rw [parts]; exact List.mem_append_left left mem, rfl, e.wanted, Nat.le_refl _,
        (full i e found).2.1⟩
    · rcases done with ⟨none, -⟩ | ⟨_, _, -, -, -, -, -, same⟩ |
        ⟨x, rest, g, left_, -, less, -, -, driven, -, -, -, same⟩
      · rw [none] at mem
        cases mem
      · exact .inl (same e mem)
      · rw [left_] at mem
        rcases List.mem_cons.mp mem with rfl | mem
        · exact .inr ⟨e, by rw [parts, left_]; exact List.mem_append_right granted List.mem_cons_self, rfl, g, less.le,
            driven⟩
        · exact .inl (same e mem)
  · exact .inl (others c fun e mem own => waits ⟨e, mem, own⟩)

theorem requestsPut_nodup (w : Chan → Nat) (now : Nat) {l : List Chan} {q : List AdmissionEntry} (distinct : l.Nodup)
    (queue : (q.map (·.channel)).Nodup) : ((requestsPut w now l q).map (·.channel)).Nodup := by
  have changed : (q.map fun e => if e.channel ∈ l then { e with wanted := w e.channel } else e).map (·.channel) =
      q.map (·.channel) := by
    rw [List.map_map]
    refine List.map_congr_left fun e _ => ?_
    dsimp only [Function.comp]
    split <;> rfl
  have joined : ((l.filter fun c => q.all (·.channel != c)).map (requestEntry w now)).map (·.channel) =
      l.filter fun c => q.all (·.channel != c) := by
    rw [List.map_map]
    exact List.map_id _
  rw [requestsPut, putKeyed, List.map_append, changed, joined]
  refine List.nodup_append.mpr ⟨queue, distinct.sublist List.filter_sublist, fun c mem d put same => ?_⟩
  obtain ⟨e, waits, rfl⟩ := List.mem_map.mp mem
  exact absurd (List.all_eq_true.mp (List.mem_filter.mp put).2 e waits) (by rw [same]; simp)

/-- With no entry of a drive-faulted channel waiting, every entry wants one step size at most. -/
theorem requestsPut_wanted (s : State) (now : Nat) (lawful : ∀ e ∈ s.admission.queue, entryLawful s e)
    (sound : ∀ e ∈ s.admission.queue, s.channels[e.channel].driveFault = false) :
    ∀ e ∈ requestsPut (stepRise s) now (risers s) s.admission.queue,
      1 ≤ e.wanted ∧ e.wanted ≤ stepSize s.cfg.channels[e.channel] := by
  have size : ∀ c ∈ risers s, 1 ≤ stepRise s c ∧ stepRise s c ≤ stepSize s.cfg.channels[c] := fun c mem => by
    obtain ⟨d, g, -, -, driven, target, low⟩ := (mem_risers s c).mp mem
    have pos := stepSize_pos s.cfg.channels[c]
    rw [stepRise, driven, target, Option.getD_some, Option.getD_some]
    omega
  intro e mem
  rcases List.mem_append.mp mem with mem | mem
  · obtain ⟨x, waits, rfl⟩ := List.mem_map.mp mem
    obtain ⟨adopted, pos, d, g, driven, target, low⟩ := lawful x waits
    have rises : x.channel ∈ risers s :=
      (mem_risers s x.channel).mpr ⟨d, g, adopted, sound x waits, driven, target, by omega⟩
    rw [if_pos rises]
    exact size x.channel rises
  · obtain ⟨c, joins, rfl⟩ := List.mem_map.mp mem
    exact size c (List.mem_of_mem_filter joins)

/-- The state at a step expiry, ahead of the falls. -/
def stepStarted (deadline : Nat) (s : State) : State :=
  { s with now := clockAt deadline s, stepTimer := some (clockAt deadline s + 100) }

theorem exec_stepTimer (deadline : Nat) (s : State) (live : s.held = false) (timer : s.stepTimer = some deadline) :
    exec .stepTimer s = .next (requestAll (fallAll (stepStarted deadline s))) := by
  show execStepTimer s = _
  rw [execStepTimer, whenLive_live _ _ live, timer, expire_some]
  rfl

/-- The state at a step expiry, ahead of the serving. -/
def stepRequested (deadline : Nat) (s : State) : State :=
  setQueue (requestsPut (stepRise s) (clockAt deadline s) (risers s) s.admission.queue)
    (fallAll (stepStarted deadline s))

theorem stepRequested_get (deadline : Nat) (s : State) (c : Chan) :
    (stepRequested deadline s).channels[c] = fallenRun s c := by
  have fallen := fallAll_get (stepStarted deadline s) c
  have same : fallenRun (stepStarted deadline s) c = fallenRun s c := fallenRun_congr rfl rfl
  rw [← same, ← fallen, stepRequested]
  generalize fallAll (stepStarted deadline s) = f
  rfl

theorem requestAll_fallen (deadline : Nat) (s : State) :
    requestAll (fallAll (stepStarted deadline s)) =
      if (risers s).isEmpty then stepRequested deadline s else serve (stepRequested deadline s) := by
  have rises : risers (fallAll (stepStarted deadline s)) = risers s := risers_fallAll (stepStarted deadline s)
  obtain ⟨channels, field, frame⟩ := (fallAll_fallen (stepStarted deadline s)).frame
  have wanted : ∀ c ∈ risers s, stepRise (fallAll (stepStarted deadline s)) c = stepRise s c := fun c mem =>
    stepRise_congr (by rw [frame]; rfl)
      ((fallAll_get _ c).trans (fallenRun_riser (s := stepStarted deadline s) mem))
  have now : (fallAll (stepStarted deadline s)).now = clockAt deadline s := by rw [frame]; rfl
  have queue : (fallAll (stepStarted deadline s)).admission = s.admission := by rw [frame]; rfl
  rw [requestAll_eq, requested, rises, requestsPut_congr wanted, now, queue]
  rfl

/-- Settles O44: the falls are `fallAll_fallen`, the requests `requestsPut`, and a serving raises no channel past
what its entry wants (`serve_rise_le`). -/
theorem stepExpiryTakesFalls : Obligations.StepExpiryTakesFalls := by
  intro deadline s live timer
  have get := stepRequested_get deadline s
  have field := fallAll_field (stepStarted deadline s)
  have frame := (fallAll_fallen (stepStarted deadline s)).frame
  have expired := (exec_stepTimer deadline s live timer).trans (congrArg _ (requestAll_fallen deadline s))
  have u_ : stepRequested deadline s = setQueue (requestsPut (stepRise s) (clockAt deadline s) (risers s)
    s.admission.queue) (fallAll (stepStarted deadline s)) := rfl
  refine ⟨_, stepRequested deadline s, expired, rfl, ?_⟩
  generalize fallAll (stepStarted deadline s) = f at frame field u_
  obtain ⟨channels, fieldLine, rfl⟩ := frame
  refine ⟨by rw [u_]; rfl, by rw [u_]; rfl, by rw [u_]; rfl, by rw [u_]; rfl, by rw [u_]; rfl, fun c => ?_, ?_, ?_,
    fun law sound c d d' driven after => ?_⟩
  · rw [get c]
    refine ⟨fallenRun_target s c, ?_, ?_⟩
    · split
      next d g adopted driven target =>
        by_cases low : g < d
        · have falls : c ∈ fallers s := (mem_fallers s c).mpr ⟨d, g, adopted, driven, target, low⟩
          rw [fallenRun, if_pos falls, if_pos low, fallenTo, target, driven]
          rfl
        · have stays : c ∉ fallers s := fun falls => by
            obtain ⟨d', g', -, driven', target', low'⟩ := (mem_fallers s c).mp falls
            cases driven.symm.trans driven'
            cases target.symm.trans target'
            exact low low'
          rw [fallenRun, if_neg stays, if_neg low, driven]
      next absent =>
        refine congrArg ChannelRun.driven (if_neg fun falls => ?_)
        obtain ⟨d, g, adopted, driven, target, -⟩ := (mem_fallers s c).mp falls
        exact absent d g adopted driven target
    · unfold fallenRun
      by_cases falls : c ∈ fallers s
      · rw [if_pos falls]
        by_cases zero : fallenTo s c = 0
        · exact (if_pos zero).trans (if_pos ⟨falls, congrArg some zero⟩).symm
        · exact (if_neg zero).trans (if_neg fun both => zero (Option.some.inj both.2)).symm
      · rw [if_neg falls]
        exact (if_neg fun both => falls both.1).symm
  · rw [u_]
    exact field
  · rw [u_]
    rfl
  · obtain ⟨-, -, -, -, distinct, lawful⟩ := law
    obtain ⟨f, fallen, low⟩ := fallenRun_le s c d driven
    have queue : (stepRequested deadline s).admission.queue =
      requestsPut (stepRise s) (clockAt deadline s) (risers s) s.admission.queue := by rw [u_]; rfl
    have wanted := requestsPut_wanted s (clockAt deadline s) lawful sound
    rw [← queue] at wanted
    have served := serve_rise_le (stepRequested deadline s)
      (by rw [queue]; exact requestsPut_nodup _ _ (risers_nodup s) distinct) (fun e mem => (wanted e mem).1) c
    rw [get c] at served
    have still : ∀ {ch : ChannelRun}, ch = fallenRun s c → ch.driven = some d' →
        d' ≤ d + stepSize s.cfg.channels[c] := fun same now => by
      rw [same, fallen] at now
      have := Option.some.inj now
      omega
    split at after
    · exact still (get c) after
    · rcases served with same | ⟨e, mem, rfl, g, most, rose⟩
      · exact still same after
      · rw [rose, fallen, Option.getD_some] at after
        have := (wanted e mem).2
        have := Option.some.inj after
        omega

end Sys2Proof.Proofs
end


section
/-! SUPPORT. A STATE record (R14 to R18): the judgement of an adopted channel, the adoption of an unadopted one, and
the end of adoption (R180, R181). -/

namespace Sys2Proof.Proofs
open Sys2Proof.Machine Sys2Proof.Safety Sys2Proof.Laws

/-! ### One channel's record -/

theorem updChannel_set (c : Chan) (f : ChannelRun → ChannelRun) (s : State) :
    updChannel c f s = { s with channels := s.channels.set c (updChannel c f s).channels[c] } := by
  rw [updChannel_same]
  rfl

theorem updRecount_frame (c : Chan) (f : ChannelRun → ChannelRun) (s : State) :
    updRecount c f s = { s with channels := s.channels.set c (updRecount c f s).channels[c] } := by
  obtain ⟨n, form⟩ := updRecount_eq c f s
  rw [form]
  exact updChannel_set c _ s

/-- The match count of a channel that becomes counted by a change starts with 0 (R21). -/
theorem updRecount_get (c : Chan) (f : ChannelRun → ChannelRun) (s : State) :
    (updRecount c f s).channels[c] =
      if (!countedRecord s.cfg.channels[c].owner.isSome s.channels[c] &&
          countedRecord s.cfg.channels[c].owner.isSome (f s.channels[c])) = true then
        { f s.channels[c] with matchCount := 0 } else f s.channels[c] := by
  rw [updRecount]
  exact updChannel_same c _ s

/-- The drive fault cleared, which ends the channel's excusal (R18, R21). -/
theorem clearDriveFault_get (c : Chan) (s : State) (adopted : s.channels[c].adopted = true) :
    (clearDriveFault c s).channels[c] = { s.channels[c] with
      driveFault := false
      matchCount := if s.channels[c].driveFault = true ∧ s.cfg.channels[c].owner.isSome = true ∧
        s.channels[c].forced = none then 0 else s.channels[c].matchCount } := by
  rw [clearDriveFault, updRecount_get]
  generalize s.channels[c] = ch at adopted ⊢
  cases s.cfg.channels[c].owner with
  | none => simp [countedRecord]
  | some k => cases fault : ch.driveFault <;> cases free : ch.forced <;> simp [countedRecord, adopted, fault, free]

/-- An unadopted channel's record at its adoption (R12, R180). -/
theorem adoptAt_get (c : Chan) (value : Nat) (s : State) (unadopted : s.channels[c].adopted = false)
    (free : s.channels[c].forced = none) :
    (adoptAt c value s).channels[c] = { s.channels[c] with
      driven := some value
      adopted := true
      matchCount := if s.cfg.channels[c].owner.isSome = true ∧ s.channels[c].driveFault = false then 0
        else s.channels[c].matchCount } := by
  rw [adoptAt, updRecount_get]
  generalize s.channels[c] = ch at unadopted free ⊢
  cases s.cfg.channels[c].owner <;> cases fault : ch.driveFault <;> simp [countedRecord, unadopted, free, fault]

/-! ### The record on the line -/

theorem closeWindow_form (address : Nat) (s : State) :
    ∃ w, closeWindow address s = { s with field := { s.field with window := w } } := by
  unfold closeWindow
  split
  · split
    · exact ⟨none, rfl⟩
    · exact ⟨s.field.window, rfl⟩
  · exact ⟨s.field.window, rfl⟩

theorem closeWindow_none (address : Nat) (s : State) (none : s.field.window = none) : closeWindow address s = s := by
  simp only [closeWindow, none]

theorem chanOf_val (c : Chan) : chanOf c.val = some c := dif_pos c.isLt

theorem exec_stateRecord (address value : Nat) (run : ModuleRun) (s : State) (live : s.held = false)
    (open_ : s.partState ≠ .unconfigured) (c : Chan) (named : c.val = address) (used : isUsed s c = true) :
    exec (.stateRecord address value run) s =
      .next (endAdoption (!s.channels[c].adopted) (takeState c value run (closeWindow address s))) := by
  subst named
  refine (whenLive_live _ s live).trans (congrArg _ ((onField_open _ s open_).trans ?_))
  obtain ⟨w, form⟩ := closeWindow_form c.val s
  have used' : isUsed (closeWindow c.val s) c = true := by rw [form]; exact used
  have same : (closeWindow c.val s).channels[c].adopted = s.channels[c].adopted := by rw [form]
  simp only [chanOf_val]
  rw [if_pos used', same]

theorem exec_stateRecord_ignored (address value : Nat) (run : ModuleRun) (s : State) (live : s.held = false)
    (open_ : s.partState ≠ .unconfigured) (silent : s.field.window = none)
    (ignored : ∀ c : Chan, c.val = address → isUsed s c = false) :
    exec (.stateRecord address value run) s = .next s := by
  refine (whenLive_live _ s live).trans (congrArg _ ((onField_open _ s open_).trans ?_))
  rw [closeWindow_none address s silent]
  unfold chanOf
  split
  next => rfl
  next c found =>
    split at found
    next low =>
      cases found
      exact if_neg (Bool.eq_false_iff.mp (ignored ⟨address, low⟩ rfl))
    next => cases found

theorem endAdoption_run (one : Bool) (s : State) (run : s.partState = .run) : endAdoption one s = s :=
  if_neg fun ⟨adopt, _⟩ => by rw [run] at adopt; cases adopt

/-! ### A record of an adopted channel -/

/-- The run state that a record reports has been noted. -/
def runNoted (c : Chan) (run : ModuleRun) (s : State) : State :=
  updChannel c (fun ch => { ch with runState := reportedRun run }) s

theorem takeState_adopted (c : Chan) (value : Nat) (run : ModuleRun) (s : State)
    (adopted : s.channels[c].adopted = true) : takeState c value run s = judgeRecord c run (runNoted c run s) := by
  have still : (runNoted c run s).channels[c].adopted = true := by rw [runNoted, updChannel_same]; exact adopted
  show judgeRecord c run (if (runNoted c run s).channels[c].adopted then _ else _) = _
  rw [if_pos still]
  rfl

/-- A record RUNNING stops the start-confirm timer and clears the drive fault (R15, R18). -/
theorem judgeRecord_running (c : Chan) (s : State) (adopted : s.channels[c].adopted = true) :
    judgeRecord c .running s = { s with channels := s.channels.set c { s.channels[c] with
      startConfirm := none
      driveFault := false
      matchCount := if s.channels[c].driveFault = true ∧ s.cfg.channels[c].owner.isSome = true ∧
        s.channels[c].forced = none then 0 else s.channels[c].matchCount } } := by
  have stopped := updChannel_same c (fun ch => { ch with startConfirm := none }) s
  have get := clearDriveFault_get c (updChannel c (fun ch => { ch with startConfirm := none }) s)
    (by rw [stopped]; exact adopted)
  rw [stopped] at get
  show clearDriveFault c (updChannel c (fun ch => { ch with startConfirm := none }) s) = _
  rw [clearDriveFault, updRecount_frame, ← clearDriveFault, get]
  simp only [updChannel, Vector.set_set]
  rfl

theorem judgedRunning_eq (c : Chan) (s : State) (adopted : s.channels[c].adopted = true) :
    judgeRecord c .running (runNoted c .running s) = { s with channels := s.channels.set c { s.channels[c] with
      runState := .running
      startConfirm := none
      driveFault := false
      matchCount := if s.channels[c].driveFault = true ∧ s.cfg.channels[c].owner.isSome = true ∧
        s.channels[c].forced = none then 0 else s.channels[c].matchCount } } := by
  have noted := updChannel_same c (fun ch => { ch with runState := reportedRun .running }) s
  rw [runNoted, judgeRecord_running c _ (by rw [noted]; exact adopted), noted]
  simp only [updChannel, Vector.set_set]
  rfl

/-- The drive fault set by a record, ahead of the withdrawal and the event (R16). -/
def driveFaulted (c : Chan) (run : ModuleRun) (s : State) : State :=
  updChannel c (fun ch => { ch with driveFault := true, startConfirm := none }) (runNoted c run s)

theorem driveFaulted_channels (c : Chan) (run : ModuleRun) (s : State) :
    (driveFaulted c run s).channels = s.channels.set c { s.channels[c] with
      runState := reportedRun run, driveFault := true, startConfirm := none } := by
  rw [driveFaulted, runNoted, updChannel_twice]
  rfl

/-- A record STOPPED of a channel that does not run, or whose start is to be confirmed, is only noted. -/
theorem judgeRecord_stopped (c : Chan) (s : State)
    (still : s.channels[c].driven = none ∨ s.channels[c].driven = some 0 ∨ s.channels[c].startConfirm.isSome = true) :
    judgeRecord c .stopped s = s := by
  refine if_neg fun both => ?_
  obtain ⟨runs, sure⟩ := both
  rcases still with none | zero | pending
  · rw [none] at runs; exact absurd runs (Nat.lt_irrefl 0)
  · rw [zero] at runs; exact absurd runs (Nat.lt_irrefl 0)
  · rw [sure] at pending; cases pending

/-- A record FAULT, or STOPPED of a channel that runs, sets the drive fault (R16). -/
theorem judgeRecord_fault (c : Chan) (run : ModuleRun) (s : State)
    (faulty : run = .fault ∨ run = .stopped ∧ s.channels[c].startConfirm = none ∧
      ∃ d, s.channels[c].driven = some d ∧ 0 < d) : judgeRecord c run s = setDriveFault c s := by
  rcases faulty with rfl | ⟨rfl, sure, d, driven, pos⟩
  · rfl
  · exact if_pos ⟨by rw [driven]; exact pos, sure⟩

/-! ### Adoption -/

/-- A channel just adopted, ahead of its derivation. -/
def adopting (c : Chan) (value : Nat) (run : ModuleRun) (s : State) : State :=
  adoptAt c (min value Config.fullOutput) (runNoted c run s)

theorem takeState_unadopted (c : Chan) (value : Nat) (run : ModuleRun) (s : State)
    (unadopted : s.channels[c].adopted = false) :
    takeState c value run s = judgeRecord c run (derive c (adopting c value run s)) := by
  have still : ¬ (runNoted c run s).channels[c].adopted = true := by
    rw [runNoted, updChannel_same]
    exact Bool.eq_false_iff.mp unadopted
  show judgeRecord c run (if (runNoted c run s).channels[c].adopted then _ else _) = _
  rw [if_neg still]
  rfl

/-- The channel's record ahead of its derivation. -/
def adoptingRun (owned : Bool) (value : Nat) (run : ModuleRun) (ch : ChannelRun) : ChannelRun :=
  { ch with
    runState := reportedRun run
    driven := some (min value 1000)
    adopted := true
    matchCount := if owned = true ∧ ch.driveFault = false then 0 else ch.matchCount }

theorem adopting_eq (c : Chan) (value : Nat) (run : ModuleRun) (s : State) (unadopted : s.channels[c].adopted = false)
    (free : s.channels[c].forced = none) :
    adopting c value run s = { s with
      channels := s.channels.set c (adoptingRun s.cfg.channels[c].owner.isSome value run s.channels[c]) } := by
  have noted := updChannel_same c (fun ch => { ch with runState := reportedRun run }) s
  have get := adoptAt_get c (min value Config.fullOutput) (runNoted c run s)
    (by rw [runNoted, noted]; exact unadopted) (by rw [runNoted, noted]; exact free)
  rw [runNoted, noted] at get
  rw [adopting, adoptAt, updRecount_frame, ← adoptAt, runNoted, get]
  simp only [updChannel, Vector.set_set]
  rfl

/-- The channel's record after a record RUNNING that adopts it, in the mode and with the target derived. -/
def adoptedRun (owned : Bool) (value : Nat) (mode : ChannelMode) (target : Option Nat) (ch : ChannelRun) : ChannelRun :=
  { ch with
    runState := .running
    driven := some (min value 1000)
    adopted := true
    mode
    target
    startConfirm := none
    driveFault := false
    matchCount := if owned = true then 0 else ch.matchCount }

/-- A record RUNNING judges the channel that it has adopted: whether or not the drive fault was set, its match
count starts with 0 where it has an owner (R18, R21). -/
theorem adoptingRun_judged (owned : Bool) (value : Nat) (mode : ChannelMode) (target : Option Nat) (ch : ChannelRun)
    (free : ch.forced = none) :
    { adoptingRun owned value .running ch with
      mode, target, startConfirm := none, driveFault := false
      matchCount := if ch.driveFault = true ∧ owned = true ∧ ch.forced = none then 0
        else (adoptingRun owned value .running ch).matchCount } = adoptedRun owned value mode target ch := by
  unfold adoptingRun adoptedRun
  cases owned <;> cases fault : ch.driveFault <;> simp [reportedRun, free]

/-- A record RUNNING adopts an unadopted channel; where no request waits nothing else changes. -/
theorem takeState_adopts (c : Chan) (value : Nat) (s : State) (unadopted : s.channels[c].adopted = false)
    (free : s.channels[c].forced = none) (empty : s.admission.queue = []) :
    takeState c value .running s = { s with
      channels := s.channels.set c (adoptedRun s.cfg.channels[c].owner.isSome value
        (modeOf (adopting c value .running s) c)
        (targetOf (adopting c value .running s) c (modeOf (adopting c value .running s) c)
          (frozenNow (adopting c value .running s) c)) s.channels[c]) } := by
  have form := adopting_eq c value .running s unadopted free
  have queue : (adopting c value .running s).admission.queue = [] := by rw [form]; exact empty
  have own : (adopting c value .running s).channels[c] =
      adoptingRun s.cfg.channels[c].owner.isSome value .running s.channels[c] := by
    rw [form]
    exact Vector.getElem_set_self c.isLt
  rw [takeState_unadopted c value .running s unadopted, derive, deriveFrom_quiet _ c _ queue]
  generalize modeOf (adopting c value .running s) c = mode
  generalize targetOf (adopting c value .running s) c mode (frozenNow (adopting c value .running s) c) = target
  have derived := updChannel_same c (fun ch => { ch with mode, target }) (adopting c value .running s)
  rw [own] at derived
  rw [judgeRecord_running c _ (by rw [derived]; rfl), derived, form]
  simp only [updChannel, Vector.set_set]
  congr 2
  exact adoptingRun_judged _ value mode target s.channels[c] free

theorem modeOf_owned (s : State) (c : Chan) (k : Slot) (adopted : s.channels[c].adopted = true)
    (free : s.channels[c].forced = none) (owner : s.cfg.channels[c].owner = some k) :
    modeOf s c = ownerMode s.contexts[k] := by
  unfold modeOf
  rw [if_pos adopted, if_neg (by rw [free]; nofun), owner]

/-- The mode and the target of a channel as it is adopted (R4 to R6). -/
theorem adopting_settings (c : Chan) (value : Nat) (s : State) (unadopted : s.channels[c].adopted = false)
    (free : s.channels[c].forced = none) :
    (leavesFallback s s.cfg.channels[c].owner = true → modeOf (adopting c value .running s) c = .fallback ∧
      (s.cfg.channels[c].fallbackKind = .fixed →
        ∀ was, targetOf (adopting c value .running s) c .fallback was = some s.cfg.channels[c].fallbackValue)) ∧
    (∀ k, s.cfg.channels[c].owner = some k →
      (s.contexts[k].state = .control → modeOf (adopting c value .running s) c = .follow ∧
        ∀ was, targetOf (adopting c value .running s) c .follow was =
          some (s.channels[c].demand.getD (min value 1000))) ∧
      ((s.contexts[k].state = .settle ∨ s.contexts[k].state = .join) → s.channels[c].mode = .unadopted →
        modeOf (adopting c value .running s) c = .hold ∧
        targetOf (adopting c value .running s) c .hold (frozenNow (adopting c value .running s) c) =
          some (min value 1000))) := by
  have form := adopting_eq c value .running s unadopted free
  have own : (adopting c value .running s).channels[c] =
      adoptingRun s.cfg.channels[c].owner.isSome value .running s.channels[c] := by
    rw [form]
    exact Vector.getElem_set_self c.isLt
  have cfg : (adopting c value .running s).cfg = s.cfg := by rw [form]
  have contexts : (adopting c value .running s).contexts = s.contexts := by rw [form]
  generalize adopting c value .running s = a at own cfg contexts
  have adopted : a.channels[c].adopted = true := by rw [own]; rfl
  have free' : a.channels[c].forced = none := by rw [own]; exact free
  refine ⟨fun leaves => ⟨modeOf_fallback a c adopted free' ?_, fun fixed was => ?_⟩, fun k owner => ?_⟩
  · rw [cfg]
    simp only [leavesFallback, contexts] at leaves ⊢
    exact leaves
  · rw [targetOf_fixed a c was (by rw [cfg]; exact fixed), cfg]
  · have owned := modeOf_owned a c k adopted free' (by rw [cfg]; exact owner)
    rw [contexts] at owned
    refine ⟨fun control => ⟨by rw [owned, ownerMode, control], fun was => ?_⟩, fun joins unread => ⟨?_, ?_⟩⟩
    · show some (a.channels[c].demand.getD (a.channels[c].driven.getD 0)) = _
      rw [own]
      rfl
    · rw [owned, ownerMode]
      rcases joins with settle | join
      · rw [settle]
      · rw [join]
    · have thawed : frozenNow a c = none := by
        rw [frozenNow, own]
        show frozenIn s.channels[c].mode _ = none
        rw [unread]
        rfl
      rw [thawed]
      have unfrozen : ¬ (none : Option ChannelMode) = some .hold := nofun
      have driven : a.channels[c].driven = some (min value 1000) := by rw [own]; rfl
      simp only [targetOf, frozenTarget]
      rw [if_neg unfrozen, driven, Option.getD_some]

/-! ### The end of adoption -/

theorem unadoptedLeft_iff (s : State) :
    unadoptedLeft s = true ↔ ∃ d : Chan, isUsed s d = true ∧ s.channels[d].adopted = false := by
  simp only [unadoptedLeft, List.any_eq_true, Bool.and_eq_true, Bool.not_eq_true']
  exact ⟨fun ⟨d, _, left⟩ => ⟨d, left⟩, fun ⟨d, left⟩ => ⟨d, mem_allChannels d, left⟩⟩

/-- Where no request waits, an operation leaves the queue empty and keeps what modules report of the channels. -/
def ReadingsStay (s t : State) : Prop :=
  s.admission.queue = [] → t.admission.queue = [] ∧ ∀ c : Chan,
    t.channels[c].driven = s.channels[c].driven ∧ t.channels[c].adopted = s.channels[c].adopted ∧
    t.channels[c].runState = s.channels[c].runState

theorem ReadingsStay.refl (s : State) : ReadingsStay s s := fun empty => ⟨empty, fun _ => ⟨rfl, rfl, rfl⟩⟩

theorem ReadingsStay.trans {s t u : State} (h : ReadingsStay s t) (g : ReadingsStay t u) : ReadingsStay s u :=
  fun empty => by
    obtain ⟨queue, same⟩ := h empty
    obtain ⟨queue', same'⟩ := g queue
    refine ⟨queue', fun c => ?_⟩
    obtain ⟨driven, adopted, state⟩ := same c
    obtain ⟨driven', adopted', state'⟩ := same' c
    exact ⟨driven'.trans driven, adopted'.trans adopted, state'.trans state⟩

theorem derive_readings (c : Chan) (s : State) : ReadingsStay s (derive c s) := fun empty => by
  rw [derive, deriveFrom_quiet _ c s empty]
  refine ⟨empty, fun d => ?_⟩
  rw [updChannel_get]
  split <;> exact ⟨rfl, rfl, rfl⟩

theorem changeState_readings (k : Slot) (new : ComputerState) (phase : Option JoinPhase) (f : Context → Context)
    (s : State) : ReadingsStay s (changeState k new phase f s) := fun empty => by
  refine ⟨?_, fun c => ?_⟩
  · obtain ⟨v, p, form⟩ := changeState_form k new phase f s
    rw [form]
    exact empty
  · rw [changeState_channel]
    unfold demandEnters
    split
    case h_3 => exact ⟨rfl, rfl, rfl⟩
    all_goals
      split
      · exact ⟨rfl, rfl, rfl⟩
      · exact ⟨rfl, rfl, rfl⟩

theorem clearMatches_readings (k : Slot) (s : State) : ReadingsStay s (clearMatches k s) := fun empty => by
  refine ⟨by rw [clearMatches, mapChannels_admission]; exact empty, fun c => ?_⟩
  rw [clearMatches_get]
  split <;> exact ⟨rfl, rfl, rfl⟩

theorem startSlot_readings (k : Slot) (s : State) : ReadingsStay s (startSlot k s) := by
  unfold startSlot
  dsimp only
  split
  case isFalse => exact fun empty => ⟨empty, fun _ => ⟨rfl, rfl, rfl⟩⟩
  case isTrue =>
    unfold enterTrack
    dsimp only
    have derived : ∀ cs u, ReadingsStay u (deriveEach cs u) :=
      foldl_moves ReadingsStay.refl ReadingsStay.trans _ (fun s c => derive_readings c s)
    exact ((changeState_readings k .track none _ (clearExpectation k s)).trans (clearMatches_readings k _)).trans
      (derived _ _)

/-- Where no request waits, the entry to RUN leaves the send list and what modules report. -/
theorem enterRun_readings (s : State) (empty : s.admission.queue = []) :
    (enterRun s).field.sendList = s.field.sendList ∧ ∀ c : Chan,
      (enterRun s).channels[c].driven = s.channels[c].driven ∧
      (enterRun s).channels[c].adopted = s.channels[c].adopted ∧
      (enterRun s).channels[c].runState = s.channels[c].runState := by
  have slots : QuietMoves (runBegun s) (slotsStarted (runBegun s)) :=
    foldl_moves QuietMoves.refl QuietMoves.trans _ (fun s k => startSlot_quiet k s) _ _
  have readings : ReadingsStay (runBegun s) (slotsStarted (runBegun s)) :=
    foldl_moves ReadingsStay.refl ReadingsStay.trans _ (fun s k => startSlot_readings k s) _ _
  obtain ⟨-, field, -⟩ := slots empty
  obtain ⟨-, same⟩ := readings empty
  rw [enterRun_eq]
  generalize slotsStarted (runBegun s) = u at field same ⊢
  refine ⟨?_, same⟩
  show u.field.sendList = s.field.sendList
  rw [field]
  rfl

/-! ### The statement -/

/-- Settles O41: an adopted channel is judged (`judgeRecord_running`, `_stopped`, `_fault`), an unadopted one is
adopted (`takeState_adopts`), and the last of them ends adoption by `enterRun`. -/
theorem stateRecordIsTaken : Obligations.StateRecordIsTaken := by
  refine ⟨fun address value run s ⟨live, inRun⟩ silent => ?_, fun c value s ⟨live, inRun⟩ used adopted sound run seen
    faulty => ?_, fun c value s ⟨live, inRun⟩ used unadopted free empty => ?_,
    fun c value s live inAdopt used unadopted free empty => ?_⟩
  · have open_ : s.partState ≠ .unconfigured := by rw [inRun]; nofun
    refine ⟨fun c named used adopted => ?_, fun high => ?_, fun c named unused => ?_⟩
    · have taken : ∀ run, exec (.stateRecord address value run) s =
          .next (endAdoption (!s.channels[c].adopted) (judgeRecord c run (runNoted c run s))) := fun run => by
        rw [exec_stateRecord address value run s live open_ c named used, closeWindow_none address s silent,
          takeState_adopted c value run s adopted]
      have noted : ∀ run, (runNoted c run s).channels[c] = { s.channels[c] with runState := reportedRun run } :=
        fun run => updChannel_same c _ s
      refine ⟨⟨_, (taken .running).trans (congrArg _ (endAdoption_run _ _ ?_)), ?_, ?_⟩, fun still => ?_⟩
      · rw [judgedRunning_eq c s adopted]
        exact inRun
      · rw [judgedRunning_eq c s adopted]
        exact congrArg (fun x => { s with channels := s.channels.set c x }) (Vector.getElem_set_self c.isLt).symm
      · rw [judgedRunning_eq c s adopted]
        exact Vector.getElem_set_self c.isLt
      · have judged := judgeRecord_stopped c (runNoted c .stopped s) (by rw [noted]; exact still)
        rw [taken, judged]
        exact congrArg _ (endAdoption_run _ _ inRun)
    · refine exec_stateRecord_ignored address value run s live open_ silent fun c named => ?_
      have := c.isLt
      omega
    · refine exec_stateRecord_ignored address value run s live open_ silent fun d named' => ?_
      rw [Fin.ext (named'.trans named.symm)]
      exact unused
  · have open_ : s.partState ≠ .unconfigured := by rw [inRun]; nofun
    refine ⟨_, exec_stateRecord c.val value run s live open_ c rfl used, ?_⟩
    obtain ⟨w, form⟩ := closeWindow_form c.val s
    have seen_ : reportedRun run = seen := by
      rcases faulty with ⟨rfl, rfl⟩ | ⟨rfl, rfl, -⟩
      · rfl
      · rfl
    have noted : (runNoted c run s).channels[c] = { s.channels[c] with runState := seen } := by
      rw [← seen_]
      exact updChannel_same c _ s
    have faulted : takeState c value run (closeWindow c.val s) =
        latch .driveFault (some (.channel c)) (withdraw c (driveFaulted c run (closeWindow c.val s))) := by
      rw [form]
      refine (takeState_adopted c value run { s with field := { s.field with window := w } } adopted).trans ?_
      have same : (runNoted c run { s with field := { s.field with window := w } }).channels[c] =
          { s.channels[c] with runState := seen } := noted
      rw [judgeRecord_fault c run _ ?_, setDriveFault_clear c _ (by rw [same]; exact sound)]
      · rfl
      · rw [same]
        rcases faulty with ⟨rfl, -⟩ | ⟨rfl, -, sure, runs⟩
        · exact .inl rfl
        · exact .inr ⟨rfl, sure, runs⟩
    rw [faulted, form]
    have channels := driveFaulted_channels c run { s with field := { s.field with window := w } }
    rw [seen_] at channels
    generalize faulted_ : driveFaulted c run { s with field := { s.field with window := w } } = u at channels
    have frame : ∃ chs, u = { s with field := { s.field with window := w }, channels := chs } := ⟨_, faulted_.symm⟩
    obtain ⟨chs, rfl⟩ := frame
    rw [endAdoption_run _ _ (by rw [latch_eq]; exact inRun)]
    refine ⟨?_, ?_, latch_latched .driveFault _ _, ?_⟩
    · rw [latch_channels]
      exact channels
    · rw [latch_admission]
      rfl
    · rw [latch_eq]
      rfl
  · have open_ : s.partState ≠ .unconfigured := by rw [inRun]; nofun
    refine ⟨_, exec_stateRecord c.val value .running s live open_ c rfl used, ?_⟩
    obtain ⟨w, form⟩ := closeWindow_form c.val s
    rw [form]
    obtain ⟨leaves, owned⟩ := adopting_settings c value { s with field := { s.field with window := w } } unadopted free
    have taken := takeState_adopts c value { s with field := { s.field with window := w } } unadopted free empty
    generalize adopting c value .running { s with field := { s.field with window := w } } = a at leaves owned taken
    generalize takeState c value .running { s with field := { s.field with window := w } } = t at taken ⊢
    have own := congrArg (fun t => t.channels[c]) taken
    have own := own.trans (Vector.getElem_set_self c.isLt)
    have others : ∀ d : Chan, d ≠ c → t.channels[d] = s.channels[d] := fun d other => by
      rw [taken]
      exact Vector.getElem_set_ne c.isLt d.isLt fun same => other (Fin.ext same.symm)
    rw [endAdoption_run _ t (by rw [taken]; exact inRun)]
    dsimp only at own
    rw [own]
    refine ⟨rfl, rfl, rfl, by rw [taken], by rw [taken], fun falls => ?_, fun k owner => ⟨?_, fun control => ?_,
      fun joins unread => ?_⟩, others⟩
    · obtain ⟨mode, fixed⟩ := leaves falls
      exact ⟨mode, fun kind => by rw [mode]; exact fixed kind _⟩
    · show (if _ = true then 0 else _) = 0
      rw [owner]
      rfl
    · obtain ⟨mode, target⟩ := (owned k owner).1 control
      exact ⟨mode, by rw [mode]; exact target (frozenNow a c)⟩
    · obtain ⟨mode, target⟩ := (owned k owner).2 joins unread
      exact ⟨mode, by rw [mode]; exact target⟩
  · have open_ : s.partState ≠ .unconfigured := by rw [inAdopt]; nofun
    have taken := exec_stateRecord c.val value .running s live open_ c rfl used
    obtain ⟨w, form⟩ := closeWindow_form c.val s
    rw [form, unadopted] at taken
    have adopts := takeState_adopts c value { s with field := { s.field with window := w } } unadopted free empty
    generalize takeState c value .running { s with field := { s.field with window := w } } = t at adopts taken
    have own := congrArg (fun t => t.channels[c]) adopts
    have own := own.trans (Vector.getElem_set_self c.isLt)
    have others : ∀ d : Chan, d ≠ c → t.channels[d] = s.channels[d] := fun d other => by
      rw [adopts]
      exact Vector.getElem_set_ne c.isLt d.isLt fun same => other (Fin.ext same.symm)
    have used_ : ∀ d, isUsed t d = isUsed s d := fun d => by
      rw [adopts]
      rfl
    dsimp only at own
    have adopted : t.channels[c].adopted = true := by rw [own]; rfl
    have driven : t.channels[c].driven = some (min value 1000) := by rw [own]; rfl
    have noted : t.channels[c].runState = .running := by rw [own]; rfl
    have cfg : t.cfg = s.cfg := by rw [adopts]
    have now : t.now = s.now := by rw [adopts]
    have contexts : t.contexts = s.contexts := by rw [adopts]
    have admission : t.admission = s.admission := by rw [adopts]
    have part : t.partState = .adopt := by rw [adopts]; exact inAdopt
    have sends : t.field.sendList = s.field.sendList := by rw [adopts]
    have timer : t.adoptionTimer = s.adoptionTimer := by rw [adopts]
    have events : t.events = s.events := by rw [adopts]
    clear own adopts
    refine ⟨_, taken, ?_⟩
    cases left : unadoptedLeft t with
    | true =>
      rw [show endAdoption (!false) t = t from if_neg fun ⟨_, _, finished⟩ => by rw [left] at finished; cases finished]
      refine ⟨cfg, adopted, driven, noted, by rw [admission], sends, fun _ => ⟨part, timer, contexts, others⟩,
        fun all => ?_⟩
      obtain ⟨d, usedD, waits⟩ := (unadoptedLeft_iff t).mp left
      by_cases head : d = c
      · rw [head, adopted] at waits
        cases waits
      · rw [others d head, all d head (by rw [← used_]; exact usedD)] at waits
        cases waits
    | false =>
      rw [show endAdoption (!false) t = enterRun t from if_pos ⟨part, rfl, left⟩]
      have entered := enterRun_entered t
      obtain ⟨admitted, -⟩ := enterRun_quiet t (by rw [admission]; exact empty)
      obtain ⟨sent, readings⟩ := enterRun_readings t (by rw [admission]; exact empty)
      obtain ⟨driven', adopted', noted'⟩ := readings c
      refine ⟨entered.cfg.trans cfg, adopted'.trans adopted, driven'.trans driven, noted'.trans noted,
        by rw [admitted, admission], sent.trans sends, fun ⟨d, head, usedD, waits⟩ => ?_, fun _ => ⟨entered.partState,
        entered.adoptionTimer, by rw [entered.stepTimer, now], by rw [entered.refillTimer, now],
        entered.events.trans events, fun k enabled lost => ?_⟩⟩
      · have some_ := (unadoptedLeft_iff t).mpr ⟨d, by rw [used_]; exact usedD, by rw [others d head]; exact waits⟩
        rw [left] at some_
        cases some_
      · obtain ⟨track, cause, -⟩ := enterRun_lost k t (by rw [cfg]; exact enabled) (by rw [contexts]; exact lost)
        exact ⟨track, cause⟩

end Sys2Proof.Proofs
end


section
/-! SUPPORT. The payloads of SET-COMPUTER and SET-CHANNEL (R75, R103, R22, R184): what the line carries is read back,
and a field out of its range is not read. -/

namespace Sys2Proof.Proofs
open Sys2Proof.Machine Sys2Proof.Safety Sys2Proof.Laws

/-! ### Named values -/

theorem readFlag_code (f : Bool) : readFlag (byteOf (flagCode f)) = some f := by cases f <;> rfl

theorem readRole_code (r : Role) : readRole (byteOf (roleCode r)) = some r := by cases r <;> rfl

theorem readBore_code (b : Bore) : readBore (byteOf (boreCode b)) = some b := by cases b <;> rfl

theorem readStyle_code (h : HandoverStyle) : readStyle (byteOf (styleCode h)) = some h := by cases h <;> rfl

theorem readBreakPolicy_code (p : BreakPolicy) : readBreakPolicy (byteOf (breakPolicyCode p)) = some p := by
  cases p <;> rfl

theorem readPausePolicy_code (p : PausePolicy) : readPausePolicy (byteOf (pausePolicyCode p)) = some p := by
  cases p <;> rfl

theorem readChannelKind_code (k : ChannelKind) : readChannelKind (byteOf (channelKindCode k)) = some k := by
  cases k <;> rfl

theorem readFallbackKind_code (k : FallbackKind) : readFallbackKind (byteOf (fallbackKindCode k)) = some k := by
  cases k <;> rfl

theorem readFlag_low {b : Byte} {f : Bool} (read : readFlag b = some f) : b.toNat ≤ 1 := by
  unfold readFlag at read
  split at read
  case h_3 => cases read
  all_goals omega

theorem readRole_low {b : Byte} {r : Role} (read : readRole b = some r) : b.toNat ≤ 1 := by
  unfold readRole at read
  split at read
  case h_3 => cases read
  all_goals omega

theorem readBore_low {b : Byte} {x : Bore} (read : readBore b = some x) : b.toNat = 1 ∨ b.toNat = 2 := by
  unfold readBore at read
  split at read
  case h_3 => cases read
  all_goals omega

theorem readStyle_low {b : Byte} {h : HandoverStyle} (read : readStyle b = some h) : b.toNat ≤ 1 := by
  unfold readStyle at read
  split at read
  case h_3 => cases read
  all_goals omega

theorem readBreakPolicy_low {b : Byte} {p : BreakPolicy} (read : readBreakPolicy b = some p) : b.toNat ≤ 2 := by
  unfold readBreakPolicy at read
  split at read
  case h_4 => cases read
  all_goals omega

theorem readPausePolicy_low {b : Byte} {p : PausePolicy} (read : readPausePolicy b = some p) : b.toNat ≤ 1 := by
  unfold readPausePolicy at read
  split at read
  case h_3 => cases read
  all_goals omega

theorem readChannelKind_some {b : Byte} {k : ChannelKind} (read : readChannelKind b = some k) :
    b.toNat = channelKindCode k := by
  unfold readChannelKind at read
  split at read
  case h_3 => cases read
  all_goals
    next code =>
    cases read
    exact code

theorem readFallbackKind_some {b : Byte} {k : FallbackKind} (read : readFallbackKind b = some k) :
    b.toNat = fallbackKindCode k := by
  unfold readFallbackKind at read
  split at read
  case h_4 => cases read
  all_goals
    next code =>
    cases read
    exact code

/-- The owner byte of a channel (R184). -/
def ownerByte : Option Slot → Byte
  | none => 0xFF
  | some k => byteOf k.val

theorem readOwner_ownerByte (owner : Option Slot) : readOwner (ownerByte owner) = some owner := by
  cases owner with
  | none => rfl
  | some k =>
    have low : byteOf k.val ≠ 0xFF := fun all => by
      have code := congrArg BitVec.toNat all
      rw [byteOf_toNat _ (by omega)] at code
      have : (0xFF : Byte).toNat = 255 := rfl
      omega
    rw [ownerByte, readOwner, if_neg low, readSlot_byteOf]
    rfl

theorem readOwner_low {b : Byte} {owner : Option Slot} (read : readOwner b = some owner) :
    b.toNat ≤ 7 ∨ b.toNat = 255 := by
  unfold readOwner at read
  split at read
  next all => rw [all]; exact .inr rfl
  next =>
    by_cases high : 7 < b.toNat
    · rw [readSlot_above b high] at read
      cases read
    · exact .inl (by omega)

/-! ### A computer's configuration -/

theorem computerRanges_iff (c : ComputerConfig) : computerRanges c = true ↔
    200 ≤ c.reportTimeout ∧ c.reportTimeout ≤ 5000 ∧ c.reportTimeout % 100 = 0 ∧ c.settleCode ≤ 7 ∧
    (c.trackTimeout = 0 ∨ 10 ≤ c.trackTimeout ∧ c.trackTimeout ≤ 600) ∧ 1 ≤ c.requiredMatches ∧
    c.requiredMatches ≤ 15 := by
  simp [computerRanges, and_assoc]

theorem readComputer_fields (c : ComputerConfig) (ranges : computerRanges c = true) :
    readComputer (computerFields c) = some c := by
  obtain ⟨-, report, -, settle, track, -, matches_⟩ := (computerRanges_iff c).mp ranges
  have report_ := word_wordBytes c.reportTimeout (by omega)
  have track_ := word_wordBytes c.trackTimeout (by omega)
  have settle_ := byteOf_toNat c.settleCode (by omega)
  have matches__ := byteOf_toNat c.requiredMatches (by omega)
  show readComputer [byteOf (flagCode c.enabled), byteOf (roleCode c.role), byteOf (boreCode c.bore),
    byteOf (c.reportTimeout / 256), byteOf c.reportTimeout, byteOf c.settleCode, byteOf (c.trackTimeout / 256),
    byteOf c.trackTimeout, byteOf c.requiredMatches, byteOf (styleCode c.style),
    byteOf (breakPolicyCode c.breakPolicy), byteOf (pausePolicyCode c.pausePolicy)] = some c
  simp only [readComputer, readFlag_code, readRole_code, readBore_code, readStyle_code, readBreakPolicy_code,
    readPausePolicy_code, report_, track_, settle_, matches__]
  exact if_pos ranges

theorem readComputer_refused (payload : List Byte) (length : payload.length = 13) (refused : computerRefused payload) :
    readComputer payload.tail = none := by
  match payload, length, refused with
  | [slot, en, ro, bo, rh, rl, sc, th, tl, rm, hs, bp, pp], _, refused =>
    have out : 1 < en.toNat ∨ 1 < ro.toNat ∨ (bo.toNat ≠ 1 ∧ bo.toNat ≠ 2) ∨ word rh rl < 200 ∨ 5000 < word rh rl ∨
        word rh rl % 100 ≠ 0 ∨ 7 < sc.toNat ∨ (0 < word th tl ∧ word th tl < 10) ∨ 600 < word th tl ∨
        rm.toNat = 0 ∨ 15 < rm.toNat ∨ 1 < hs.toNat ∨ 2 < bp.toNat ∨ 1 < pp.toNat := refused
    show readComputer [en, ro, bo, rh, rl, sc, th, tl, rm, hs, bp, pp] = none
    unfold readComputer
    dsimp only
    split
    next enabled role bore style breakPolicy pausePolicy en_ ro_ bo_ hs_ bp_ pp_ =>
      refine if_neg fun ranges => ?_
      obtain ⟨low, report, hundreds, settle, track, one, matches_⟩ := (computerRanges_iff _).mp ranges
      have := readFlag_low en_
      have := readRole_low ro_
      have := readBore_low bo_
      have := readStyle_low hs_
      have := readBreakPolicy_low bp_
      have := readPausePolicy_low pp_
      dsimp only at low report hundreds settle track one matches_
      omega
    next => rfl

/-! ### A channel's configuration -/

theorem channelRanges_iff (c : ChannelConfig) : channelRanges c = true ↔
    1 ≤ c.slewRate ∧ c.slewRate ≤ 1000 ∧ c.tolerance ≤ 100 ∧ c.weight ≤ 255 ∧ c.startCost ≤ 30000 ∧
    c.fallbackValue ≤ 1000 ∧ c.zoneFactor ≤ 1000 ∧ ¬ (c.fallbackKind = .daylight ∧ c.kind = .fan) := by
  simp [channelRanges, and_assoc, imp_iff_not_or]

theorem channelFields_eq (c : ChannelConfig) : channelFields c =
    [byteOf (channelKindCode c.kind), byteOf (boreCode c.bore), ownerByte c.owner, byteOf (c.slewRate / 256),
      byteOf c.slewRate, byteOf c.tolerance, byteOf c.weight, byteOf (c.startCost / 256), byteOf c.startCost,
      byteOf (fallbackKindCode c.fallbackKind), byteOf (c.fallbackValue / 256), byteOf c.fallbackValue,
      byteOf (c.zoneFactor / 256), byteOf c.zoneFactor] := by
  obtain ⟨kind, bore, owner⟩ := c
  cases owner <;> rfl

theorem readChannel_fields (c : ChannelConfig) (ranges : channelRanges c = true) :
    readChannel (channelFields c) = some c := by
  obtain ⟨-, slew, tolerance, weight, start, value, zone, -⟩ := (channelRanges_iff c).mp ranges
  have slew_ := word_wordBytes c.slewRate (by omega)
  have start_ := word_wordBytes c.startCost (by omega)
  have value_ := word_wordBytes c.fallbackValue (by omega)
  have zone_ := word_wordBytes c.zoneFactor (by omega)
  have tolerance_ := byteOf_toNat c.tolerance (by omega)
  have weight_ := byteOf_toNat c.weight (by omega)
  rw [channelFields_eq]
  simp only [readChannel, readChannelKind_code, readBore_code, readOwner_ownerByte, readFallbackKind_code, slew_,
    start_, value_, zone_, tolerance_, weight_]
  exact if_pos ranges

theorem readChannel_refused (payload : List Byte) (length : payload.length = 15) (refused : channelRefused payload) :
    readChannel payload.tail = none := by
  match payload, length, refused with
  | [chan, ki, bo, ow, sh, sl, tol, we, ch, cl, fk, vh, vl, zh, zl], _, refused =>
    have out : 1 < ki.toNat ∨ (bo.toNat ≠ 1 ∧ bo.toNat ≠ 2) ∨ (7 < ow.toNat ∧ ow.toNat ≠ 255) ∨ word sh sl = 0 ∨
        1000 < word sh sl ∨ 100 < tol.toNat ∨ 30000 < word ch cl ∨ 2 < fk.toNat ∨ 1000 < word vh vl ∨
        1000 < word zh zl ∨ (fk.toNat = 2 ∧ ki.toNat = 0) := refused
    show readChannel [ki, bo, ow, sh, sl, tol, we, ch, cl, fk, vh, vl, zh, zl] = none
    unfold readChannel
    dsimp only
    split
    next kind bore owner fallbackKind ki_ bo_ ow_ fk_ =>
      refine if_neg fun ranges => ?_
      obtain ⟨one, slew, tolerance, -, start, value, zone, light⟩ := (channelRanges_iff _).mp ranges
      have kind_ := readChannelKind_some ki_
      have fallback_ := readFallbackKind_some fk_
      have := readBore_low bo_
      have := readOwner_low ow_
      dsimp only at one slew tolerance start value zone light
      have kinds : ki.toNat ≤ 1 := by rw [kind_]; cases kind <;> decide
      have fallbacks : fk.toNat ≤ 2 := by rw [fallback_]; cases fallbackKind <;> decide
      have daylight : fk.toNat = 2 → fallbackKind = .daylight := by
        rw [fallback_]
        cases fallbackKind <;> decide
      have fan : ki.toNat = 0 → kind = .fan := by
        rw [kind_]
        cases kind <;> decide
      have lit : ¬ (fk.toNat = 2 ∧ ki.toNat = 0) := fun ⟨two, zero⟩ => light ⟨daylight two, fan zero⟩
      omega
    next => rfl

/-! ### Who is engaged (R22, R103) -/

theorem leavesFallback_some (s : State) (k : Slot) : leavesFallback s (some k) = !engaged s.contexts[k].state := by
  unfold leavesFallback engaged
  dsimp only
  cases s.contexts[k].state <;> rfl

theorem ownerMayChange_eq (s : State) (owner : Option Slot) : ownerMayChange s owner = leavesFallback s owner := by
  cases owner with
  | none => rfl
  | some k => exact (leavesFallback_some s k).symm

/-- The kind of channel that belongs to a role. -/
theorem roleMatches_iff (r : Role) (k : ChannelKind) :
    roleMatches r k = true ↔ k = (match r with | .vent => .fan | .light => .light) := by
  cases r <;> cases k <;> simp [roleMatches]

end Sys2Proof.Proofs
end


section
/-! SUPPORT. SET-CHANNEL (R22, R23, R3). -/

namespace Sys2Proof.Proofs
open Sys2Proof.Machine Sys2Proof.Safety Sys2Proof.Laws

/-! ### The answer -/

theorem answerSetChannel_judges {chan : Byte} {fields : List Byte} {c : Chan} {new : ChannelConfig}
    (named : readChan chan = some c) (read : readChannel fields = some new) (s : State) (open_ : Configurable s) :
    answerSetChannel chan fields s =
      if s.partState = .run ∧ channelAllowed c new s = false then refuse .refusedState
      else accept (applyChannel c new) := by
  simp only [answerSetChannel, named, asConfiguration_open s _ open_, read]

theorem setChannelAnswer_payload (c : Chan) (new : ChannelConfig) (s : State) (ranges : channelRanges new = true)
    (open_ : Configurable s) :
    setChannelAnswer (channelPayload c new) s =
      if s.partState = .run ∧ channelAllowed c new s = false then refuse .refusedState
      else accept (applyChannel c new) := by
  have length : (channelPayload c new).length = 15 := by
    rw [channelPayload, channelFields_eq]
    rfl
  refine (if_pos length).trans ?_
  exact answerSetChannel_judges (readChan_byteOf c) (readChannel_fields new ranges) s open_

theorem setChannelAnswer_refused (payload : List Byte) (s : State) (length : payload.length = 15)
    (open_ : Configurable s) (within : byteAt payload 0 ≤ 47) (refused : channelRefused payload) :
    setChannelAnswer payload s = refuse .outOfRange := by
  have head : byteAt payload 0 = (payload.headD 0).toNat := by
    cases payload <;> rfl
  rw [head] at within
  obtain ⟨c, named⟩ := readChan_within within
  refine (if_pos length).trans ?_
  simp only [answerSetChannel, named, asConfiguration_open s _ open_, readChannel_refused payload length refused]

theorem setChannelAnswer_above (payload : List Byte) (s : State) (length : payload.length = 15)
    (above : 47 < byteAt payload 0) : setChannelAnswer payload s = refuse .outOfRange := by
  have head : byteAt payload 0 = (payload.headD 0).toNat := by
    cases payload <;> rfl
  rw [head] at above
  refine (if_pos length).trans ?_
  simp only [answerSetChannel, readChan_above _ above]

/-! ### The checks in RUN (R22) -/

/-- A record agrees with its owner's role and bore. -/
def ownerAgrees (new : ChannelConfig) (s : State) : Prop :=
  ∀ k, new.owner = some k → roleMatches s.cfg.computers[k].role new.kind = true ∧ s.cfg.computers[k].bore = new.bore

theorem channelAllowed_iff (c : Chan) (new : ChannelConfig) (s : State) :
    channelAllowed c new s = true ↔
      (new.owner = s.cfg.channels[c].owner ∨
        leavesFallback s s.cfg.channels[c].owner = true ∧ leavesFallback s new.owner = true) ∧ ownerAgrees new s := by
  unfold channelAllowed ownerAgrees
  rw [Bool.and_eq_true, Bool.or_eq_true, Bool.and_eq_true, ownerMayChange_eq, ownerMayChange_eq, beq_iff_eq]
  refine and_congr_right fun _ => ?_
  cases owner : new.owner with
  | none => exact ⟨fun _ => nofun, fun _ => rfl⟩
  | some k =>
    rw [Bool.and_eq_true, beq_iff_eq]
    exact ⟨fun both j same => by cases same; exact both, fun all => all k rfl⟩

theorem setChannel_accepted (tag : Byte) (c : Chan) (new : ChannelConfig) (s : State)
    (ranges : channelRanges new = true) (open_ : Configurable s)
    (allowed : s.partState = .run → channelAllowed c new s = true) (taken : Taken 0x11 tag (channelPayload c new) s) :
    exec (.setChannel tag (channelPayload c new)) s = .next (applyChannel c new (repliedOk 0x11 tag s)) := by
  refine takeCommand_accepted _ _ _ _ _ _ taken
    ((setChannelAnswer_payload c new (leaveQueue s) ranges open_).trans (if_neg fun ⟨run, out⟩ => ?_))
  have fine : channelAllowed c new (leaveQueue s) = true := allowed run
  rw [out] at fine
  cases fine

/-! ### The effect in RUN (R23) -/

theorem withdraw_empty (c : Chan) (s : State) (empty : s.admission.queue = []) : withdraw c s = s := by
  have kept : s.admission.queue.filter (·.channel != c) = s.admission.queue := by rw [empty]; rfl
  rw [withdraw, kept]
  rfl

/-- A record whose owner and fallback fields are kept. -/
theorem applyChannelRun_kept (c : Chan) (new : ChannelConfig) (s : State) (used : usedConfig new = true)
    (owner : new.owner = s.cfg.channels[c].owner) (kind : new.fallbackKind = s.cfg.channels[c].fallbackKind)
    (value : new.fallbackValue = s.cfg.channels[c].fallbackValue)
    (zone : new.zoneFactor = s.cfg.channels[c].zoneFactor) :
    applyChannelRun c new s =
      if new.slewRate = s.cfg.channels[c].slewRate then setChannelConfig c new s
      else withdraw c (setChannelConfig c new s) := by
  unfold applyChannelRun
  rw [if_pos used, owner, kind, value, zone]
  simp only [bne_self_eq_false, Bool.or_self, Bool.false_eq_true, if_false, bne_iff_ne, ne_eq, ite_not]

/-- A record that makes the channel unused. -/
theorem applyChannelRun_unused (c : Chan) (new : ChannelConfig) (s : State) (unused : usedConfig new = false)
    (used : usedConfig s.cfg.channels[c] = true) :
    applyChannelRun c new s = makeUnused c (setChannelConfig c new s) := by
  unfold applyChannelRun
  rw [if_neg (Bool.eq_false_iff.mp unused)]
  exact if_pos used

/-- A channel in FALLBACK with its target set. -/
def fallenBack (c : Chan) (target : Option Nat) (s : State) : State :=
  updChannel c (fun ch => { ch with mode := .fallback, target }) s

/-- A channel that nothing waits for stays in FALLBACK as it is derived. -/
theorem deriveFrom_fallback (was : Option ChannelMode) (c : Chan) (s : State) (empty : s.admission.queue = [])
    (adopted : s.channels[c].adopted = true) (free : s.channels[c].forced = none)
    (leaves : leavesFallback s s.cfg.channels[c].owner = true) :
    deriveFrom was c s = fallenBack c (targetOf s c .fallback was) s := by
  rw [deriveFrom_quiet was c s empty, modeOf_fallback s c adopted free leaves]
  rfl

/-- The state of a channel adopted, unforced and in FALLBACK, its record as configured leaving it there. -/
structure InFallback (c : Chan) (s : State) : Prop where
  empty : s.admission.queue = []
  adopted : s.channels[c].adopted = true
  free : s.channels[c].forced = none
  leaves : leavesFallback s s.cfg.channels[c].owner = true

theorem InFallback.derived {c : Chan} {s : State} (h : InFallback c s) (was : Option ChannelMode) :
    deriveFrom was c s = fallenBack c (targetOf s c .fallback was) s :=
  deriveFrom_fallback was c s h.empty h.adopted h.free h.leaves

/-- Deriving the channel once more leaves it as it is: a frozen target stays, another is read from the record. -/
theorem fallenBack_again (c : Chan) (was : Option ChannelMode) (s : State) (h : InFallback c s) :
    deriveFrom (frozenNow (fallenBack c (targetOf s c .fallback was) s) c) c
        (fallenBack c (targetOf s c .fallback was) s) =
      fallenBack c (targetOf s c .fallback was) s := by
  have get : ∀ t, (fallenBack c t s).channels[c] = { s.channels[c] with mode := .fallback, target := t } :=
    fun t => updChannel_same c _ s
  have still : InFallback c (fallenBack c (targetOf s c .fallback was) s) :=
    ⟨h.empty, by rw [get]; exact h.adopted, by rw [get]; exact h.free, h.leaves⟩
  have same : targetOf (fallenBack c (targetOf s c .fallback was) s) c .fallback
      (frozenNow (fallenBack c (targetOf s c .fallback was) s) c) = targetOf s c .fallback was := by
    generalize target_ : targetOf s c .fallback was = t
    have frozen : frozenNow (fallenBack c t s) c = frozenIn .fallback s.cfg.channels[c].fallbackKind := by
      rw [frozenNow, get]
      rfl
    rw [frozen]
    cases kind : s.cfg.channels[c].fallbackKind with
    | hold =>
      have own : (fallenBack c t s).channels[c].target = t := by rw [get]
      have kind' : (fallenBack c t s).cfg.channels[c].fallbackKind = .hold := kind
      simp only [targetOf, kind', frozenIn, frozenTarget, if_true, own]
    | fixed =>
      exact (targetOf_fixed (fallenBack c t s) c _ kind).trans ((targetOf_fixed s c was kind).symm.trans target_)
    | daylight =>
      exact (targetOf_daylight (fallenBack c t s) c _ kind).trans ((targetOf_daylight s c was kind).symm.trans target_)
  rw [still.derived, same]
  unfold fallenBack
  rw [updChannel_twice]
  rfl

/-- A channel with a new owner forgets its demand and its match count. -/
def disowned (changed : Prop) [Decidable changed] (c : Chan) (s : State) : State :=
  updChannel c (fun ch =>
    { ch with demand := if changed then none else ch.demand, matchCount := if changed then 0 else ch.matchCount }) s

theorem disowned_not {changed : Prop} [Decidable changed] (still : ¬ changed) (c : Chan) (s : State) :
    disowned changed c s = s := by
  unfold disowned updChannel
  simp only [if_neg still]
  exact congrArg (fun v => { s with channels := v }) (Vector.set_getElem_self c.isLt)

/-- A new owner, or new fallback fields, of a channel that stays in FALLBACK. -/
theorem applyChannelRun_derived (c : Chan) (new : ChannelConfig) (s : State) (used : usedConfig new = true)
    (changed : new.owner ≠ s.cfg.channels[c].owner ∨ new.fallbackKind ≠ s.cfg.channels[c].fallbackKind ∨
      new.fallbackValue ≠ s.cfg.channels[c].fallbackValue ∨ new.zoneFactor ≠ s.cfg.channels[c].zoneFactor)
    (ready : InFallback c (disowned (new.owner ≠ s.cfg.channels[c].owner) c (setChannelConfig c new s))) :
    applyChannelRun c new s = fallenBack c
      (targetOf (disowned (new.owner ≠ s.cfg.channels[c].owner) c (setChannelConfig c new s)) c .fallback
        (frozenNow s c)) (disowned (new.owner ≠ s.cfg.channels[c].owner) c (setChannelConfig c new s)) := by
  have refreshed : (new.fallbackKind != s.cfg.channels[c].fallbackKind ||
      new.fallbackValue != s.cfg.channels[c].fallbackValue ||
      new.zoneFactor != s.cfg.channels[c].zoneFactor) = true ∨ new.owner ≠ s.cfg.channels[c].owner := by
    simp only [Bool.or_eq_true, bne_iff_ne, or_assoc]
    tauto
  unfold applyChannelRun
  rw [if_pos used]
  dsimp only
  by_cases owner : new.owner = s.cfg.channels[c].owner
  · rw [disowned_not (not_not.mpr owner)] at ready ⊢
    have kept : (new.owner != s.cfg.channels[c].owner) = false := bne_eq_false_iff_eq.mpr owner
    have stays : withdraw c (setChannelConfig c new s) = setChannelConfig c new s := withdraw_empty c _ ready.empty
    simp only [kept, Bool.false_eq_true, if_false, stays, ite_self]
    rw [if_pos (refreshed.resolve_right (not_not.mpr owner)), ready.derived]
  · have left : (new.owner != s.cfg.channels[c].owner) = true := bne_iff_ne.mpr owner
    have moved : ownerChanged c (frozenNow s c) (setChannelConfig c new s) = fallenBack c
        (targetOf (disowned (new.owner ≠ s.cfg.channels[c].owner) c (setChannelConfig c new s)) c .fallback
          (frozenNow s c)) (disowned (new.owner ≠ s.cfg.channels[c].owner) c (setChannelConfig c new s)) := by
      rw [← ready.derived, ownerChanged]
      unfold disowned
      simp only [if_pos owner]
    have again := fallenBack_again c (frozenNow s c) _ ready
    have stays : withdraw c (ownerChanged c (frozenNow s c) (setChannelConfig c new s)) =
        ownerChanged c (frozenNow s c) (setChannelConfig c new s) :=
      withdraw_empty c _ (by rw [moved]; exact ready.empty)
    simp only [left, if_true, stays, ite_self]
    rw [moved, again, ite_self]

theorem reconfigured_record (changed : Prop) [Decidable changed] (c : Chan) (new : ChannelConfig) (s : State) :
    (disowned changed c (setChannelConfig c new s)).cfg.channels[c] = new := Vector.getElem_set_self c.isLt

theorem disowned_get (changed : Prop) [Decidable changed] (c : Chan) (s : State) :
    (disowned changed c s).channels[c] = { s.channels[c] with
      demand := if changed then none else s.channels[c].demand
      matchCount := if changed then 0 else s.channels[c].matchCount } := updChannel_same c _ s

theorem reconfigured_inFallback (changed : Prop) [Decidable changed] (c : Chan) (new : ChannelConfig) (s : State)
    (empty : s.admission.queue = []) (adopted : s.channels[c].adopted = true) (free : s.channels[c].forced = none)
    (leaves : leavesFallback s new.owner = true) :
    InFallback c (disowned changed c (setChannelConfig c new s)) :=
  ⟨empty, by rw [disowned_get]; exact adopted, by rw [disowned_get]; exact free,
    by rw [reconfigured_record]; exact leaves⟩

/-- Kind HOLD: the target stays where the channel stood frozen in FALLBACK, and freezes at D where it did not. -/
theorem reconfigured_target_hold (changed : Prop) [Decidable changed] (c : Chan) (new : ChannelConfig) (s : State)
    (kind : new.fallbackKind = .hold) (mode : s.channels[c].mode = .fallback) :
    targetOf (disowned changed c (setChannelConfig c new s)) c .fallback (frozenNow s c) =
      if s.cfg.channels[c].fallbackKind = .hold then s.channels[c].target else some (s.channels[c].driven.getD 0) := by
  have held : (disowned changed c (setChannelConfig c new s)).cfg.channels[c].fallbackKind = .hold := by
    rw [reconfigured_record]
    exact kind
  have frozen : targetOf (disowned changed c (setChannelConfig c new s)) c .fallback (frozenNow s c) =
      frozenTarget (frozenNow s c) .fallback (disowned changed c (setChannelConfig c new s)).channels[c] := by
    simp only [targetOf, held]
  rw [frozen, disowned_get, frozenNow, mode]
  cases s.cfg.channels[c].fallbackKind <;> rfl

/-- Settles O9: the payload reads back; in RUN the effect is the configured record, with a withdrawal, a derivation in
FALLBACK or the end of use as the changed fields say. -/
theorem setChannelReplaces : Obligations.SetChannelReplaces := by
  refine ⟨fun tag c new s ranges unconfigured taken => ?_, fun tag c new s ranges run agrees taken => ?_,
    fun tag payload s length taken => ?_, fun tag c new s ranges run taken out => ?_⟩
  · have still : ¬ s.partState = .run := by rw [unconfigured]; nofun
    exact (setChannel_accepted tag c new s ranges (.inl unconfigured) (fun run => absurd run still) taken).trans
      (congrArg _ (if_neg still))
  · have done : (new.owner = s.cfg.channels[c].owner ∨
        leavesFallback s s.cfg.channels[c].owner = true ∧ leavesFallback s new.owner = true) →
        exec (.setChannel tag (channelPayload c new)) s = .next (applyChannelRun c new (repliedOk 0x11 tag s)) :=
      fun may => (setChannel_accepted tag c new s ranges (.inr run)
        (fun _ => (channelAllowed_iff c new s).mpr ⟨may, agrees⟩) taken).trans (congrArg _ (if_pos run))
    refine ⟨fun used owner kind value zone => ?_, fun used _ changed leavesNew leavesOld adopted free mode empty => ?_,
      fun unused used leaves => ?_⟩
    · refine (done (.inl owner)).trans (congrArg _ ?_)
      rw [applyChannelRun_kept c new (repliedOk 0x11 tag s) used owner kind value zone]
      show (if new.slewRate = s.cfg.channels[c].slewRate then _ else _) = _
      by_cases same : new.slewRate = s.cfg.channels[c].slewRate
      · rw [if_pos same, if_pos same]
        rfl
      · rw [if_neg same, if_neg same]
        rfl
    · refine (done (.inr ⟨leavesOld, leavesNew⟩)).trans (congrArg _ ?_)
      rw [applyChannelRun_derived c new (repliedOk 0x11 tag s) used changed
        (reconfigured_inFallback _ c new (repliedOk 0x11 tag s) empty adopted free leavesNew)]
      have target : targetOf (disowned (new.owner ≠ s.cfg.channels[c].owner) c
          (setChannelConfig c new (repliedOk 0x11 tag s))) c .fallback (frozenNow (repliedOk 0x11 tag s) c) =
          (match new.fallbackKind with
          | .hold => if s.cfg.channels[c].fallbackKind = .hold then s.channels[c].target
            else some (s.channels[c].driven.getD 0)
          | .fixed => some new.fallbackValue
          | .daylight => some (stageLevel s * new.zoneFactor / 1000)) := by
        split
        next kind => exact reconfigured_target_hold _ c new (repliedOk 0x11 tag s) kind mode
        next kind =>
          rw [targetOf_fixed _ c _ (by rw [reconfigured_record]; exact kind), reconfigured_record]
        next kind =>
          rw [targetOf_daylight _ c _ (by rw [reconfigured_record]; exact kind), reconfigured_record]
          rfl
      have kept : ∀ {α : Type} (x y : α), (if new.owner ≠ s.cfg.channels[c].owner then x else y) =
          if new.owner = s.cfg.channels[c].owner then y else x := fun x y => ite_not ..
      refine (congrArg (fun t => fallenBack c t (disowned (new.owner ≠ s.cfg.channels[c].owner) c
        (setChannelConfig c new (repliedOk 0x11 tag s)))) target).trans ?_
      unfold fallenBack disowned
      rw [updChannel_twice]
      simp only [updChannel, Function.comp, kept, ← mode]
      rfl
    · have unowned : new.owner = none := by
        cases owner : new.owner with
        | none => rfl
        | some k => simp [usedConfig, owner] at unused
      have leavesNew : leavesFallback s new.owner = true := by rw [unowned]; rfl
      refine (done (.inr ⟨leaves, leavesNew⟩)).trans (congrArg _ ?_)
      exact (applyChannelRun_unused c new (repliedOk 0x11 tag s) unused used).trans rfl
  · exact ⟨fun above => takeCommand_refused _ _ _ _ _ _ taken (setChannelAnswer_above payload _ length above),
      fun open_ within refused => takeCommand_refused _ _ _ _ _ _ taken
        (setChannelAnswer_refused payload (leaveQueue s) length open_ within refused)⟩
  · refine takeCommand_refused _ _ _ _ _ _ taken
      ((setChannelAnswer_payload c new (leaveQueue s) ranges (.inr run)).trans (if_pos ⟨run, ?_⟩))
    refine Bool.eq_false_iff.mpr fun allowed => ?_
    obtain ⟨may, agrees⟩ := (channelAllowed_iff c new s).mp allowed
    rcases out with ⟨changed, engaged_⟩ | ⟨k, owner, differs⟩
    · obtain ⟨old, new_⟩ := may.resolve_left changed
      rcases engaged_ with held | held
      · rw [held] at old; cases old
      · rw [held] at new_; cases new_
    · obtain ⟨role, bore⟩ := agrees k owner
      exact differs.elim (fun other => other bore) fun other => other ((roleMatches_iff _ _).mp role)

end Sys2Proof.Proofs
end


section
/-! SUPPORT. SET-COMPUTER (R102 to R104, R120). -/

namespace Sys2Proof.Proofs
open Sys2Proof.Machine Sys2Proof.Safety Sys2Proof.Laws

/-! ### The answer -/

theorem setComputerAnswer_payload (k : Slot) (new : ComputerConfig) (s : State) (ranges : computerRanges new = true)
    (open_ : Configurable s) :
    setComputerAnswer (computerPayload k new) s =
      if s.partState = .run ∧ computerAllowed k new s = false then refuse .refusedState
      else accept (applyComputer k new) := by
  have named : readSlot ((computerPayload k new).headD 0) = some k := readSlot_byteOf k
  have read : readComputer (computerPayload k new).tail = some new := readComputer_fields new ranges
  refine (if_pos rfl).trans ?_
  simp only [answerSetComputer, named, asConfiguration_open s _ open_, read]

theorem setComputerAnswer_refused (payload : List Byte) (s : State) (length : payload.length = 13)
    (open_ : Configurable s) (within : byteAt payload 0 ≤ 7) (refused : computerRefused payload) :
    setComputerAnswer payload s = refuse .outOfRange := by
  have head : byteAt payload 0 = (payload.headD 0).toNat := by
    cases payload <;> rfl
  rw [head] at within
  obtain ⟨k, named⟩ := readSlot_within within
  refine (if_pos length).trans ?_
  simp only [answerSetComputer, named, asConfiguration_open s _ open_, readComputer_refused payload length refused]

theorem setComputerAnswer_above (payload : List Byte) (s : State) (length : payload.length = 13)
    (above : 7 < byteAt payload 0) : setComputerAnswer payload s = refuse .outOfRange := by
  have head : byteAt payload 0 = (payload.headD 0).toNat := by
    cases payload <;> rfl
  rw [head] at above
  refine (if_pos length).trans ?_
  simp only [answerSetComputer, readSlot_above _ above]

/-! ### The checks in RUN (R103) -/

/-- A change of role or bore. -/
def displaced (k : Slot) (new : ComputerConfig) (s : State) : Prop :=
  new.role ≠ s.cfg.computers[k].role ∨ new.bore ≠ s.cfg.computers[k].bore

theorem mem_ownedBy (s : State) (k : Slot) (c : Chan) : c ∈ ownedBy s k ↔ owns s k c = true := by
  rw [ownedBy, List.mem_filter, and_iff_right (mem_allChannels c)]

theorem computerAllowed_iff (k : Slot) (new : ComputerConfig) (s : State) :
    computerAllowed k new s = true ↔
      ((displaced k new s ∨ new.enabled ≠ s.cfg.computers[k].enabled) → engaged s.contexts[k].state = false) ∧
      (displaced k new s → ∀ c : Chan, owns s k c = true →
        roleMatches new.role s.cfg.channels[c].kind = true ∧ s.cfg.channels[c].bore = new.bore) := by
  have placed : (new.role != s.cfg.computers[k].role || new.bore != s.cfg.computers[k].bore) = true ↔
      displaced k new s := by
    rw [Bool.or_eq_true, bne_iff_ne, bne_iff_ne]
    rfl
  have agree : ((ownedBy s k).all fun c =>
      roleMatches new.role s.cfg.channels[c].kind && s.cfg.channels[c].bore == new.bore) = true ↔
      ∀ c : Chan, owns s k c = true →
        roleMatches new.role s.cfg.channels[c].kind = true ∧ s.cfg.channels[c].bore = new.bore := by
    simp only [List.all_eq_true, mem_ownedBy, Bool.and_eq_true, beq_iff_eq]
  unfold computerAllowed
  dsimp only
  rw [← placed, ← agree, ← bne_iff_ne]
  generalize (new.role != s.cfg.computers[k].role || new.bore != s.cfg.computers[k].bore) = p
  generalize (new.enabled != s.cfg.computers[k].enabled) = e
  generalize (ownedBy s k).all _ = a
  cases p <;> cases e <;> cases engaged s.contexts[k].state <;> simp

theorem setComputer_accepted (tag : Byte) (k : Slot) (new : ComputerConfig) (s : State)
    (ranges : computerRanges new = true) (open_ : Configurable s)
    (allowed : s.partState = .run → computerAllowed k new s = true)
    (taken : Taken 0x10 tag (computerPayload k new) s) :
    exec (.setComputer tag (computerPayload k new)) s = .next (applyComputer k new (repliedOk 0x10 tag s)) := by
  refine takeCommand_accepted _ _ _ _ _ _ taken
    ((setComputerAnswer_payload k new (leaveQueue s) ranges open_).trans (if_neg fun ⟨run, out⟩ => ?_))
  have fine : computerAllowed k new (leaveQueue s) = true := allowed run
  rw [out] at fine
  cases fine

/-! ### The effect (R102, R104, R120) -/

theorem applyComputer_plain (k : Slot) (new : ComputerConfig) (s : State)
    (enabled : new.enabled = s.cfg.computers[k].enabled) (bore : new.bore = s.cfg.computers[k].bore) :
    applyComputer k new s = setComputerConfig k new s := by
  unfold applyComputer
  dsimp only
  rw [if_pos enabled, if_neg fun both => both.1 bore]

theorem applyComputer_enabled (k : Slot) (new : ComputerConfig) (s : State)
    (enabled : new.enabled ≠ s.cfg.computers[k].enabled) (bore : new.bore = s.cfg.computers[k].bore) :
    applyComputer k new s = enabledChanges k new.enabled (setComputerConfig k new s) := by
  unfold applyComputer
  dsimp only
  rw [if_neg enabled, if_neg fun both => both.1 bore]

theorem applyComputer_moved (k : Slot) (new : ComputerConfig) (s : State)
    (enabled : new.enabled = s.cfg.computers[k].enabled) (bore : new.bore ≠ s.cfg.computers[k].bore)
    (waits : isWaiting s k = true) :
    applyComputer k new s = serveBore new.bore (setComputerConfig k new s) := by
  unfold applyComputer
  dsimp only
  rw [if_pos enabled]
  exact if_pos ⟨bore, waits⟩

theorem setComputerConfig_own (k : Slot) (new : ComputerConfig) (s : State) :
    (setComputerConfig k new s).cfg.computers[k] = new := (setComputerConfig_get k k new s).trans (if_pos rfl)

/-! ### A slot enabled or disabled (R102) -/

/-- A slot enabled in RUN enters TRACK. -/
theorem enabledChanges_track (k : Slot) (s : State) (run : s.partState = .run) :
    enabledChanges k true s = enterTrack k .enabled true s := by
  simp only [enabledChanges, run, if_true]

/-- A slot enabled in UNCONFIGURED enters LOST. -/
theorem enabledChanges_lost (k : Slot) (s : State) (unconfigured : s.partState = .unconfigured) :
    enabledChanges k true s = changeState k .lost none id s := by
  simp only [enabledChanges, unconfigured, if_true]

theorem enabledChanges_vacate (k : Slot) (s : State) (open_ : Configurable s) :
    enabledChanges k false s = vacate k s := by
  rcases open_ with off | run
  · simp only [enabledChanges, off, Bool.false_eq_true, if_false]
  · simp only [enabledChanges, run, Bool.false_eq_true, if_false]

theorem enterTrack_contexts_set (k : Slot) (cause : TrackCause) (zero : Bool) (s : State) :
    (enterTrack k cause zero s).contexts = s.contexts.set k { contextEnters .track none s.contexts[k] with
      trackCause := some cause
      activeStyle := s.cfg.computers[k].style
      trackTimer := if s.cfg.computers[k].trackTimeout = 0 then none
        else some (s.now + s.cfg.computers[k].trackTimeout * 1000) } :=
  vector_eq_set ((enterTrack_get k k cause zero s).trans (if_pos rfl))
    fun j other => (enterTrack_get k j cause zero s).trans (if_neg other)

theorem vacate_contexts (k : Slot) (s : State) :
    (vacate k s).contexts = s.contexts.set k { contextEnters .vacant none s.contexts[k] with failures := 0 } :=
  vector_eq_set ((vacate_get k k s).trans (if_pos rfl)) fun j other => (vacate_get k j s).trans (if_neg other)

/-- What a slot that becomes VACANT loses. -/
structure Vacated (k : Slot) (s t : State) : Prop where
  cfg : t.cfg = s.cfg
  contexts : t.contexts = s.contexts.set k { contextEnters .vacant none s.contexts[k] with failures := 0 }
  ports : t.ports = s.ports.set k { s.ports[k] with expectation := none, reportTimer := none }
  window : t.window = { s.window with waitList := s.window.waitList.filter (·.slot != k) }
  demands : ∀ c : Chan, t.channels[c].demand = s.channels[c].demand
  modes : ∀ c : Chan, owns s k c = true → s.channels[c].adopted = true → s.channels[c].forced = none →
    t.channels[c].mode = .fallback

theorem vacate_vacated (k : Slot) (s : State) : Vacated k s (vacate k s) := by
  have entered := changeState_slot k .vacant none (fun x => { x with failures := 0 }) s
  have ports := changeState_ports k .vacant none (fun x => { x with failures := 0 }) s
  have channel := fun c => changeState_channel k .vacant none (fun x => { x with failures := 0 }) c s
  have context := changeState_get k k .vacant none (fun x => { x with failures := 0 }) s
  have contexts := vacate_contexts k s
  unfold vacate at contexts ⊢
  generalize changeState k .vacant none (fun x => { x with failures := 0 }) s = u
    at entered ports channel context contexts ⊢
  have moves := deriveOwned_plant k (dropEntry k u)
  have flags : ∀ c : Chan, FlagsStay u.channels[c] (deriveOwned k (dropEntry k u)).channels[c] := moves.flags
  have same : ∀ c : Chan, u.channels[c] = s.channels[c] := channel
  refine ⟨moves.cfg.trans entered.cfg, contexts, moves.ports.trans ports, ?_, fun c => ?_, fun c own adopted free => ?_⟩
  · rw [moves.window]
    show { u.window with waitList := u.window.waitList.filter (·.slot != k) } = _
    rw [entered.window]
  · rw [(flags c).demand, same c]
  · have owned : owns (dropEntry k u) k c = true := by
      show owns u k c = true
      rw [owns, entered.cfg]
      exact own
    have mode : modeOf (dropEntry k u) c = .fallback := by
      refine (modeOf_owned (dropEntry k u) c k ?_ ?_ (beq_iff_eq.mp owned)).trans ?_
      · show u.channels[c].adopted = true
        rw [same c]
        exact adopted
      · show u.channels[c].forced = none
        rw [same c]
        exact free
      · show ownerMode u.contexts[k] = .fallback
        rw [context, if_pos rfl]
        rfl
    rw [deriveOwned, deriveEach_mode c, if_pos ((mem_ownedBy _ k c).mpr owned), mode]

/-- A slot that enters LOST outside RUN: its context and its report timer, and nothing else. -/
theorem changeState_lost (k : Slot) (s : State) :
    (changeState k .lost none id s).contexts = s.contexts.set k (contextEnters .lost none s.contexts[k]) ∧
    (changeState k .lost none id s).ports = s.ports.set k { s.ports[k] with reportTimer := none } ∧
    (changeState k .lost none id s).channels = s.channels ∧ (changeState k .lost none id s).window = s.window ∧
    (changeState k .lost none id s).cfg = s.cfg := by
  have moves := changeState_slot k .lost none id s
  refine ⟨vector_eq_set ((changeState_get k k .lost none id s).trans (if_pos rfl))
    fun j other => (changeState_get k j .lost none id s).trans (if_neg other),
    changeState_ports k .lost none id s, ?_, moves.window, moves.cfg⟩
  refine Vector.ext fun i low => ?_
  exact changeState_channel k .lost none id ⟨i, low⟩ s

/-! ### A waiting slot that changes its bore (R104, R120) -/

/-- A full bore serves nothing. -/
theorem serveEntries_full (b : Bore) (s : State) (full : limitOf s b ≤ countOf s b) :
    ∀ l : List WaitEntry, serveEntries b l s = s
  | [] => rfl
  | e :: l => by
    rw [serveEntries_cons, if_neg fun both => absurd both.2 (Nat.not_lt.mpr full), serveEntries_full b s full l]

/-- Entries of which none can be issued leave everything as it is. -/
theorem serveEntries_idle (b : Bore) (s : State) : ∀ l : List WaitEntry,
    (∀ e ∈ l, boreOf s e.slot = b → canIssue s.contexts[e.slot] = false) → serveEntries b l s = s
  | [], _ => rfl
  | e :: l, idle => by
    have head : (if boreOf s e.slot = b ∧ countOf s b < limitOf s b then issueOrder e.slot s else s) = s := by
      split
      next both => exact issueOrder_of_not e.slot s (idle e List.mem_cons_self both.1)
      next => rfl
    rw [serveEntries_cons, head, serveEntries_idle b s l fun x mem => idle x (List.mem_cons_of_mem e mem)]

/-- A bore with room and the entries of one slot only issues an order for it. -/
theorem serveEntries_one (b : Bore) (k : Slot) (s : State) (bore : boreOf s k = b) (room : countOf s b < limitOf s b)
    (can : canIssue s.contexts[k] = true) : ∀ l : List WaitEntry, (∃ e ∈ l, e.slot = k) →
    (∀ e ∈ l, e.slot ≠ k → boreOf s e.slot ≠ b) → serveEntries b l s = issueOrder k s
  | [], waits, _ => nomatch waits
  | e :: l, waits, alone => by
    have later := fun x mem => alone x (List.mem_cons_of_mem e mem)
    rw [serveEntries_cons]
    by_cases own : e.slot = k
    · rw [if_pos ⟨by rw [own]; exact bore, room⟩, own]
      have issued := issueOrder_issued k s can
      refine serveEntries_idle b _ l fun x mem here => ?_
      rw [boreOf_congr issued.cfg] at here
      have same : x.slot = k := by
        by_contra other
        exact later x mem other here
      subst same
      have busy := issued.taken.2
      simp only [canIssue, busy, Bool.not_true, Bool.false_and]
    · rw [if_neg fun both => alone e List.mem_cons_self own both.1]
      refine serveEntries_one b k s bore room can l ?_ later
      obtain ⟨x, mem, same⟩ := waits
      rcases List.mem_cons.mp mem with rfl | mem
      · exact absurd same own
      · exact ⟨x, mem, same⟩

/-- What a waiting slot's new bore does where it has room and nothing of it waits. -/
theorem serveBore_moved (k : Slot) (new : ComputerConfig) (s : State)
    (room : countOf s new.bore < limitOf s new.bore) (none : boreWaits s new.bore = false)
    (waits : isWaiting s k = true) (can : canIssue s.contexts[k] = true) :
    serveBore new.bore (setComputerConfig k new s) = issueOrder k (setComputerConfig k new s) := by
  have own : boreOf (setComputerConfig k new s) k = new.bore :=
    (boreOf_setComputerConfig k k new s).trans (if_pos rfl)
  have room' : countOf (setComputerConfig k new s) new.bore < limitOf (setComputerConfig k new s) new.bore := by
    cases b : new.bore <;> rw [b] at room <;> exact room
  refine serveEntries_one new.bore k (setComputerConfig k new s) own room' can _ ?_ fun e mem other here => ?_
  · obtain ⟨e, mem, same⟩ := List.any_eq_true.mp waits
    exact ⟨e, mem, beq_iff_eq.mp same⟩
  · rw [boreOf_setComputerConfig, if_neg other] at here
    exact absurd (beq_iff_eq.mpr here) (List.any_eq_false.mp none e mem)

/-- An accepted SET-COMPUTER that changes the enabled field alone, of role, bore and enabled. -/
theorem setComputer_enabled (tag : Byte) (k : Slot) (new : ComputerConfig) (s : State)
    (ranges : computerRanges new = true) (open_ : Configurable s)
    (changed : new.enabled ≠ s.cfg.computers[k].enabled) (role : new.role = s.cfg.computers[k].role)
    (bore : new.bore = s.cfg.computers[k].bore) (unengaged : s.partState = .run → engaged s.contexts[k].state = false)
    (taken : Taken 0x10 tag (computerPayload k new) s) :
    exec (.setComputer tag (computerPayload k new)) s =
      .next (enabledChanges k new.enabled (setComputerConfig k new (repliedOk 0x10 tag s))) := by
  have placed : ¬ displaced k new s := fun out => out.elim (fun h => h role) fun h => h bore
  exact (setComputer_accepted tag k new s ranges open_ (fun run => (computerAllowed_iff k new s).mpr
    ⟨fun _ => unengaged run, fun h => absurd h placed⟩) taken).trans
    (congrArg _ (applyComputer_enabled k new (repliedOk 0x10 tag s) changed bore))

/-- Settles O8: the payload reads back; the changes of enabled go through `enabledChanges`, a change of bore through
`serveBore`, and the refusals through `computerAllowed`. -/
theorem setComputerTakesEffect : Obligations.SetComputerTakesEffect := by
  refine ⟨fun tag k new s ranges enabled role bore open_ taken => ?_,
    fun tag k new s ranges disabled new_ vacant run taken => ?_,
    fun tag k new s ranges disabled new_ unconfigured taken => ?_,
    fun tag k new s ranges enabled new_ open_ taken => ?_,
    fun tag k b new s ranges moved new_ run quiet clear waits room agrees taken => ?_,
    fun tag payload s length taken => ?_, fun tag k new s ranges run taken out => ?_⟩
  · have placed : ¬ displaced k new s := fun out => out.elim (fun h => h role) fun h => h bore
    refine (setComputer_accepted tag k new s ranges open_ (fun _ => (computerAllowed_iff k new s).mpr
      ⟨fun out => out.elim (fun h => absurd h placed) fun h => absurd enabled h, fun h => absurd h placed⟩) taken).trans
      (congrArg _ (applyComputer_plain k new (repliedOk 0x10 tag s) enabled bore))
  · have on : new.enabled = true := by rw [new_]
    have done := setComputer_enabled tag k new s ranges (.inr run) (by rw [on, disabled]; nofun) (by rw [new_])
      (by rw [new_]) (fun _ => by rw [vacant]; rfl) taken
    rw [on, enabledChanges_track k (setComputerConfig k new (repliedOk 0x10 tag s)) run] at done
    have own := setComputerConfig_own k new (repliedOk 0x10 tag s)
    have contexts := enterTrack_contexts_set k .enabled true (setComputerConfig k new (repliedOk 0x10 tag s))
    have port := enterTrack_port k .enabled true (setComputerConfig k new (repliedOk 0x10 tag s))
    rw [own] at contexts port
    refine ⟨_, done, (enterTrack_slot k .enabled true _).cfg, contexts, ?_, fun c owned => ?_⟩
    · rw [port]
      show (if reporting s.contexts[k].state then _ else _) = _
      rw [vacant]
      rfl
    · exact enterTrack_matches k .enabled true c (setComputerConfig k new (repliedOk 0x10 tag s)) owned
  · have on : new.enabled = true := by rw [new_]
    have done := setComputer_enabled tag k new s ranges (.inl unconfigured) (by rw [on, disabled]; nofun) (by rw [new_])
      (by rw [new_]) (fun run => by rw [unconfigured] at run; cases run) taken
    rw [on, enabledChanges_lost k (setComputerConfig k new (repliedOk 0x10 tag s)) unconfigured] at done
    obtain ⟨contexts, ports, channels, window, cfg⟩ :=
      changeState_lost k (setComputerConfig k new (repliedOk 0x10 tag s))
    exact ⟨_, done, cfg, contexts, ports, channels, window⟩
  · have off : new.enabled = false := by rw [new_]
    have conf : Configurable s := open_.imp id fun both => both.1
    have engaged_ : s.partState = .run → engaged s.contexts[k].state = false := fun run => by
      rcases open_ with other | ⟨-, lost | paused | fault⟩
      · rw [other] at run; cases run
      · rw [lost]; rfl
      · rw [paused]; rfl
      · rw [fault]; rfl
    have done := setComputer_enabled tag k new s ranges conf (by rw [off, enabled]; nofun) (by rw [new_])
      (by rw [new_]) engaged_ taken
    rw [off, enabledChanges_vacate k (setComputerConfig k new (repliedOk 0x10 tag s)) conf] at done
    have vacated := vacate_vacated k (setComputerConfig k new (repliedOk 0x10 tag s))
    exact ⟨_, done, vacated.cfg, vacated.contexts, vacated.ports, vacated.window,
      fun c => ⟨vacated.demands c, vacated.modes c⟩⟩
  · have bore : new.bore = b := by rw [new_]
    have same : new.enabled = s.cfg.computers[k].enabled := by rw [new_]
    have engaged_ : engaged s.contexts[k].state = false := by
      rcases quiet with lost | paused | fault
      · rw [lost]; rfl
      · rw [paused]; rfl
      · rw [fault]; rfl
    have done := (setComputer_accepted tag k new s ranges (.inr run) (fun _ => (computerAllowed_iff k new s).mpr
      ⟨fun _ => engaged_, fun _ c owned => by rw [bore]; exact agrees c owned⟩) taken).trans (congrArg _
        (applyComputer_moved k new (repliedOk 0x10 tag s) same (by rw [bore]; exact moved) waits))
    refine ⟨fun full => done.trans (congrArg _ ?_), fun free none => ?_⟩
    · rw [bore]
      exact serveEntries_full b (setComputerConfig k new (repliedOk 0x10 tag s)) (by cases b <;> exact full) _
    · have idle : s.contexts[k].state ≠ .vacant ∧ s.contexts[k].state ≠ .settle ∧ s.contexts[k].state ≠ .control := by
        rcases quiet with lost | paused | fault
        · rw [lost]; exact ⟨nofun, nofun, nofun⟩
        · rw [paused]; exact ⟨nofun, nofun, nofun⟩
        · rw [fault]; exact ⟨nofun, nofun, nofun⟩
      obtain ⟨present, unsettled, uncontrolled⟩ := idle
      have can : canIssue (repliedOk 0x10 tag s).contexts[k] = true := (canIssue_iff _).mpr ⟨clear, present, unsettled⟩
      rw [serveBore_moved k new (repliedOk 0x10 tag s) (by rw [bore]; cases b <;> exact free)
        (by rw [bore]; exact none) waits can] at done
      have issued := issueOrder_issued k (setComputerConfig k new (repliedOk 0x10 tag s)) can
      have at_ : boreOf (setComputerConfig k new (repliedOk 0x10 tag s)) k = b :=
        (boreOf_setComputerConfig k k new _).trans ((if_pos rfl).trans bore)
      have others := issueOrder_countOf_other k (setComputerConfig k new (repliedOk 0x10 tag s)) (boreOf s k)
        (by rw [at_]; exact moved.symm)
      have silent : revocation k .order (setComputerConfig k new (repliedOk 0x10 tag s)) = [] := if_neg uncontrolled
      have count := issued.count
      have port := issued.port
      rw [silent, List.append_nil, setComputerConfig_own] at port
      rw [at_] at count
      refine ⟨_, done, issued.cfg, issued.taken.1, issued.taken.2, ?_, ?_, issued.waitList, ?_,
        fun j other => issued.left other⟩
      · rw [count]
        cases b <;> rfl
      · rw [others]
        cases boreOf s k <;> rfl
      · rw [port room]
        rfl
  · exact ⟨fun above => takeCommand_refused _ _ _ _ _ _ taken (setComputerAnswer_above payload _ length above),
      fun open_ within refused => takeCommand_refused _ _ _ _ _ _ taken
        (setComputerAnswer_refused payload (leaveQueue s) length open_ within refused)⟩
  · refine takeCommand_refused _ _ _ _ _ _ taken
      ((setComputerAnswer_payload k new (leaveQueue s) ranges (.inr run)).trans (if_pos ⟨run, ?_⟩))
    refine Bool.eq_false_iff.mpr fun allowed => ?_
    obtain ⟨unengaged, agree⟩ := (computerAllowed_iff k new (leaveQueue s)).mp allowed
    rcases out with ⟨held, changed⟩ | ⟨placed, c, owned, differs⟩
    · have quiet : engaged s.contexts[k].state = false := unengaged (by
        rcases changed with enabled | role | bore
        · exact .inr enabled
        · exact .inl (.inl role)
        · exact .inl (.inr bore))
      rw [leavesFallback_some, quiet] at held
      cases held
    · obtain ⟨role, bore⟩ := agree placed c owned
      exact differs.elim (fun other => other bore) fun other => other ((roleMatches_iff _ _).mp role)

end Sys2Proof.Proofs
end
